-- ==== Sys2Proof/Word.lean ====
section
/-! DEFINITION. The bit-vector words of the engine's interface (00 R4, R9). Quantities that the manual only counts,
compares or adds exactly (R15) are natural numbers or integers; a bit vector stands where the manual treats a value as
bits. -/

namespace Sys2Proof

/-- One byte of a record, message or register (R4). -/
abbrev Byte := BitVec 8
/-- A BAR2 register (R9). -/
abbrev Word := BitVec 32
/-- A 64-bit word of the keyed hash, the Philox key and the register pairs (R13, R61, R170). -/
abbrev DWord := BitVec 64
/-- A record, message or frame as bytes, byte 0 first (R4). -/
abbrev Bytes := List Byte

end Sys2Proof
end

