-- ==== Sys2Proof/Syntax.lean ====
section
/-! DEFINITION. The commands of the block: one constructor per row of spec/opcode_table.json, with the row's operands.
The first operand `t` of every command is the fabric timestamp [ns] at which it happens (13 R349). Records, messages and
frames from outside are raw bytes (00 R4); the other operands name the unit, session or access the row speaks of. -/

namespace Sys2Proof

/-- How an HBM copy or a re-read came back (03 R68, 07 R182): good, an uncorrectable error, or a failed check. -/
inductive ReadResult where
  | good
  | uncorrectable
  | badCheck
  deriving DecidableEq, Repr

/-- A UDP datagram as the AON mailbox receives it: its IPv6 source address and its payload (14 R395). -/
structure Datagram where
  src : Bytes
  body : Bytes
  deriving DecidableEq, Repr

/-- How the checks of a MOV channel went at a page leg (09 R242): they held, the channel's own checks failed, or its
descriptor failed CHECK. -/
inductive MovCheck where
  | held
  | channel
  | descriptor
  deriving DecidableEq, Repr

/-- A unit other than a sampler lane that fails the BIST of start-up (01 R26, R28). -/
inductive BistUnit where
  /-- A directory slice. -/
  | slice (n : Nat)
  /-- A MOV channel. -/
  | channel (n : Nat)
  /-- A compute core of a group. -/
  | core (group core : Nat)
  /-- An HBM stack, and whether weights were lost with it. -/
  | stack (n : Nat) (weightsLost : Bool)
  /-- A far target. -/
  | target (n : Nat)
  /-- A regulator phase of a rail. -/
  | phase (rail n : Nat)
  /-- The current sense of a rail. -/
  | sense (rail : Nat)
  deriving DecidableEq, Repr

/-- An external leg that has reached twice its bound (02 R40, R405), with the unit that waits for it. -/
inductive Leg where
  /-- The producer-window read of a slot (04 R81). -/
  | window (slot : Nat)
  /-- The read of backing copy A for a tag (03 R68). -/
  | copyA (tag : Nat)
  /-- The read of backing copy B for a tag (03 R68). -/
  | copyB (tag : Nat)
  /-- The logit-buffer read of a lane's restart (07 R183). -/
  | lane (lane : Nat)
  /-- The logit-buffer read of a second-pass round, or one of its fabric hops, from a Tail rank (07 R180). -/
  | round (tag pos rank : Nat)
  /-- The last word of an instar's descriptor (05 R126). -/
  | descriptor (instar : Nat)
  /-- The single-copy T3 journal write of a SOLO wing (10 R256). -/
  | t3Journal
  /-- A page leg of a MOV channel (09 R242). -/
  | page (channel : Nat)
  /-- A migration request to the twin rank for a tag (09 R235). -/
  | migrate (tag : Nat)
  /-- The save or restore of a group (06 Table 6-5 cause 4). -/
  | groupMove (group : Nat)
  /-- The read of an outcome word of a producer's sequence (04 R81). -/
  | outcome (pid pseq : Nat)
  /-- The read of a draft's edges for a session (08 R206). -/
  | draftEdge (tag : Nat)
  /-- The read of a wait record (09 R221). -/
  | waitRecord (tenant tool : Nat)
  /-- The copy of a structure into the peek window (13 R375). -/
  | peekCopy
  /-- The reads of a prefix match for a session (05 R120). -/
  | prefixMatch (tag : Nat)
  deriving DecidableEq, Repr

/-- The commands. -/
inductive Instr where
  -- host accesses of BAR2 (00, 13)
  | bar2BadAccess (t : Nat) (write : Bool) (off : Nat)
  | registerWrite (t off : Nat) (val : Word) (req : Nat)
  | readClear (t off : Nat) (same : Word)
  | w1cClear (t off : Nat) (val same : Word)
  | pairLoRead (t off : Nat)
  | pairLoWrite (t off : Nat) (val : Word) (req : Nat)
  | pairHiWrite (t off : Nat) (val : Word) (req : Nat)
  | peekRead (t off : Nat)
  | stagedWrite (t off : Nat) (val : Word) (req : Nat)
  -- islands and legs (02)
  | stretchWindowEnd (t island : Nat)
  | legTimeout (t : Nat) (leg : Leg)
  -- directory (03)
  | dirLookup (t tag requester : Nat)
  | dirMissFill (t tag : Nat) (r : ReadResult)
  | dirCopyBRead (t tag : Nat) (r : ReadResult)
  | insertWindowEnd (t : Nat)
  | dirSliceFailed (t slice : Nat)
  | blockReq (t : Nat) (msg : Bytes)
  | backingCopyDone (t : Nat)
  | sessionExpiry (t tag : Nat)
  | sessionRebuild (t tag : Nat) (other : Bytes)
  -- ingress records (04)
  | ingOpen (t : Nat) (rec : Bytes) (src units : Nat)
  | ingTurn (t : Nat) (rec : Bytes) (src units : Nat)
  | ingResume (t : Nat) (rec : Bytes) (src units : Nat)
  | ingClose (t : Nat) (rec : Bytes) (src units : Nat)
  | ingPin (t : Nat) (rec : Bytes) (src units : Nat)
  | ingProbe (t : Nat) (rec : Bytes) (src units : Nat)
  | ingAmend (t : Nat) (rec : Bytes) (src units : Nat)
  | ingressUnknownType (t : Nat) (rec : Bytes) (src units : Nat)
  | producerWindowFill (t slot : Nat)
  | outcomeWordRead (t slot seq : Nat)
  -- composing (05)
  | tailSummary (t : Nat) (msg : Bytes)
  | idleInstarEnd (t : Nat)
  | instarDescriptor (t : Nat) (msg : Bytes)
  | resendRequest (t : Nat) (msg : Bytes)
  | instarEndReport (t : Nat) (msg : Bytes)
  | instarWatchdog (t : Nat)
  -- dispatch (06)
  | dsqKernel (t part job : Nat) (raw : Bytes)
  | dsqAcquire (t part job : Nat) (raw : Bytes)
  | dsqRelease (t part job : Nat) (raw : Bytes)
  | dsqLinkGet (t part job : Nat) (raw : Bytes)
  | dsqLinkPut (t part job : Nat) (raw : Bytes)
  | dsqLayer (t part job : Nat) (raw : Bytes)
  | dsqEnd (t part job : Nat) (raw : Bytes)
  | kernelComplete (t part job : Nat)
  | haltAck (t part job : Nat)
  | groupSaveDone (t group : Nat) (ok : Bool)
  | groupRestoreDone (t group : Nat) (ok : Bool)
  | contextLoadDone (t group : Nat) (ok : Bool)
  | coreMachineCheck (t group core : Nat)
  | kernelWatchdog (t part job : Nat)
  | clusterHbmError (t part : Nat)
  | partitionReady (t part : Nat)
  | voidNotice (t : Nat) (msg : Bytes)
  | abortMsg (t : Nat) (msg : Bytes)
  | tensorDumpDone (t bytes : Nat)
  | dsqStepGo (t req : Nat) (val : Word)
  -- sampling (07)
  | logitStream (t : Nat) (msg : Bytes)
  | tailSweep (t lane : Nat)
  | logitBufferReadDone (t lane : Nat) (msg : Bytes)
  | smpLaneRetired (t lane cause : Nat)
  | select (t : Nat) (msg : Bytes)
  | draft (t : Nat) (msg : Bytes)
  | draftEdgeReadDone (t tag : Nat)
  | refineRequest (t : Nat) (msg : Bytes)
  | refineReply (t : Nat) (msg note : Bytes)
  | summaryRerequest (t : Nat) (tag pos : Nat)
  | grammarNote (t : Nat) (msg : Bytes)
  | grammarReadError (t tag rank : Nat) (again : Bool)
  -- local tools (08)
  | toolOrder (t : Nat) (msg : Bytes)
  | toolCancel (t : Nat) (msg : Bytes)
  | toolPart (t : Nat) (msg : Bytes) (labels : List (List Nat))
  | toolPartTimeout (t instar tag : Nat) (labels : List (List Nat))
  -- placement (09)
  | pupate (t : Nat) (msg : Bytes)
  | eclose (t : Nat) (msg : Bytes)
  | demote (t : Nat) (msg : Bytes)
  | spill (t : Nat) (msg : Bytes)
  | refill (t : Nat) (msg : Bytes)
  | free (t : Nat) (msg : Bytes)
  | cancel (t : Nat) (msg : Bytes)
  | reserve (t : Nat) (msg : Bytes)
  | prefixCopy (t : Nat) (msg : Bytes)
  | migrate (t : Nat) (msg : Bytes)
  | orderTimeDue (t tag : Nat)
  | calendarLoad (t : Nat)
  | ttlExpiry (t tag : Nat)
  | pinExpiry (t tag : Nat)
  | waitRecordFill (t tenant tool : Nat)
  | waitRecordDecay (t tenant tool : Nat)
  | prefixSketchHalve (t : Nat)
  | pageLegDone (t channel : Nat) (ok : Bool) (crc : Nat) (chk : MovCheck)
  | moveEndReport (t : Nat) (msg : Bytes)
  | nicConnectionLost (t target : Nat)
  | nvmeNamespaceFailed (t target : Nat)
  | hbmStackFailed (t stack : Nat) (weightsLost : Bool)
  | migReq (t : Nat) (msg : Bytes)
  | migData (t : Nat) (msg : Bytes)
  -- twin wings and journal (10)
  | journalBatch (t : Nat) (msg : Bytes) (stored : Nat)
  | ack (t : Nat) (msg : Bytes)
  | nak (t : Nat) (msg : Bytes)
  | batchAckTimeout (t first : Nat)
  | twinLinkDown (t : Nat)
  | hello (t : Nat) (msg : Bytes)
  | helloTimer (t : Nat)
  | handover (t : Nat) (msg : Bytes)
  | grant (t : Nat) (msg : Datagram)
  | deny (t : Nat) (msg : Datagram)
  | witnessRetry (t : Nat)
  | leaseRenew (t : Nat)
  | leaseEnd (t : Nat)
  | seekingPause (t : Nat)
  | fencedRetry (t : Nat)
  | consumerAck (t : Nat) (msg : Bytes) (src : Nat)
  | emitAgain (t tag : Nat)
  | controlBatchTimer (t : Nat)
  | snapshotTimer (t : Nat)
  | snapStart (t : Nat) (val : Word)
  | snapshotWriteDone (t rank : Nat) (rep : Option Bytes)
  | t3WriteDone (t first : Nat) (ok : Bool)
  | snapData (t : Nat) (msg : Bytes)
  -- energy and heat (11)
  | fastLoop (t : Nat) (vcoreMa vsramMa : List Int) (mv : List Nat) (stretch tHot sensor kMean : Nat) (pulses : List Nat) (toolPulses : List (Nat × Nat))
  | pmbusPoll (t : Nat)
  | pmbusDone (t rail pout status : Nat) (phases : List Nat) (failed : List Nat)
  | vdone (t rail mv : Nat)
  | clockAck (t : Nat)
  | slewTimeout (t rail mv : Nat)
  | excitationTest (t : Nat)
  | quietRequest (t : Nat)
  | deficitMs (t : Nat)
  | surplus (t : Nat)
  | unattainableCheck (t meanW : Nat)
  | unattainableExit (t meanW : Nat)
  | shedOnCap (t misses : Nat)
  | regAlert (t rail addr status phase : Nat)
  | regAlertClear (t : Nat)
  | regAlertTimeout (t : Nat)
  | alertHoldEnd (t : Nat)
  | coolFlowLost (t : Nat)
  | coolFlowEscalate (t : Nat)
  | coolFlowRestored (t : Nat)
  | thermalCrit (t temp sensor : Nat)
  | thermalCritTimeout (t temp : Nat)
  -- image, start-up, hold-up (12)
  | vaonGood (t : Nat) (fuses : Bytes)
  | railPowerGood (t rail : Nat)
  | flashStatusWriteDone (t : Nat) (ok : Bool)
  | hbmReady (t : Nat) (lanes : List Nat) (units : List BistUnit)
  | engResetInput (t : Nat)
  | resetEngine (t req : Nat)
  | resetFlutter (t req : Nat)
  | flutterReset (t : Nat) (msg : Bytes)
  | aonWatchdog (t island : Nat)
  | flashErase (t req addr : Nat)
  | flashProgram (t req addr : Nat)
  | flashRead (t req addr : Nat)
  | flashValidate (t req addr : Nat)
  | flashOpDone (t : Nat) (result : Nat)
  | pfWarn (t : Nat)
  | pfWarnClear (t : Nat)
  | holdupInstarTimeout (t : Nat)
  | flushWriteDone (t : Nat)
  | rideTimeout (t : Nat)
  | dwellEnd (t : Nat)
  | railPowerFail (t rail : Nat)
  | pdRailTimeout (t : Nat)
  -- counters, trace, debug, self-test (13)
  | snapshotEpoch (t : Nat)
  | eventPost (t : Nat)
  | ptpMeasurement (t : Nat) (offset : Int) (ptpTime : Nat)
  | ptpHoldover (t : Nat)
  | counterSelect (t off : Nat) (val : Word)
  | ringConsWrite (t ring : Nat) (val : Word)
  | ringFlush (t ring : Nat) (val : Word)
  | ringHoldoffEnd (t ring : Nat)
  | traceSend (t : Nat)
  | mark (t : Nat) (val : Word)
  | lockAcquire (t req : Nat)
  | lockRenew (t req : Nat)
  | lockRelease (t req : Nat)
  | lockReleaseCommit (t req : Nat)
  | lockLeaseEnd (t : Nat)
  | servicePortReset (t cause : Nat)
  | peekArg (t : Nat) (val : Word)
  | peekCopyDone (t : Nat)
  | dbgCtrlWrite (t : Nat) (val : Word) (req : Nat)
  | instarGo (t : Nat) (val : Word) (req : Nat)
  | testRequest (t : Nat) (val : Word) (req : Nat)
  | testCancel (t req : Nat)
  | testStart (t : Nat)
  | testEnd (t : Nat) (pass : Bool) (failAddr syndrome : Nat)
  | laneTestAbort (t : Nat)
  -- boundary (14) and the rows added last
  | fabricFrameBad (t : Nat) (msg : Bytes)
  | linkCreditReturn (t part : Nat) (n : Nat)
  | coolFlowOkHigh (t : Nat)
  | islandDroop (t island : Nat) (on : Bool)
  | prefixMatchDone (t tag : Nat)
  | t3ReadDone (t : Nat) (recs : Bytes) (manifestOk : Bool)
  | trailWriteDone (t : Nat)
  deriving DecidableEq, Repr

end Sys2Proof
end

