-- ==== Sys2Proof/WellFormed.lean ====
section
/-! DEFINITION. Which commands are well formed: the timestamp is a 64-bit count of nanoseconds (00, 13 R349) and an operand
that names one of a fixed number of units names one that exists. -/

namespace Sys2Proof

/-- The fabric timestamp at which a command happens. -/
def Instr.time : Instr → Nat
  | .bar2BadAccess t .. => t
  | .registerWrite t .. => t
  | .readClear t .. => t
  | .w1cClear t .. => t
  | .pairLoRead t .. => t
  | .pairLoWrite t .. => t
  | .pairHiWrite t .. => t
  | .peekRead t .. => t
  | .stagedWrite t .. => t
  | .stretchWindowEnd t .. => t
  | .legTimeout t .. => t
  | .dirLookup t .. => t
  | .dirMissFill t .. => t
  | .dirCopyBRead t .. => t
  | .insertWindowEnd t .. => t
  | .dirSliceFailed t .. => t
  | .blockReq t .. => t
  | .backingCopyDone t .. => t
  | .sessionExpiry t .. => t
  | .sessionRebuild t .. => t
  | .ingOpen t .. => t
  | .ingTurn t .. => t
  | .ingResume t .. => t
  | .ingClose t .. => t
  | .ingPin t .. => t
  | .ingProbe t .. => t
  | .ingAmend t .. => t
  | .ingressUnknownType t .. => t
  | .producerWindowFill t .. => t
  | .outcomeWordRead t .. => t
  | .tailSummary t .. => t
  | .idleInstarEnd t .. => t
  | .instarDescriptor t .. => t
  | .resendRequest t .. => t
  | .instarEndReport t .. => t
  | .instarWatchdog t .. => t
  | .dsqKernel t .. => t
  | .dsqAcquire t .. => t
  | .dsqRelease t .. => t
  | .dsqLinkGet t .. => t
  | .dsqLinkPut t .. => t
  | .dsqLayer t .. => t
  | .dsqEnd t .. => t
  | .kernelComplete t .. => t
  | .haltAck t .. => t
  | .groupSaveDone t .. => t
  | .groupRestoreDone t .. => t
  | .contextLoadDone t .. => t
  | .coreMachineCheck t .. => t
  | .kernelWatchdog t .. => t
  | .clusterHbmError t .. => t
  | .partitionReady t .. => t
  | .voidNotice t .. => t
  | .abortMsg t .. => t
  | .tensorDumpDone t .. => t
  | .dsqStepGo t .. => t
  | .logitStream t .. => t
  | .tailSweep t .. => t
  | .logitBufferReadDone t .. => t
  | .smpLaneRetired t .. => t
  | .select t .. => t
  | .draft t .. => t
  | .draftEdgeReadDone t .. => t
  | .refineRequest t .. => t
  | .refineReply t .. => t
  | .summaryRerequest t .. => t
  | .grammarNote t .. => t
  | .grammarReadError t .. => t
  | .toolOrder t .. => t
  | .toolCancel t .. => t
  | .toolPart t .. => t
  | .toolPartTimeout t .. => t
  | .pupate t .. => t
  | .eclose t .. => t
  | .demote t .. => t
  | .spill t .. => t
  | .refill t .. => t
  | .free t .. => t
  | .cancel t .. => t
  | .reserve t .. => t
  | .prefixCopy t .. => t
  | .migrate t .. => t
  | .orderTimeDue t .. => t
  | .calendarLoad t .. => t
  | .ttlExpiry t .. => t
  | .pinExpiry t .. => t
  | .waitRecordFill t .. => t
  | .waitRecordDecay t .. => t
  | .prefixSketchHalve t .. => t
  | .pageLegDone t .. => t
  | .moveEndReport t .. => t
  | .nicConnectionLost t .. => t
  | .nvmeNamespaceFailed t .. => t
  | .hbmStackFailed t .. => t
  | .migReq t .. => t
  | .migData t .. => t
  | .journalBatch t .. => t
  | .ack t .. => t
  | .nak t .. => t
  | .batchAckTimeout t .. => t
  | .twinLinkDown t .. => t
  | .hello t .. => t
  | .helloTimer t .. => t
  | .handover t .. => t
  | .grant t .. => t
  | .deny t .. => t
  | .witnessRetry t .. => t
  | .leaseRenew t .. => t
  | .leaseEnd t .. => t
  | .seekingPause t .. => t
  | .fencedRetry t .. => t
  | .consumerAck t .. => t
  | .emitAgain t .. => t
  | .controlBatchTimer t .. => t
  | .snapshotTimer t .. => t
  | .snapStart t .. => t
  | .snapshotWriteDone t .. => t
  | .t3WriteDone t .. => t
  | .snapData t .. => t
  | .fastLoop t .. => t
  | .pmbusPoll t .. => t
  | .pmbusDone t .. => t
  | .vdone t .. => t
  | .clockAck t .. => t
  | .slewTimeout t .. => t
  | .excitationTest t .. => t
  | .quietRequest t .. => t
  | .deficitMs t .. => t
  | .surplus t .. => t
  | .unattainableCheck t .. => t
  | .unattainableExit t .. => t
  | .shedOnCap t .. => t
  | .regAlert t .. => t
  | .regAlertClear t .. => t
  | .regAlertTimeout t .. => t
  | .alertHoldEnd t .. => t
  | .coolFlowLost t .. => t
  | .coolFlowEscalate t .. => t
  | .coolFlowRestored t .. => t
  | .thermalCrit t .. => t
  | .thermalCritTimeout t .. => t
  | .vaonGood t .. => t
  | .railPowerGood t .. => t
  | .flashStatusWriteDone t .. => t
  | .hbmReady t .. => t
  | .engResetInput t .. => t
  | .resetEngine t .. => t
  | .resetFlutter t .. => t
  | .flutterReset t .. => t
  | .aonWatchdog t .. => t
  | .flashErase t .. => t
  | .flashProgram t .. => t
  | .flashRead t .. => t
  | .flashValidate t .. => t
  | .flashOpDone t .. => t
  | .pfWarn t .. => t
  | .pfWarnClear t .. => t
  | .holdupInstarTimeout t .. => t
  | .flushWriteDone t .. => t
  | .rideTimeout t .. => t
  | .dwellEnd t .. => t
  | .railPowerFail t .. => t
  | .pdRailTimeout t .. => t
  | .snapshotEpoch t .. => t
  | .eventPost t .. => t
  | .ptpMeasurement t .. => t
  | .ptpHoldover t .. => t
  | .counterSelect t .. => t
  | .ringConsWrite t .. => t
  | .ringFlush t .. => t
  | .ringHoldoffEnd t .. => t
  | .traceSend t .. => t
  | .mark t .. => t
  | .lockAcquire t .. => t
  | .lockRenew t .. => t
  | .lockRelease t .. => t
  | .lockReleaseCommit t .. => t
  | .lockLeaseEnd t .. => t
  | .servicePortReset t .. => t
  | .peekArg t .. => t
  | .peekCopyDone t .. => t
  | .dbgCtrlWrite t .. => t
  | .instarGo t .. => t
  | .testRequest t .. => t
  | .testCancel t .. => t
  | .testStart t .. => t
  | .testEnd t .. => t
  | .laneTestAbort t .. => t
  | .fabricFrameBad t .. => t
  | .linkCreditReturn t .. => t
  | .coolFlowOkHigh t .. => t
  | .islandDroop t .. => t
  | .prefixMatchDone t .. => t
  | .t3ReadDone t .. => t
  | .trailWriteDone t .. => t

/-- The unit that fails BIST exists: the counts of `Instr.unitOk`; whether the image has a far target is not the command's. -/
def BistUnit.ok : BistUnit → Bool
  | .slice n => decide (n < 4)
  | .channel n => decide (n < 64)
  | .core g c => decide (g < 1600 ∧ c < 16)
  | .stack n _ => decide (n < 8)
  | .target _ => true
  | .phase rail _ => decide (rail < 6)
  | .sense rail => decide (rail < 2)

/-- The unit a command names exists: 18 islands (02 Table 2-1), 4 directory slices (03 R61), 6 rails of which VCORE and
VSRAM move (11 Table 11-2, 12 Table 12-9), 8 HBM stacks (09 R210), 64 lanes (07 R160), 4 event rings (13 R363), 25,600 cores
in 1,600 groups of 16 (06 R131), 64 MOV channels (09 R238). -/
def Instr.unitOk : Instr → Bool
  | .stretchWindowEnd _ island => decide (island < 18)
  | .dirSliceFailed _ slice => decide (slice < 4)
  | .groupSaveDone _ group _ => decide (group < 1600)
  | .groupRestoreDone _ group _ => decide (group < 1600)
  | .contextLoadDone _ group _ => decide (group < 1600)
  | .coreMachineCheck _ group core => decide (group < 1600 ∧ core < 16)
  | .tailSweep _ lane => decide (lane < 64)
  | .logitBufferReadDone _ lane _ => decide (lane < 64)
  | .smpLaneRetired _ lane _ => decide (lane < 64)
  | .pageLegDone _ channel _ _ _ => decide (channel < 64)
  | .hbmStackFailed _ stack _ => decide (stack < 8)
  | .pmbusDone _ rail _ _ _ _ => decide (rail < 6)
  | .vdone _ rail _ => decide (rail < 2)
  | .slewTimeout _ rail _ => decide (rail < 2)
  | .regAlert _ rail _ _ _ => decide (rail < 6)
  | .railPowerGood _ rail => decide (rail < 6)
  | .aonWatchdog _ island => decide (island < 18)
  | .railPowerFail _ rail => decide (rail < 6)
  | .ringConsWrite _ ring _ => decide (ring < 4)
  | .ringFlush _ ring _ => decide (ring < 4)
  | .ringHoldoffEnd _ ring => decide (ring < 4)
  | .islandDroop _ island _ => decide (island < 18)
  | .bar2BadAccess .. => true
  | .registerWrite .. => true
  | .readClear .. => true
  | .w1cClear .. => true
  | .pairLoRead .. => true
  | .pairLoWrite .. => true
  | .pairHiWrite .. => true
  | .peekRead .. => true
  | .stagedWrite .. => true
  | .legTimeout .. => true
  | .dirLookup .. => true
  | .dirMissFill .. => true
  | .dirCopyBRead .. => true
  | .insertWindowEnd .. => true
  | .blockReq .. => true
  | .backingCopyDone .. => true
  | .sessionExpiry .. => true
  | .sessionRebuild .. => true
  | .ingOpen .. => true
  | .ingTurn .. => true
  | .ingResume .. => true
  | .ingClose .. => true
  | .ingPin .. => true
  | .ingProbe .. => true
  | .ingAmend .. => true
  | .ingressUnknownType .. => true
  | .producerWindowFill .. => true
  | .outcomeWordRead .. => true
  | .tailSummary .. => true
  | .idleInstarEnd .. => true
  | .instarDescriptor .. => true
  | .resendRequest .. => true
  | .instarEndReport .. => true
  | .instarWatchdog .. => true
  | .dsqKernel .. => true
  | .dsqAcquire .. => true
  | .dsqRelease .. => true
  | .dsqLinkGet .. => true
  | .dsqLinkPut .. => true
  | .dsqLayer .. => true
  | .dsqEnd .. => true
  | .kernelComplete .. => true
  | .haltAck .. => true
  | .kernelWatchdog .. => true
  | .clusterHbmError .. => true
  | .partitionReady .. => true
  | .voidNotice .. => true
  | .abortMsg .. => true
  | .tensorDumpDone .. => true
  | .dsqStepGo .. => true
  | .logitStream .. => true
  | .select .. => true
  | .draft .. => true
  | .draftEdgeReadDone .. => true
  | .refineRequest .. => true
  | .refineReply .. => true
  | .summaryRerequest .. => true
  | .grammarNote .. => true
  | .grammarReadError .. => true
  | .toolOrder .. => true
  | .toolCancel .. => true
  | .toolPart .. => true
  | .toolPartTimeout .. => true
  | .pupate .. => true
  | .eclose .. => true
  | .demote .. => true
  | .spill .. => true
  | .refill .. => true
  | .free .. => true
  | .cancel .. => true
  | .reserve .. => true
  | .prefixCopy .. => true
  | .migrate .. => true
  | .orderTimeDue .. => true
  | .calendarLoad .. => true
  | .ttlExpiry .. => true
  | .pinExpiry .. => true
  | .waitRecordFill .. => true
  | .waitRecordDecay .. => true
  | .prefixSketchHalve .. => true
  | .moveEndReport .. => true
  | .nicConnectionLost .. => true
  | .nvmeNamespaceFailed .. => true
  | .migReq .. => true
  | .migData .. => true
  | .journalBatch .. => true
  | .ack .. => true
  | .nak .. => true
  | .batchAckTimeout .. => true
  | .twinLinkDown .. => true
  | .hello .. => true
  | .helloTimer .. => true
  | .handover .. => true
  | .grant .. => true
  | .deny .. => true
  | .witnessRetry .. => true
  | .leaseRenew .. => true
  | .leaseEnd .. => true
  | .seekingPause .. => true
  | .fencedRetry .. => true
  | .consumerAck .. => true
  | .emitAgain .. => true
  | .controlBatchTimer .. => true
  | .snapshotTimer .. => true
  | .snapStart .. => true
  | .snapshotWriteDone .. => true
  | .t3WriteDone .. => true
  | .snapData .. => true
  | .fastLoop .. => true
  | .pmbusPoll .. => true
  | .clockAck .. => true
  | .excitationTest .. => true
  | .quietRequest .. => true
  | .deficitMs .. => true
  | .surplus .. => true
  | .unattainableCheck .. => true
  | .unattainableExit .. => true
  | .shedOnCap .. => true
  | .regAlertClear .. => true
  | .regAlertTimeout .. => true
  | .alertHoldEnd .. => true
  | .coolFlowLost .. => true
  | .coolFlowEscalate .. => true
  | .coolFlowRestored .. => true
  | .thermalCrit .. => true
  | .thermalCritTimeout .. => true
  | .vaonGood .. => true
  | .flashStatusWriteDone .. => true
  | .hbmReady _ lanes units => lanes.all (· < 64) && units.all BistUnit.ok
  | .engResetInput .. => true
  | .resetEngine .. => true
  | .resetFlutter .. => true
  | .flutterReset .. => true
  | .flashErase .. => true
  | .flashProgram .. => true
  | .flashRead .. => true
  | .flashValidate .. => true
  | .flashOpDone .. => true
  | .pfWarn .. => true
  | .pfWarnClear .. => true
  | .holdupInstarTimeout .. => true
  | .flushWriteDone .. => true
  | .rideTimeout .. => true
  | .dwellEnd .. => true
  | .pdRailTimeout .. => true
  | .snapshotEpoch .. => true
  | .eventPost .. => true
  | .ptpMeasurement .. => true
  | .ptpHoldover .. => true
  | .counterSelect .. => true
  | .traceSend .. => true
  | .mark .. => true
  | .lockAcquire .. => true
  | .lockRenew .. => true
  | .lockRelease .. => true
  | .lockReleaseCommit .. => true
  | .lockLeaseEnd .. => true
  | .servicePortReset .. => true
  | .peekArg .. => true
  | .peekCopyDone .. => true
  | .dbgCtrlWrite .. => true
  | .instarGo .. => true
  | .testRequest .. => true
  | .testCancel .. => true
  | .testStart .. => true
  | .testEnd .. => true
  | .laneTestAbort .. => true
  | .fabricFrameBad .. => true
  | .linkCreditReturn .. => true
  | .coolFlowOkHigh .. => true
  | .prefixMatchDone .. => true
  | .t3ReadDone .. => true
  | .trailWriteDone .. => true

/-- A command is well formed. -/
def Instr.wf (c : Instr) : Bool := decide (c.time < 2 ^ 64) && c.unitOk

end Sys2Proof
end

