-- ==== Sys2Proof/Decode.lean ====
section
/-! DEFINITION. The command that a word spells. The table of operations gives no row any bits (opcode_table.json, "fields"
empty in every row), so no word spells a command. Log entry 2. -/

namespace Sys2Proof

/-- The command spelled by `nbits` bits `w`: none, since no row of the table has bits. -/
def decodeTableWord (_nbits _w : Nat) : Option Instr := none

end Sys2Proof
end

