-- ==== Sys2Proof/Machine/Tab.lean ====
section
/-! DEFINITION. Sparse tables keyed by a natural number: a list of key and value pairs with strictly rising keys. Every
indexed store of the engine (directory backing, producer table, register file, partitions, ...) is one. -/

namespace Sys2Proof

/-- A sparse table: strictly rising keys (`Tab.wf`). -/
abbrev Tab (α : Type) := List (Nat × α)

/-- The value at key `k`, if listed. -/
def Tab.get? {α : Type} : Tab α → Nat → Option α
  | [], _ => none
  | (j, v) :: m, k => if j = k then some v else if k < j then none else Tab.get? m k

/-- The value at key `k`, or `d` where none is listed. -/
def Tab.getD {α : Type} (m : Tab α) (k : Nat) (d : α) : α := (Tab.get? m k).getD d

/-- Lists `v` at key `k`, keeping keys strictly rising. -/
def Tab.put {α : Type} : Tab α → Nat → α → Tab α
  | [], k, v => [(k, v)]
  | (j, w) :: m, k, v =>
    if k < j then (k, v) :: (j, w) :: m
    else if k = j then (k, v) :: m
    else (j, w) :: Tab.put m k v

/-- Removes key `k`. -/
def Tab.del {α : Type} : Tab α → Nat → Tab α
  | [], _ => []
  | (j, w) :: m, k => if j = k then m else if k < j then (j, w) :: m else (j, w) :: Tab.del m k

/-- Changes the value at key `k` if it is listed. -/
def Tab.modify {α : Type} (m : Tab α) (k : Nat) (f : α → α) : Tab α :=
  match Tab.get? m k with
  | none => m
  | some v => Tab.put m k (f v)

/-- Writes `v` at key `k` of a table whose unlisted keys read `d`: the value `d` is not listed. -/
def Tab.write {α : Type} [DecidableEq α] (m : Tab α) (d : α) (k : Nat) (v : α) : Tab α :=
  if v = d then Tab.del m k else Tab.put m k v

/-- The values, in key order. -/
def Tab.vals {α : Type} (m : Tab α) : List α := m.map Prod.snd
/-- The keys, in order. -/
def Tab.keys {α : Type} (m : Tab α) : List Nat := m.map Prod.fst

/-- Every listed value changed by `f`. -/
def Tab.mapVals {α β : Type} (m : Tab α) (f : Nat → α → β) : Tab β := m.map fun p => (p.1, f p.1 p.2)

/-- Strictly rising keys, all above `lo` where `lo` is given. -/
def Tab.risingFrom {α : Type} : Option Nat → Tab α → Bool
  | _, [] => true
  | none, (k, _) :: m => Tab.risingFrom (some k) m
  | some lo, (k, _) :: m => decide (lo < k) && Tab.risingFrom (some k) m

/-- The canonical form: strictly rising keys. -/
def Tab.wf {α : Type} (m : Tab α) : Bool := Tab.risingFrom none m

/-- The canonical form of a table whose unlisted keys read `d`: strictly rising keys, and `d` is not listed. -/
def Tab.wfD {α : Type} [DecidableEq α] (d : α) (m : Tab α) : Bool :=
  Tab.wf m && m.all fun p => decide (p.2 ≠ d)

/-- Inserts `a` before the first element that `le` does not put before it: one step of an insertion sort. -/
def insertBy {α : Type} (le : α → α → Bool) (a : α) : List α → List α
  | [] => [a]
  | b :: l => if le a b then a :: b :: l else b :: insertBy le a l

/-- Sorts by `le`. Equal elements keep their order. -/
def sortBy {α : Type} (le : α → α → Bool) (l : List α) : List α := l.foldr (insertBy le) []

/-- Changes the elements that meet `p`. -/
def updWhere {α : Type} (p : α → Bool) (f : α → α) (l : List α) : List α := l.map fun a => if p a then f a else a

/-- The least of a list, or `d` when it is empty. -/
def minD (d : Nat) : List Nat → Nat
  | [] => d
  | a :: l => l.foldl Nat.min a

/-- The greatest of a list, 0 when it is empty. -/
def max0 (l : List Nat) : Nat := l.foldl Nat.max 0

/-- The sum of a list. -/
def sumN (l : List Nat) : Nat := l.foldl (· + ·) 0

/-- Division rounding up; 0 for a zero divisor. -/
def ceilDiv (a b : Nat) : Nat := if b = 0 then 0 else (a + b - 1) / b

end Sys2Proof
end

