-- ==== Sys2Proof/Machine/Bytes.lean ====
section
/-! DEFINITION. Bytes of records and messages (00 R4: little-endian), and the standard functions the manual cites:
CRC-32C (03 R60), SipHash-2-4 (03 R61), SHA-256 and HMAC-SHA-256 (04 R78, FIPS 180-4, RFC 2104), Philox4x32-10
(07 R170), AES-256 key unwrap (12 R327, RFC 3394) and ECDSA P-256 verification (12 R326, FIPS 186-4). -/

namespace Sys2Proof

/-- Byte `i`; a byte past the end reads 0. -/
def byteAt (b : Bytes) (i : Nat) : Nat := (b.getD i 0).toNat

/-- The little-endian number in `n` bytes from byte `i` (R4). -/
def leAt (b : Bytes) (i : Nat) : Nat → Nat
  | 0 => 0
  | n + 1 => byteAt b i + 256 * leAt b (i + 1) n

/-- The big-endian number in a byte list. -/
def beNat (b : Bytes) : Nat := b.foldl (fun a x => a * 256 + x.toNat) 0

def u8 (b : Bytes) (i : Nat) : Nat := byteAt b i
def u16 (b : Bytes) (i : Nat) : Nat := leAt b i 2
def u32 (b : Bytes) (i : Nat) : Nat := leAt b i 4
def u48 (b : Bytes) (i : Nat) : Nat := leAt b i 6
def u64 (b : Bytes) (i : Nat) : Nat := leAt b i 8

/-- `n` bytes of `v`, least significant first (R4). -/
def leBytes : Nat → Nat → Bytes
  | 0, _ => []
  | n + 1, v => BitVec.ofNat 8 v :: leBytes n (v / 256)

/-- `n` bytes of `v`, most significant first. -/
def beBytes (n v : Nat) : Bytes := (leBytes n v).reverse

/-- The bytes from `i`, `n` of them. -/
def slice (b : Bytes) (i n : Nat) : Bytes := (b.drop i).take n

/-- `n` zero bytes. -/
def zeros (n : Nat) : Bytes := List.replicate n 0

/-- Bits h down to l of a number (R5). -/
def bitsOf (v h l : Nat) : Nat := (v / 2 ^ l) % 2 ^ (h + 1 - l)

/-- A two's complement number of `w` bits. -/
def signed (w v : Nat) : Int := if v % 2 ^ w < 2 ^ (w - 1) then (v % 2 ^ w : Nat) else (v % 2 ^ w : Nat) - (2 ^ w : Nat)

/-- The `w`-bit two's complement word of an integer. -/
def unsigned (w : Nat) (i : Int) : Nat := (i % (2 ^ w : Nat)).toNat

/-! ## CRC-32C (R60) -/

def crcBit (c : BitVec 32) : BitVec 32 := if c.getLsbD 0 then (c >>> 1) ^^^ 0x82F63B78#32 else c >>> 1

def crcByte (c : BitVec 32) (b : Byte) : BitVec 32 :=
  let c := c ^^^ b.setWidth 32
  crcBit (crcBit (crcBit (crcBit (crcBit (crcBit (crcBit (crcBit c)))))))

/-- CRC-32C: reflected polynomial 0x82F6_3B78, initial value and final XOR 0xFFFF_FFFF (R60). -/
def crc32c (b : Bytes) : Nat := ((b.foldl crcByte 0xFFFFFFFF#32) ^^^ 0xFFFFFFFF#32).toNat

/-! ## SipHash-2-4 (R61) -/

structure Sip where
  v0 : DWord
  v1 : DWord
  v2 : DWord
  v3 : DWord
  deriving DecidableEq, Repr

def sipRound (s : Sip) : Sip :=
  let v0 := s.v0 + s.v1
  let v1 := (s.v1.rotateLeft 13) ^^^ v0
  let v0 := v0.rotateLeft 32
  let v2 := s.v2 + s.v3
  let v3 := (s.v3.rotateLeft 16) ^^^ v2
  let v0 := v0 + v3
  let v3 := (v3.rotateLeft 21) ^^^ v0
  let v2 := v2 + v1
  let v1 := (v1.rotateLeft 17) ^^^ v2
  let v2 := v2.rotateLeft 32
  ⟨v0, v1, v2, v3⟩

def sipAbsorb (s : Sip) (m : DWord) : Sip :=
  let s := sipRound (sipRound { s with v3 := s.v3 ^^^ m })
  { s with v0 := s.v0 ^^^ m }

/-- The whole 8-byte blocks of a message. -/
def sipBlocks : Nat → Bytes → List Nat
  | 0, _ => []
  | n + 1, b => u64 b 0 :: sipBlocks n (b.drop 8)

/-- SipHash-2-4 with key (k0, k1) and a 64-bit output (R61). -/
def siphash (k0 k1 : DWord) (msg : Bytes) : DWord :=
  let s : Sip := ⟨k0 ^^^ 0x736f6d6570736575#64, k1 ^^^ 0x646f72616e646f6d#64,
    k0 ^^^ 0x6c7967656e657261#64, k1 ^^^ 0x7465646279746573#64⟩
  let n := msg.length / 8
  let s := (sipBlocks n msg).foldl (fun s m => sipAbsorb s (BitVec.ofNat 64 m)) s
  let last := u64 (msg.drop (8 * n) ++ zeros 8) 0 + (msg.length % 256) * 2 ^ 56
  let s := sipAbsorb s (BitVec.ofNat 64 last)
  let s := { s with v2 := s.v2 ^^^ 0xff#64 }
  let s := sipRound (sipRound (sipRound (sipRound s)))
  s.v0 ^^^ s.v1 ^^^ s.v2 ^^^ s.v3

/-! ## SHA-256 and HMAC (R78) -/

/-- The largest r with r ^ k at most n, below 2 ^ bits. -/
def rootBits (k n : Nat) : Nat → Nat → Nat
  | 0, r => r
  | b + 1, r => let r' := r + 2 ^ b; rootBits k n b (if r' ^ k ≤ n then r' else r)

def primes64 : List Nat :=
  [2, 3, 5, 7, 11, 13, 17, 19, 23, 29, 31, 37, 41, 43, 47, 53, 59, 61, 67, 71, 73, 79, 83, 89, 97, 101, 103, 107, 109,
    113, 127, 131] ++
  [137, 139, 149, 151, 157, 163, 167, 173, 179, 181, 191, 193, 197, 199, 211, 223, 227, 229, 233, 239, 241, 251, 257,
    263, 269, 271, 277, 281, 283, 293, 307, 311]

/-- The round constants: the first 32 bits of the fractional parts of the cube roots of the first 64 primes. -/
def shaK : List Word := primes64.map fun p => BitVec.ofNat 32 (rootBits 3 (p * 2 ^ 96) 35 0)

/-- The initial hash value: the first 32 bits of the fractional parts of the square roots of the first 8 primes. -/
def shaInit : List Word := (primes64.take 8).map fun p => BitVec.ofNat 32 (rootBits 2 (p * 2 ^ 64) 37 0)

def shaPad (b : Bytes) : Bytes :=
  b ++ 0x80#8 :: zeros ((119 - b.length % 64) % 64) ++ beBytes 8 (8 * b.length)

/-- The message schedule, newest word first: `n` more words. -/
def shaSchedule : Nat → List Word → List Word
  | 0, w => w
  | n + 1, w =>
    let w15 := w.getD 14 0
    let w2 := w.getD 1 0
    let s0 := w15.rotateRight 7 ^^^ w15.rotateRight 18 ^^^ (w15 >>> 3)
    let s1 := w2.rotateRight 17 ^^^ w2.rotateRight 19 ^^^ (w2 >>> 10)
    shaSchedule n ((w.getD 15 0 + s0 + w.getD 6 0 + s1) :: w)

def shaRound (h : List Word) (kw : Word × Word) : List Word :=
  let a := h.getD 0 0
  let b := h.getD 1 0
  let c := h.getD 2 0
  let e := h.getD 4 0
  let f := h.getD 5 0
  let g := h.getD 6 0
  let s1 := e.rotateRight 6 ^^^ e.rotateRight 11 ^^^ e.rotateRight 25
  let t1 := h.getD 7 0 + s1 + ((e &&& f) ^^^ (~~~e &&& g)) + kw.1 + kw.2
  let s0 := a.rotateRight 2 ^^^ a.rotateRight 13 ^^^ a.rotateRight 22
  let t2 := s0 + ((a &&& b) ^^^ (a &&& c) ^^^ (b &&& c))
  [t1 + t2, a, b, c, h.getD 3 0 + t1, e, f, g]

def beWords : Nat → Bytes → List Word
  | 0, _ => []
  | n + 1, b => BitVec.ofNat 32 (beNat (b.take 4)) :: beWords n (b.drop 4)

def shaBlock (h : List Word) (blk : Bytes) : List Word :=
  let w := (shaSchedule 48 (beWords 16 blk).reverse).reverse
  List.zipWith (· + ·) h ((shaK.zip w).foldl shaRound h)

def shaBlocks : Nat → Bytes → List Word → List Word
  | 0, _, h => h
  | n + 1, b, h => shaBlocks n (b.drop 64) (shaBlock h (b.take 64))

/-- SHA-256 (FIPS 180-4): 32 bytes. -/
def sha256 (b : Bytes) : Bytes :=
  let p := shaPad b
  (shaBlocks (p.length / 64) p shaInit).flatMap fun w => beBytes 4 w.toNat

/-- HMAC-SHA-256 (RFC 2104). -/
def hmac (key msg : Bytes) : Bytes :=
  let key := if key.length ≤ 64 then key else sha256 key
  let key := key ++ zeros (64 - key.length)
  sha256 (key.map (· ^^^ 0x5c#8) ++ sha256 (key.map (· ^^^ 0x36#8) ++ msg))

/-! ## Philox4x32-10 (R170) -/

structure Philox where
  c0 : Word
  c1 : Word
  c2 : Word
  c3 : Word
  deriving DecidableEq, Repr

def philoxRounds : Nat → Word → Word → Philox → Philox
  | 0, _, _, c => c
  | n + 1, k0, k1, c =>
    let p0 := 0xD2511F53 * c.c0.toNat
    let p1 := 0xCD9E8D57 * c.c2.toNat
    let c' : Philox := ⟨BitVec.ofNat 32 (p1 / 2 ^ 32) ^^^ c.c1 ^^^ k0, BitVec.ofNat 32 p1,
      BitVec.ofNat 32 (p0 / 2 ^ 32) ^^^ c.c3 ^^^ k1, BitVec.ofNat 32 p0⟩
    philoxRounds n (k0 + 0x9E3779B9#32) (k1 + 0xBB67AE85#32) c'

/-- Philox4x32-10 with key words k0, k1 (R170). -/
def philox (key : DWord) (c : Philox) : Philox := philoxRounds 10 (key.setWidth 32) ((key >>> 32).setWidth 32) c

/-! ## Base-2 logarithms in fixed point (R170, R220)

`log2Fix` computes floor of log2 of a positive rational in units of 2^-k by repeated squaring of a mantissa kept to 256
bits. The rounding functions of the manual are "correctly rounded": they agree with it unless the exact value lies
within 2^-60 units of a tie (log entry 21). -/

/-- Repeats `n` times: square the mantissa (256 fractional bits, in [1, 2)), give one result bit. -/
def log2Bits : Nat → Nat → Nat → Nat
  | 0, _, acc => acc
  | n + 1, m, acc =>
    let q := m * m / 2 ^ 256
    if q ≥ 2 ^ 257 then log2Bits n (q / 2) (2 * acc + 1) else log2Bits n q (2 * acc)

/-- log2 of a / b for positive a and b, in units of 2 ^ -k, rounded down. -/
def log2Fix (k a b : Nat) : Int :=
  let e : Int := (Nat.log2 a : Int) - (Nat.log2 b : Int)
  let m := if e ≥ 0 then a * 2 ^ 256 / (b * 2 ^ e.toNat) else a * 2 ^ (256 + (-e).toNat) / b
  let em : Int × Nat := if m < 2 ^ 256 then (e - 1, 2 * m) else (e, m)
  em.1 * (2 ^ k : Nat) + (log2Bits k em.2 0 : Nat)

/-- An integer in units of 2 ^ -(k + 32) rounded to units of 2 ^ -32, to nearest with ties to even. -/
def roundUnits (k : Nat) (v : Int) : Int :=
  let q := v / (2 ^ k : Nat)
  let r := v % (2 ^ k : Nat)
  if r < (2 ^ (k - 1) : Nat) then q else if r > (2 ^ (k - 1) : Nat) then q + 1 else if q % 2 = 0 then q else q + 1

/-- `lg(v)` of R220: -log2((2v + 1) / 2^33) in units of 2^-32, correctly rounded. -/
def lgU32 (v : Nat) : Nat := (roundUnits 64 (log2Fix 96 (2 ^ 33) (2 * v + 1))).toNat

/-- G(v) of R170: 2^32 × log2(−log2((2v + 1) / 2^33)), correctly rounded, ties to even. -/
def gumbel (v : Nat) : Int :=
  let l := (log2Fix 160 (2 ^ 33) (2 * v + 1)).toNat
  roundUnits 64 (log2Fix 96 l (2 ^ 160))

/-! ## AES-256 key unwrap (R327, RFC 3394) -/

def gfDouble (a : Byte) : Byte := if a.getLsbD 7 then (a <<< 1) ^^^ 0x1b#8 else a <<< 1

def gfMulBits : Nat → Byte → Byte → Byte
  | 0, _, _ => 0
  | n + 1, a, b => (if b.getLsbD 0 then a else 0) ^^^ gfMulBits n (gfDouble a) (b >>> 1)

def gfMul (a b : Byte) : Byte := gfMulBits 8 a b

def gfPow (a : Byte) : Nat → Byte
  | 0 => 1
  | n + 1 => gfMul a (gfPow a n)

def aesSub (a : Byte) : Byte :=
  let i := gfPow a 254
  i ^^^ i.rotateLeft 1 ^^^ i.rotateLeft 2 ^^^ i.rotateLeft 3 ^^^ i.rotateLeft 4 ^^^ 0x63#8

def aesInvSub (a : Byte) : Byte := gfPow (a.rotateLeft 1 ^^^ a.rotateLeft 3 ^^^ a.rotateLeft 6 ^^^ 0x05#8) 254

/-- The expanded key words, newest first: `n` more words after `i`. -/
def aesExpand : Nat → Nat → Byte → List Bytes → List Bytes
  | 0, _, _, w => w
  | n + 1, i, rc, w =>
    let prev := w.getD 0 []
    let t := if i % 8 = 0 then
        match (prev.drop 1 ++ prev.take 1).map aesSub with
        | a :: l => (a ^^^ rc) :: l
        | [] => []
      else if i % 8 = 4 then prev.map aesSub else prev
    aesExpand n (i + 1) (if i % 8 = 0 then gfDouble rc else rc) (List.zipWith (· ^^^ ·) (w.getD 7 []) t :: w)

def chunks4 : Nat → Bytes → List Bytes
  | 0, _ => []
  | n + 1, b => b.take 4 :: chunks4 n (b.drop 4)

/-- Round key r of AES-256. -/
def aesRoundKey (ks : List Bytes) (r : Nat) : Bytes := ((ks.drop (4 * r)).take 4).flatten

def aesInvShift (s : Bytes) : Bytes := (List.range 16).map fun i => s.getD ((i + 16 - 4 * (i % 4)) % 16) 0

def aesInvMixCol (c : Bytes) : Bytes :=
  (List.range 4).map fun i =>
    gfMul 0x0e (c.getD i 0) ^^^ gfMul 0x0b (c.getD ((i + 1) % 4) 0) ^^^ gfMul 0x0d (c.getD ((i + 2) % 4) 0)
      ^^^ gfMul 0x09 (c.getD ((i + 3) % 4) 0)

def aesDecRounds (ks : List Bytes) : Nat → Bytes → Bytes
  | 0, s => List.zipWith (· ^^^ ·) ((aesInvShift s).map aesInvSub) (aesRoundKey ks 0)
  | r + 1, s =>
    let s := List.zipWith (· ^^^ ·) ((aesInvShift s).map aesInvSub) (aesRoundKey ks (r + 1))
    aesDecRounds ks r ((chunks4 4 s).flatMap aesInvMixCol)

/-- AES-256 decryption of one block. -/
def aesDecrypt (key blk : Bytes) : Bytes :=
  let ks := (aesExpand 52 8 1 (chunks4 8 key).reverse).reverse
  aesDecRounds ks 13 (List.zipWith (· ^^^ ·) blk (aesRoundKey ks 14))

/-- One unwrap step of RFC 3394 for t = 6n down to 1. -/
def unwrapSteps (key : Bytes) (n : Nat) : Nat → Bytes → List Bytes → Bytes × List Bytes
  | 0, a, r => (a, r)
  | t + 1, a, r =>
    let i := t % n
    let x := beBytes 8 (Nat.xor (beNat a) (t + 1))
    let b := aesDecrypt key (x ++ r.getD i [])
    unwrapSteps key n t (b.take 8) (r.set i (b.drop 8))

def chunks8 : Nat → Bytes → List Bytes
  | 0, _ => []
  | n + 1, b => b.take 8 :: chunks8 n (b.drop 8)

/-- The RFC 3394 unwrap under a 256-bit key: none where the integrity check fails. -/
def aesUnwrap (key c : Bytes) : Option Bytes :=
  let n := c.length / 8 - 1
  let ar := unwrapSteps key n (6 * n) (c.take 8) (chunks8 n (c.drop 8))
  if ar.1 = List.replicate 8 0xA6#8 then some ar.2.flatten else none

/-! ## ECDSA P-256 (R326, FIPS 186-4) -/

def p256P : Nat := 2 ^ 256 - 2 ^ 224 + 2 ^ 192 + 2 ^ 96 - 1
def p256N : Nat := 0xFFFFFFFF00000000FFFFFFFFFFFFFFFFBCE6FAADA7179E84F3B9CAC2FC632551
def p256B : Nat := 0x5AC635D8AA3A93E7B3EBBD55769886BC651D06B0CC53B0F63BCE3C3E27D2604B
def p256G : Nat × Nat := (0x6B17D1F2E12C4247F8BCE6E563A440F277037D812DEB33A0F4A13945D898C296,
  0x4FE342E2FE1A7F9B8EE7EB4A7C0F9E162BCE33576B315ECECBB6406837BF51F5)

/-- a ^ e modulo m, by the low `n` bits of e. -/
def powMod (m : Nat) : Nat → Nat → Nat → Nat
  | 0, _, _ => 1
  | n + 1, a, e => (if e % 2 = 1 then a else 1) * powMod m n (a * a % m) (e / 2) % m

def invMod (m a : Nat) : Nat := powMod m 256 (a % m) (m - 2)

/-- Point addition on P-256 in affine form; none is the point at infinity. -/
def ecAdd (a b : Option (Nat × Nat)) : Option (Nat × Nat) :=
  match a, b with
  | none, q => q
  | q, none => q
  | some (x1, y1), some (x2, y2) =>
    let p := p256P
    if x1 = x2 ∧ (y1 + y2) % p = 0 then none
    else
      let l := if x1 = x2 then (3 * x1 * x1 + (p - 3)) * invMod p (2 * y1) % p
        else (y2 + p - y1) * invMod p (x2 + p - x1) % p
      let x3 := (l * l + 2 * p - x1 - x2) % p
      some (x3, (l * (x1 + p - x3) + p - y1) % p)

def ecMul : Nat → Nat → Option (Nat × Nat) → Option (Nat × Nat)
  | 0, _, _ => none
  | n + 1, k, q =>
    let r := ecMul n (k / 2) (ecAdd q q)
    if k % 2 = 1 then ecAdd q r else r

/-- ECDSA P-256 verification of a 32-byte message hash (FIPS 186-4). -/
def ecdsaVerify (pub hash sig : Bytes) : Bool :=
  let x := beNat (pub.take 32)
  let y := beNat (pub.drop 32)
  let r := beNat (sig.take 32)
  let s := beNat (sig.drop 32)
  let onCurve := decide (x < p256P ∧ y < p256P ∧ y * y % p256P = (x * x * x + (p256P - 3) * x + p256B) % p256P)
  if onCurve = true ∧ 0 < r ∧ r < p256N ∧ 0 < s ∧ s < p256N then
    let w := invMod p256N s
    let u1 := beNat hash * w % p256N
    let u2 := r * w % p256N
    match ecAdd (ecMul 256 u1 (some p256G)) (ecMul 256 u2 (some (x, y))) with
    | none => false
    | some (x1, _) => decide (x1 % p256N = r)
  else false

end Sys2Proof
end

