-- ==== Sys2Proof/Machine/Float.lean ====
section
/-! DEFINITION. IEEE 754 binary32, rounding to nearest, ties to even, no flushing of subnormals (00 R15, 07 R163, R165).
A finite value is held exactly as a dyadic number s × m × 2^e. -/

namespace Sys2Proof

/-- A dyadic number: (−1)^neg × m × 2^e. -/
structure Dyad where
  neg : Bool
  m : Nat
  e : Int
  deriving DecidableEq, Repr

/-- A decoded floating value. -/
inductive Fl where
  | fin (d : Dyad)
  | inf (neg : Bool)
  | nan
  deriving DecidableEq, Repr

def fSign (x : Word) : Bool := x.getLsbD 31
def fExp (x : Word) : Nat := bitsOf x.toNat 30 23
def fMan (x : Word) : Nat := bitsOf x.toNat 22 0

/-- A binary32 word is finite when its exponent field is not all ones. -/
def fFinite (x : Word) : Bool := decide (fExp x ≠ 255)

def fDecode (x : Word) : Fl :=
  if fExp x = 255 then (if fMan x = 0 then .inf (fSign x) else .nan)
  else if fExp x = 0 then .fin ⟨fSign x, fMan x, -149⟩
  else .fin ⟨fSign x, fMan x + 2 ^ 23, (fExp x : Int) - 150⟩

/-- m × 2^e rounded to an integer, to nearest with ties to even. -/
def roundHalfEven (m : Nat) (e : Int) : Nat :=
  match e with
  | .ofNat k => m * 2 ^ k
  | .negSucc k =>
    let d := 2 ^ (k + 1)
    let q := m / d
    let r := m % d
    if 2 * r < d then q else if 2 * r > d then q + 1 else if q % 2 = 0 then q else q + 1

def f32Inf (neg : Bool) : Word := if neg then 0xFF800000#32 else 0x7F800000#32
def f32Nan : Word := 0x7FC00000#32
def f32Zero (neg : Bool) : Word := if neg then 0x80000000#32 else 0#32

/-- The binary32 word nearest to a dyadic number, ties to even; overflow gives an infinity (R163). -/
def f32Round (d : Dyad) : Word :=
  if d.m = 0 then f32Zero d.neg
  else
    let top : Int := (Nat.log2 d.m : Int) + d.e
    let ulp : Int := if top - 23 < -149 then -149 else top - 23
    let n := roundHalfEven d.m (d.e - ulp)
    let n2 : Nat × Int := if n ≥ 2 ^ 24 then (n / 2, ulp + 1) else (n, ulp)
    if n2.1 < 2 ^ 23 then BitVec.ofNat 32 ((if d.neg then 2 ^ 31 else 0) + n2.1)
    else
      let ex := n2.2 + 150
      if ex ≥ 255 then f32Inf d.neg
      else BitVec.ofNat 32 ((if d.neg then 2 ^ 31 else 0) + ex.toNat * 2 ^ 23 + (n2.1 - 2 ^ 23))

/-- The sum of two dyadic numbers, exactly. An exact zero sum is positive unless both are negative. -/
def dyadAdd (a b : Dyad) : Dyad :=
  let e := if a.e ≤ b.e then a.e else b.e
  let x : Int := (a.m * 2 ^ (a.e - e).toNat : Nat)
  let y : Int := (b.m * 2 ^ (b.e - e).toNat : Nat)
  let v := (if a.neg then -x else x) + (if b.neg then -y else y)
  ⟨if v = 0 then a.neg && b.neg else decide (v < 0), v.natAbs, e⟩

def fAdd (x y : Word) : Word :=
  match fDecode x, fDecode y with
  | .nan, _ => f32Nan
  | _, .nan => f32Nan
  | .inf a, .inf b => if a = b then f32Inf a else f32Nan
  | .inf a, _ => f32Inf a
  | _, .inf b => f32Inf b
  | .fin a, .fin b =>
    let r := dyadAdd a b
    if r.m = 0 then f32Zero r.neg else f32Round r

def fNeg (x : Word) : Word := x ^^^ 0x80000000#32
def fSub (x y : Word) : Word := fAdd x (fNeg y)

def fMul (x y : Word) : Word :=
  match fDecode x, fDecode y with
  | .nan, _ => f32Nan
  | _, .nan => f32Nan
  | .inf a, .inf b => f32Inf (a != b)
  | .inf a, .fin b => if b.m = 0 then f32Nan else f32Inf (a != b.neg)
  | .fin a, .inf b => if a.m = 0 then f32Nan else f32Inf (a.neg != b)
  | .fin a, .fin b => f32Round ⟨a.neg != b.neg, a.m * b.m, a.e + b.e⟩

def fDiv (x y : Word) : Word :=
  match fDecode x, fDecode y with
  | .nan, _ => f32Nan
  | _, .nan => f32Nan
  | .inf _, .inf _ => f32Nan
  | .inf a, .fin b => f32Inf (a != b.neg)
  | .fin a, .inf b => f32Zero (a.neg != b)
  | .fin a, .fin b =>
    if b.m = 0 then (if a.m = 0 then f32Nan else f32Inf (a.neg != b.neg))
    else
      let q := a.m * 2 ^ 64 / b.m
      let sticky := if a.m * 2 ^ 64 % b.m = 0 then 0 else 1
      f32Round ⟨a.neg != b.neg, 2 * q + sticky, a.e - b.e - 65⟩

/-- x > 0.0. -/
def fPos (x : Word) : Bool :=
  match fDecode x with
  | .fin d => !d.neg && decide (d.m ≠ 0)
  | .inf n => !n
  | .nan => false

/-- The integer n as the nearest binary32 value. -/
def fOfInt (n : Int) : Word := f32Round ⟨decide (n < 0), n.natAbs, 0⟩

/-- A finite binary32 value times 2^k, rounded half to even to an integer; none for a non-finite value. -/
def fScaleToInt (x : Word) (k : Nat) : Option Int :=
  match fDecode x with
  | .fin d => let n := roundHalfEven d.m (d.e + k); some (if d.neg then -(n : Int) else n)
  | _ => none

/-- The floor of a finite binary32 value. -/
def fFloor (x : Word) : Int :=
  match fDecode x with
  | .fin d =>
    match d.e with
    | .ofNat k => if d.neg then -((d.m * 2 ^ k : Nat) : Int) else (d.m * 2 ^ k : Nat)
    | .negSucc k => if d.neg then -(((d.m + 2 ^ (k + 1) - 1) / 2 ^ (k + 1) : Nat) : Int) else (d.m / 2 ^ (k + 1) : Nat)
  | _ => 0

/-- The ceiling of a finite binary32 value. -/
def fCeil (x : Word) : Int := -(fFloor (fNeg x))

/-- An ordering key: a < b exactly when the keys do, on values that are not NaN. -/
def fKey (x : Word) : Int := if fSign x then -((x.toNat % 2 ^ 31 : Nat) : Int) else x.toNat

def fLt (x y : Word) : Bool := decide (fKey x < fKey y)
def fMax (x y : Word) : Word := if fLt x y then y else x
def f32One : Word := 0x3F800000#32

/-! ## Small formats of the logit stream (07 R163, OCP Microscaling 1.0) -/

/-- A minifloat element with `eb` exponent bits, `mb` fraction bits and the given bias, without non-finite codes. -/
def miniDyad (eb mb bias v : Nat) : Dyad :=
  let s := v / 2 ^ (eb + mb) % 2
  let e := v / 2 ^ mb % 2 ^ eb
  let m := v % 2 ^ mb
  if e = 0 then ⟨decide (s = 1), m, 1 - bias - mb⟩ else ⟨decide (s = 1), m + 2 ^ mb, (e : Int) - bias - mb⟩

/-- FP8 E4M3: S.1111.111 is NaN. -/
def fp8E4M3 (v : Nat) : Fl := if v % 128 = 127 then .nan else .fin (miniDyad 4 3 7 v)

/-- FP8 E5M2: infinities and NaN. -/
def fp8E5M2 (v : Nat) : Fl :=
  if v % 128 = 124 then .inf (decide (v ≥ 128)) else if v % 128 > 124 then .nan else .fin (miniDyad 5 2 15 v)

/-- FP4 E2M1. -/
def fp4E2M1 (v : Nat) : Fl := .fin (miniDyad 2 1 1 v)

/-- A decoded value as binary32: exact for the unscaled formats. -/
def flToF32 : Fl → Word
  | .fin d => f32Round d
  | .inf n => f32Inf n
  | .nan => f32Nan

/-- element × 2^(X − 127), rounded once (R163); a scale of 0xFF makes the element non-finite. -/
def mxToF32 (x : Nat) : Fl → Word
  | .fin d => if x = 255 then f32Nan else f32Round { d with e := d.e + (x : Int) - 127 }
  | .inf n => f32Inf n
  | .nan => f32Nan

/-- 2^(1/2), 2^(1/4), … 2^(1/65536), each times 2^96 and truncated. -/
def rootsOf2 : List Nat :=
  [112045541949572279837463876454, 94218694570555024373110687279,
   86398923866664962375130072334, 82735892943544661968409507607,
   80963033366431698391403892405, 80090900639232773493759855182,
   79658363602065864296602447410, 79442971854562650309779985387,
   79335494482037593178543608468, 79281810334857995344526032840,
   79254981885274639038225885637, 79241571065139888961741854321,
   79234866506068713947867698353, 79231514439261175779748764724,
   79229838459036794155212045657, 79229000482219122111440011082]

/-- 2^96 × 2^(f/65536), as the product of the roots that f's bits 15 to 0 name, to within 2^-90. -/
def pow2Fix (f : Nat) : Nat :=
  ((List.range 16).zip rootsOf2).foldl (fun (a : Nat) p => if f.testBit (15 - p.1) then a * p.2 / 2 ^ 96 else a) (2 ^ 96)

/-- The mantissa weight E[f] of R169: the integer nearest to 2^(31 + f / 65,536). No value of f comes nearer than 2^-21 to
a half, so the rounding is that of the exact value. -/
def massE (f : Nat) : Nat := (pow2Fix f / 2 ^ 64 + 1) / 2

/-- The wait-bin edge E[b] of R222: the integer nearest to 1,000 × 2^(3b/8). -/
def binEdgeBits (b : Nat) : Nat → Nat → Nat
  | 0, r => r
  | k + 1, r =>
    let r' := r + 2 ^ k
    binEdgeBits b k (if (2 * r' - 1) ^ 8 ≤ 2 ^ 8 * 1000 ^ 8 * 2 ^ (3 * b) then r' else r)

def binEdge (b : Nat) : Nat := binEdgeBits b 35 0

end Sys2Proof
end

