-- ==== Sys2Proof/Config.lean ====
section
/-! DEFINITION. What the spec leaves open: each constant here has no body, so nothing can be proved of its value. The
assumption log names each one. -/

namespace Sys2Proof

/-- The 64 bits that IML takes from the PX1 entropy source at the k-th cold boot of the model (03 R61, 12 R337): the
spec gives no value. Log entry 10. -/
opaque Config.bootRandom : Nat → BitVec 64

/-- The NONCE of the k-th witness request (10 R265): the spec says only that a repeated request carries a new one. Log
entry 11. -/
opaque Config.nonce : Nat → BitVec 32

/-- Which cached producer window gives way when a window is filled into a full on-die cache (04 R81 states no choice).
Log entry 12. -/
opaque Config.windowVictim : Nat → Nat

/-- Which of the Lead's eligible blocks a block grant takes first: a rank for each block (03 R51 states no choice). Log
entry 13. -/
opaque Config.blockRank : Nat → Nat

/-- binary32 exp of a binary32 argument (11 R305 states no rounding of exp). Log entry 14. -/
opaque Config.expF32 : BitVec 32 → BitVec 32

/-- The sum of a list of binary32 products or terms in the order the part takes (11 R302 states no order of summation
in dot, mat_vec and trace). Log entry 15. -/
opaque Config.sumF32 : List (BitVec 32) → BitVec 32

/-- The inverse of a square binary32 matrix given by rows (11 R302, R303 state no algorithm). Log entry 16. -/
opaque Config.inverseF32 : List (List (BitVec 32)) → List (List (BitVec 32))

/-- Whether the part finds a square binary32 matrix singular (11 R302 states no test). Log entry 16. -/
opaque Config.singularF32 : List (List (BitVec 32)) → Bool

/-- The chip power filtered with time constant tau_us: next value from the previous one, the new sample and tau_us, all
binary32 (11 R305 names the filter and states no recurrence). Log entry 17. -/
opaque Config.filterF32 : BitVec 32 → BitVec 32 → BitVec 32 → BitVec 32

/-- The token of a position (instar, tag, position) whose set of best_key is empty (07 R176 names none). Log entry 18. -/
opaque Config.noToken : Nat → Nat → Nat → Nat

/-- The time of a wait record's last update is compared only within a set; which of two ways with equal counts and
equal times gives way is open (09 R221). Log entry 19. -/
opaque Config.wayTie : Nat → Nat

/-- Bytes that the spec gives no content for: the results that a tool's kernels compute (08 R202), a flash range that an
interrupted or failed operation leaves (12 R336). Log entry 20. -/
opaque Config.opaqueByte : Nat → BitVec 8

/-- A number in an event or record that the spec names and gives no value in that case: the faulting rank in a received
ABORT's event, the partition of a core in no partition. Log entry 51. -/
opaque Config.unstated : Nat → Nat

/-- The integer that a computation of PGV takes from a binary32 result outside its range: negative, too large or not finite
(11 R305, R311, R316 state none). The first argument names the integer. Log entry 54. -/
opaque Config.outOfRange : Nat → BitVec 32 → Nat

/-- The fence factor of a partition that has no working core left, by its number (06 R151 divides by their number). Log entry
140. -/
opaque Config.fenceNone : Nat → Nat

/-- The holding island that a WAIT_FOR record names (13 Table 13-6), by the code of the wait and the island that waited: the spec
names no holder for the waits of Table 13-8, nor which of them have none (log entry 154). -/
opaque Config.waitHolder : Nat → Nat → BitVec 5

end Sys2Proof
end

