-- ==== Sys2Proof/Machine/ImageTypes.lean ====
section
/-! DEFINITION. The configuration image as the engine holds it after loading: the stores of Table 12-2 with the factory
defaults beneath them (12 R329 to R331). Live values set by AMEND replace the loaded ones (04 R100). -/

namespace Sys2Proof.Machine

/-- KEYS record (12 R329). Never readable through BAR2 (R327). -/
structure Keys where
  salt : Nat := 0
  sampling : Nat := 0
  pk0 : Nat := 0
  pk1 : Nat := 0
  hk0 : Nat := 0
  hk1 : Nat := 0
  amend : Bytes := []
  witness : Bytes := []
  deriving DecidableEq, Repr

/-- A deadline class (04 R94): KIND 0 BEST, 1 FIRM, 2 STRICT. -/
structure DClass where
  kind : Nat := 0
  ttftUs : Nat := 0
  tbtUs : Nat := 0
  deriving DecidableEq, Repr

/-- A tenant's configured values (Table 4-7, TENANTS record of Table 12-2). -/
structure TenantCfg where
  enabled : Bool := false
  tclass : Nat := 0
  rate : Nat := 0
  depth : Nat := 1
  openCost : Nat := 256
  prefillW : Nat := 256
  decodeW : Nat := 256
  weight : Nat := 1
  maxSessions : Nat := 0
  modelMask : Nat := 0
  dclassMask : Nat := 0x80
  expiry : Nat := 0
  deriving DecidableEq, Repr

/-- A producer slot's binding (04 R77). -/
structure Producer where
  valid : Bool := false
  tenant : Nat := 0
  id : Nat := 0
  source : Nat := 0
  deriving DecidableEq, Repr

/-- A model descriptor (MODELS record of Table 12-2). -/
structure ModelCfg where
  vocab : Nat := 0
  context : Nat := 0
  seqPs : Nat := 0
  tokPs : Nat := 0
  seq0Ps : Nat := 0
  ctxPs : Nat := 0
  fmt : Nat := 0
  draftRank : Nat := 0
  stepPart : Nat := 0
  /-- PAGES16 of each rank. -/
  pages16 : List Nat := []
  /-- SLICE_BASE and SLICE_SIZE of each rank. -/
  slices : List (Nat × Nat) := []
  deriving DecidableEq, Repr

/-- A partition of the image (06 R131, R132). -/
structure PartCfg where
  first : Nat := 0
  groups : Nat := 0
  isStep : Bool := false
  isTool : Bool := false
  semUsed : Nat := 0
  creditPool : Nat := 0
  semInit : List Nat := []
  deriving DecidableEq, Repr

/-- A far target (09 R219, TARGETS record). -/
structure TargetCfg where
  tier : Nat := 0
  weight : Nat := 0
  rate : Nat := 0
  regionBase : Nat := 0
  regionSize : Nat := 0
  /-- IPv6 address, UDP port and queue pair; NVMe subsystem name and namespace (Table 9-4). -/
  ip : Bytes := []
  port : Nat := 0
  qp : Nat := 0
  nqn : Bytes := []
  nsid : Nat := 0
  deriving DecidableEq, Repr

/-- A local tool (08 R200, Table 8-5). -/
structure LocalTool where
  raw : Bytes := []
  deriving DecidableEq, Repr

/-- An operating point (11 Table 11-4): clock [MHz], VCORE and VSRAM [mV], LEAK. -/
structure OpPoint where
  mhz : Nat := 0
  vcore : Nat := 0
  vsram : Nat := 0
  leak : Nat := 0
  deriving DecidableEq, Repr

/-- A rail's regulator (POWER record). -/
structure RailCfg where
  addr : Nat := 0
  phases : Nat := 0
  rated : Nat := 0
  avs : Nat := 0
  deriving DecidableEq, Repr

/-- LAYOUT record. -/
structure Layout where
  dirA : Nat := 0
  dirB : Nat := 0
  jrnA : Nat := 0
  jrnB : Nat := 0
  plcA : Nat := 0
  plcB : Nat := 0
  kvFrames : List Nat := []
  t0Frames : Nat := 0
  t0Prefix : Nat := 0
  logitAddr : Nat := 0
  logitSize : Nat := 0
  witnessIp : Bytes := []
  witnessPort : Nat := 0
  t3Journal : Nat := 0
  t3Snapshot : Nat := 0
  deriving DecidableEq, Repr

/-- The stores that the image and the factory defaults fill. -/
structure Image where
  n : Nat := 0
  rank : Nat := 0
  wing : Nat := 0
  pairId : Nat := 0
  /-- ROLE of each rank: bit 0 Lead, bit 1 Tail. -/
  roles : List Nat := []
  /-- IDENTITY bytes and the MODELS bytes that the shape digest covers (14 R396). -/
  identityRaw : Bytes := []
  modelsRaw : Tab Bytes := []
  keys : Keys := {}
  /-- Scalar parameters keyed by ID * 65,536 + INDEX (R330). -/
  params : Tab Nat := []
  classes : List DClass := []
  tenants : Tab TenantCfg := []
  producers : Tab Producer := []
  models : Tab ModelCfg := []
  partitions : Tab PartCfg := []
  /-- Step programs by model: the commands' bytes (Table 6-1). -/
  programs : Tab Bytes := []
  /-- Context images present, keyed by model * 256 + partition, with their length. -/
  contexts : Tab Nat := []
  /-- Sampling-parameter records (Table 7-2), valid ones only. -/
  sparams : Tab Bytes := []
  /-- Grammar records (Tables 8-1 to 8-3), valid ones only. -/
  grammars : Tab Bytes := []
  stopSets : Tab (List Nat) := []
  tools : Tab LocalTool := []
  targets : Tab TargetCfg := []
  ops : List OpPoint := []
  /-- Ladder phases (11 Table 11-8): (OP_p, k_p). -/
  phases : List (Nat × Nat) := []
  rails : List RailCfg := []
  layout : Layout := {}
  deriving DecidableEq, Repr

end Sys2Proof.Machine
end

