-- ==== Sys2Proof/Machine/RegMap.lean ====
section
/-! DEFINITION. The register index of 14 R404 (Table 14-14) with the field maps it cites: the offset of every register
(`Reg.<name>`, the manual's name without RYV_), and, for the access rules of 00 R11 to R13, every register's fields with
their access codes. Reserved fields are not listed: they read 0 and ignore writes (R10). -/

namespace Sys2Proof

/-- The access codes of Table 0-3. -/
inductive Acc where
  | rw | ro | w1c | rc | wo | rse | rwl
  deriving DecidableEq, Repr

/-- Whether a register is one half of a 64-bit pair (R13). -/
inductive Half where
  | one | lo | hi
  deriving DecidableEq, Repr

/-- One field of a field map: bits hi down to lo. -/
structure Fld where
  hi : Nat
  lo : Nat
  acc : Acc
  deriving DecidableEq, Repr

/-- One row of the register index: registers base, base + stride, ..., count of them. -/
structure RegRow where
  base : Nat
  stride : Nat
  count : Nat
  half : Half
  fields : List Fld
  deriving DecidableEq, Repr

def Reg.GLB_ID : Nat := 0x00000000
def Reg.GLB_VERSION : Nat := 0x00000004
def Reg.GLB_ROLE : Nat := 0x00000008
def Reg.GLB_PAIR : Nat := 0x0000000C
def Reg.GLB_LOCK : Nat := 0x00000040
def Reg.GLB_LOCK_STATUS : Nat := 0x00000044
def Reg.GLB_LOCK_LEASE : Nat := 0x00000048
def Reg.ISL_CYCLES_LO (i : Nat) : Nat := 0x00010000 + i * 0x100
def Reg.ISL_CYCLES_HI (i : Nat) : Nat := 0x00010004 + i * 0x100
def Reg.ISL_STRETCH_PS_LO (i : Nat) : Nat := 0x00010008 + i * 0x100
def Reg.ISL_STRETCH_PS_HI (i : Nat) : Nat := 0x0001000C + i * 0x100
def Reg.ISL_STATUS (i : Nat) : Nat := 0x00010010 + i * 0x100
def Reg.ISL_STRETCH_WIN (i : Nat) : Nat := 0x00010014 + i * 0x100
def Reg.ISL_XSTALL (i : Nat) : Nat := 0x00010018 + i * 0x100
def Reg.ISL_STRETCH_LIMIT : Nat := 0x00012000
def Reg.ISL_OVER_LIMIT : Nat := 0x00012004
def Reg.IML_STATUS : Nat := 0x00020000
def Reg.IML_BANK_SEQ (i : Nat) : Nat := 0x00020004 + i * 0x8
def Reg.IML_BANK_STATE (i : Nat) : Nat := 0x00020008 + i * 0x8
def Reg.IML_FLASH : Nat := 0x00020014
def Reg.IML_BOOT_CYCLES : Nat := 0x00020018
def Reg.IML_RESET : Nat := 0x00020020
def Reg.IML_RESET_CAUSE : Nat := 0x00020024
def Reg.IML_HOLDUP : Nat := 0x00020028
def Reg.IML_FLUSH_LO : Nat := 0x0002002C
def Reg.IML_FLUSH_HI : Nat := 0x00020030
def Reg.IML_PD_LOG : Nat := 0x00020034
def Reg.IML_DIGEST (i : Nat) : Nat := 0x00020040 + i * 0x4
def Reg.IML_WR_CTRL : Nat := 0x00020060
def Reg.IML_WR_ADDR : Nat := 0x00020064
def Reg.IML_WR_STATUS : Nat := 0x00020068
def Reg.IML_WR_BUF (i : Nat) : Nat := 0x00021000 + i * 0x4
def Reg.ING_STATUS : Nat := 0x00040000
def Reg.ING_RECORDS_LO : Nat := 0x00040004
def Reg.ING_RECORDS_HI : Nat := 0x00040008
def Reg.ING_DUPLICATES : Nat := 0x0004000C
def Reg.ING_DROPPED : Nat := 0x00040010
def Reg.ING_WIN_MISSES : Nat := 0x00040014
def Reg.ING_PROD_SEL : Nat := 0x00040020
def Reg.ING_PROD_ID : Nat := 0x00040024
def Reg.ING_PROD_BIND : Nat := 0x00040028
def Reg.ING_PROD_HIGH_LO : Nat := 0x0004002C
def Reg.ING_PROD_HIGH_HI : Nat := 0x00040030
def Reg.ING_AMEND_SEQ_LO : Nat := 0x00040034
def Reg.ING_AMEND_SEQ_HI : Nat := 0x00040038
def Reg.ING_REJECT (i : Nat) : Nat := 0x00040100 + i * 0x4
def Reg.DIR_STATUS (i : Nat) : Nat := 0x00080000 + i * 0x10000
def Reg.DIR_LIVE (i : Nat) : Nat := 0x00080004 + i * 0x10000
def Reg.DIR_CACHE_OCC (i : Nat) : Nat := 0x00080008 + i * 0x10000
def Reg.DIR_LOOKUPS_LO (i : Nat) : Nat := 0x0008000C + i * 0x10000
def Reg.DIR_LOOKUPS_HI (i : Nat) : Nat := 0x00080010 + i * 0x10000
def Reg.DIR_MISSES_LO (i : Nat) : Nat := 0x00080014 + i * 0x10000
def Reg.DIR_MISSES_HI (i : Nat) : Nat := 0x00080018 + i * 0x10000
def Reg.DIR_COMMIT_WAITS (i : Nat) : Nat := 0x0008001C + i * 0x10000
def Reg.DIR_STICKY_EVICT (i : Nat) : Nat := 0x00080020 + i * 0x10000
def Reg.DIR_SALT_EPOCH : Nat := 0x00088000
def Reg.DIR_SLOT_LIVE (i : Nat) : Nat := 0x00088004 + i * 0x4
def Reg.DIR_WIN_MAX : Nat := 0x00088014
def Reg.DIR_SESSIONS : Nat := 0x00088018
def Reg.DIR_FREE : Nat := 0x0008801C
def Reg.DIR_BLOCKS : Nat := 0x00088020
def Reg.DIR_SLICE_MAP : Nat := 0x00088024
def Reg.DIR_BACKING : Nat := 0x00088028
def Reg.DIR_HELD : Nat := 0x0008802C
def Reg.DIR_STALE : Nat := 0x00088030
def Reg.DIR_EPOCH_DEFER : Nat := 0x00088034
def Reg.LDG_TENANT_SEL : Nat := 0x000C0000
def Reg.LDG_T_CONFIG : Nat := 0x000C0004
def Reg.LDG_T_RATE : Nat := 0x000C0008
def Reg.LDG_T_DEPTH : Nat := 0x000C000C
def Reg.LDG_T_COSTS : Nat := 0x000C0010
def Reg.LDG_T_ADMIT : Nat := 0x000C0014
def Reg.LDG_T_LIMITS : Nat := 0x000C0018
def Reg.LDG_T_LEVEL_LO : Nat := 0x000C001C
def Reg.LDG_T_LEVEL_HI : Nat := 0x000C0020
def Reg.LDG_T_LIVE : Nat := 0x000C0024
def Reg.LDG_T_SHARE_LO : Nat := 0x000C0028
def Reg.LDG_T_SHARE_HI : Nat := 0x000C002C
def Reg.LDG_VMIN_LO : Nat := 0x000C0030
def Reg.LDG_VMIN_HI : Nat := 0x000C0034
def Reg.DLN_CLASS_TTFT (i : Nat) : Nat := 0x00100000 + i * 0x10
def Reg.DLN_CLASS_TBT (i : Nat) : Nat := 0x00100004 + i * 0x10
def Reg.DLN_CLASS_RESERVED (i : Nat) : Nat := 0x00100008 + i * 0x10
def Reg.DLN_CLASS_MISSES (i : Nat) : Nat := 0x0010000C + i * 0x10
def Reg.DLN_LOAD (i : Nat) : Nat := 0x00100100 + i * 0x4
def Reg.DLN_PMEAS : Nat := 0x00100110
def Reg.DLN_SIGMA : Nat := 0x00100114
def Reg.DLN_REVIVE : Nat := 0x00100118
def Reg.CMP_STATUS : Nat := 0x00140000
def Reg.CMP_INSTAR_LO : Nat := 0x00140004
def Reg.CMP_INSTAR_HI : Nat := 0x00140008
def Reg.CMP_LAST : Nat := 0x0014000C
def Reg.CMP_PERIOD : Nat := 0x00140010
def Reg.CMP_EFORECAST : Nat := 0x00140014
def Reg.CMP_POOL : Nat := 0x00140018
def Reg.CMP_LIMITS : Nat := 0x0014001C
def Reg.CMP_PERIOD_MAX : Nat := 0x00140020
def Reg.CMP_TRIMS : Nat := 0x00140024
def Reg.CMP_DEFER_SET : Nat := 0x00140028
def Reg.CMP_TRUNC : Nat := 0x0014002C
def Reg.CMP_IDLE : Nat := 0x00140030
def Reg.CMP_PREFIX : Nat := 0x00140034
def Reg.CMP_BCAST : Nat := 0x00140038
def Reg.CMP_FED_LO : Nat := 0x0014003C
def Reg.CMP_FED_HI : Nat := 0x00140040
def Reg.CMP_BARRIER : Nat := 0x00140044
def Reg.CMP_ALLOW (i : Nat) : Nat := 0x00140100 + i * 0x4
def Reg.DSQ_STATUS : Nat := 0x00180000
def Reg.DSQ_SIGMA : Nat := 0x00180004
def Reg.DSQ_ABORTS : Nat := 0x00180008
def Reg.DSQ_SAVES : Nat := 0x0018000C
def Reg.DSQ_DUMP_CTRL : Nat := 0x00180010
def Reg.DSQ_DUMP_ADDR_LO : Nat := 0x00180014
def Reg.DSQ_DUMP_ADDR_HI : Nat := 0x00180018
def Reg.DSQ_DUMP_SIZE : Nat := 0x0018001C
def Reg.DSQ_DUMP_INSTAR_LO : Nat := 0x00180020
def Reg.DSQ_DUMP_INSTAR_HI : Nat := 0x00180024
def Reg.DSQ_STEP : Nat := 0x00180028
def Reg.DSQ_P_CONFIG (i : Nat) : Nat := 0x00190000 + i * 0x400
def Reg.DSQ_P_MODELS (i : Nat) : Nat := 0x00190004 + i * 0x400
def Reg.DSQ_P_STATUS (i : Nat) : Nat := 0x00190008 + i * 0x400
def Reg.DSQ_P_CORES (i : Nat) : Nat := 0x0019000C + i * 0x400
def Reg.DSQ_P_SIGMA (i : Nat) : Nat := 0x00190010 + i * 0x400
def Reg.DSQ_P_PREEMPTS (i : Nat) : Nat := 0x00190014 + i * 0x400
def Reg.DSQ_P_FAULTS (i : Nat) : Nat := 0x00190018 + i * 0x400
def Reg.DSQ_P_BUSY_NS_LO (i : Nat) : Nat := 0x0019001C + i * 0x400
def Reg.DSQ_P_BUSY_NS_HI (i : Nat) : Nat := 0x00190020 + i * 0x400
def Reg.DSQ_P_CREDITS (i : Nat) : Nat := 0x00190024 + i * 0x400
def Reg.PLN_STATUS : Nat := 0x001C0000
def Reg.PLN_RESIDENT : Nat := 0x001C0004
def Reg.PLN_FRAMES_FREE : Nat := 0x001C0008
def Reg.PLN_FRAMES_TOTAL : Nat := 0x001C000C
def Reg.PLN_TIER (i : Nat) : Nat := 0x001C0010 + i * 0x4
def Reg.PLN_MOVES : Nat := 0x001C0024
def Reg.PLN_LATE : Nat := 0x001C0028
def Reg.PLN_PINS : Nat := 0x001C002C
def Reg.PLN_SPILLS : Nat := 0x001C0030
def Reg.PLN_PREFIX : Nat := 0x001C0034
def Reg.PLN_PRED_SEL : Nat := 0x001C0040
def Reg.PLN_PRED_STATUS : Nat := 0x001C0044
def Reg.PLN_PRED_Q20 : Nat := 0x001C0048
def Reg.PLN_BW_EST : Nat := 0x001C004C
def Reg.PLN_PRED_BIN (i : Nat) : Nat := 0x001C0100 + i * 0x4
def Reg.PLN_TGT_CONFIG (i : Nat) : Nat := 0x001C8000 + i * 0x10
def Reg.PLN_TGT_SIZE (i : Nat) : Nat := 0x001C8004 + i * 0x10
def Reg.PLN_TGT_USED (i : Nat) : Nat := 0x001C8008 + i * 0x10
def Reg.PLN_TGT_STATE (i : Nat) : Nat := 0x001C800C + i * 0x10
def Reg.MOV_CH_STATUS (i : Nat) : Nat := 0x00200000 + i * 0x1000
def Reg.MOV_CH_TAG (i : Nat) : Nat := 0x00200004 + i * 0x1000
def Reg.MOV_CH_PAGES_LO (i : Nat) : Nat := 0x00200008 + i * 0x1000
def Reg.MOV_CH_PAGES_HI (i : Nat) : Nat := 0x0020000C + i * 0x1000
def Reg.MOV_CH_ERRORS (i : Nat) : Nat := 0x00200010 + i * 0x1000
def Reg.MOV_STATUS : Nat := 0x00240000
def Reg.MOV_BYTES_LO : Nat := 0x00240004
def Reg.MOV_BYTES_HI : Nat := 0x00240008
def Reg.MOV_CRC_ERRORS : Nat := 0x0024000C
def Reg.MOV_MIGRATED : Nat := 0x00240010
def Reg.SMP_STATUS : Nat := 0x00280000
def Reg.SMP_LOGITS_LO : Nat := 0x00280004
def Reg.SMP_LOGITS_HI : Nat := 0x00280008
def Reg.SMP_SELECTED_LO : Nat := 0x0028000C
def Reg.SMP_SELECTED_HI : Nat := 0x00280010
def Reg.SMP_PASS2 : Nat := 0x00280014
def Reg.SMP_VOID : Nat := 0x00280018
def Reg.SMP_NONFINITE : Nat := 0x0028001C
def Reg.SMP_SCALE_FULL : Nat := 0x00280020
def Reg.SMP_SUMMARY_ERR : Nat := 0x00280024
def Reg.SMP_SELECT_WAITS : Nat := 0x00280028
def Reg.SMP_KEY_ID_LO : Nat := 0x0028002C
def Reg.SMP_KEY_ID_HI : Nat := 0x00280030
def Reg.SMP_SLICE_BASE (i : Nat) : Nat := 0x00280100 + i * 0x8
def Reg.SMP_SLICE_SIZE (i : Nat) : Nat := 0x00280104 + i * 0x8
def Reg.SMP_GRAMMAR : Nat := 0x00280200
def Reg.SMP_DRAFT_OFFERED_LO : Nat := 0x00280204
def Reg.SMP_DRAFT_OFFERED_HI : Nat := 0x00280208
def Reg.SMP_DRAFT_ACCEPTED_LO : Nat := 0x0028020C
def Reg.SMP_DRAFT_ACCEPTED_HI : Nat := 0x00280210
def Reg.SMP_DRAFT_VOID : Nat := 0x00280214
def Reg.SMP_ENDS : Nat := 0x00280218
def Reg.SMP_TOOL_JOBS : Nat := 0x0028021C
def Reg.SMP_TOOL_DONE : Nat := 0x00280220
def Reg.SMP_LANE_STATUS (i : Nat) : Nat := 0x00290000 + i * 0x400
def Reg.SMP_LANE_TAG (i : Nat) : Nat := 0x00290004 + i * 0x400
def Reg.SMP_LANE_LOGITS_LO (i : Nat) : Nat := 0x00290008 + i * 0x400
def Reg.SMP_LANE_LOGITS_HI (i : Nat) : Nat := 0x0029000C + i * 0x400
def Reg.SMP_LANE_STREAMS (i : Nat) : Nat := 0x00290010 + i * 0x400
def Reg.SMP_LANE_ERRORS (i : Nat) : Nat := 0x00290014 + i * 0x400
def Reg.PGV_STATUS : Nat := 0x002C0000
def Reg.PGV_CTRL : Nat := 0x002C0004
def Reg.PGV_CAP : Nat := 0x002C0008
def Reg.PGV_POWER : Nat := 0x002C000C
def Reg.PGV_BUCKET : Nat := 0x002C0010
def Reg.PGV_OP : Nat := 0x002C0014
def Reg.PGV_SKIP : Nat := 0x002C0018
def Reg.PGV_THERMAL : Nat := 0x002C001C
def Reg.PGV_MODEL : Nat := 0x002C0020
def Reg.PGV_ENERGY_LO : Nat := 0x002C0024
def Reg.PGV_ENERGY_HI : Nat := 0x002C0028
def Reg.PGV_UNATTR_LO : Nat := 0x002C002C
def Reg.PGV_UNATTR_HI : Nat := 0x002C0030
def Reg.PGV_SLEW : Nat := 0x002C0034
def Reg.PGV_THR_US_LO (i : Nat) : Nat := 0x002C0100 + i * 0x8
def Reg.PGV_THR_US_HI (i : Nat) : Nat := 0x002C0104 + i * 0x8
def Reg.PGV_RAIL (i : Nat) : Nat := 0x002C0200 + i * 0x4
def Reg.PGV_COEF (i : Nat) : Nat := 0x002C0300 + i * 0x4
def Reg.TWM_STATUS : Nat := 0x00300000
def Reg.TWM_TERM : Nat := 0x00300004
def Reg.TWM_APPENDED_LO : Nat := 0x00300008
def Reg.TWM_APPENDED_HI : Nat := 0x0030000C
def Reg.TWM_DURABLE_LO : Nat := 0x00300010
def Reg.TWM_DURABLE_HI : Nat := 0x00300014
def Reg.TWM_AHEAD : Nat := 0x00300018
def Reg.TWM_RTT : Nat := 0x0030001C
def Reg.TWM_RESENDS : Nat := 0x00300020
def Reg.TWM_LEASE_EXP_LO : Nat := 0x00300024
def Reg.TWM_LEASE_EXP_HI : Nat := 0x00300028
def Reg.TWM_WITNESS : Nat := 0x0030002C
def Reg.TWM_EMIT : Nat := 0x00300030
def Reg.TWM_ADOPTED : Nat := 0x00300034
def Reg.TWM_DIFFER : Nat := 0x00300038
def Reg.TWM_SNAP_CTRL : Nat := 0x0030003C
def Reg.TWM_SNAP_STATUS : Nat := 0x00300040
def Reg.TWM_SNAP_INSTAR_LO : Nat := 0x00300044
def Reg.TWM_SNAP_INSTAR_HI : Nat := 0x00300048
def Reg.TEL_STATUS : Nat := 0x00340000
def Reg.TEL_EPOCH : Nat := 0x00340004
def Reg.TEL_TS_LO : Nat := 0x00340008
def Reg.TEL_TS_HI : Nat := 0x0034000C
def Reg.TEL_TIME : Nat := 0x00340010
def Reg.TEL_WRAPPED : Nat := 0x00340014
def Reg.TEL_MARK : Nat := 0x00340018
def Reg.TEL_SETB_GATE : Nat := 0x0034001C
def Reg.TEL_AON_LO (i : Nat) : Nat := 0x00340100 + i * 0x8
def Reg.TEL_AON_HI (i : Nat) : Nat := 0x00340104 + i * 0x8
def Reg.TEL_SETA_LO (i : Nat) : Nat := 0x00340180 + i * 0x8
def Reg.TEL_SETA_HI (i : Nat) : Nat := 0x00340184 + i * 0x8
def Reg.TEL_SETB_LO (i : Nat) : Nat := 0x003401C0 + i * 0x8
def Reg.TEL_SETB_HI (i : Nat) : Nat := 0x003401C4 + i * 0x8
def Reg.TEL_SETA_SEL (i : Nat) : Nat := 0x00340200 + i * 0x4
def Reg.TEL_SETB_SEL (i : Nat) : Nat := 0x00340220 + i * 0x4
def Reg.TEL_RING_PROD (i : Nat) : Nat := 0x00340400 + i * 0x20
def Reg.TEL_RING_CONS (i : Nat) : Nat := 0x00340404 + i * 0x20
def Reg.TEL_RING_OLDEST (i : Nat) : Nat := 0x00340408 + i * 0x20
def Reg.TEL_RING_LOST (i : Nat) : Nat := 0x0034040C + i * 0x20
def Reg.TEL_RING_CTRL (i : Nat) : Nat := 0x00340410 + i * 0x20
def Reg.TEL_TRACE_CTRL : Nat := 0x00340500
def Reg.TEL_TRACE_LIMIT : Nat := 0x00340504
def Reg.TEL_RING_ENTRY (i : Nat) : Nat := 0x00350000 + i * 0x4
def Reg.DBG_STATUS : Nat := 0x00380000
def Reg.DBG_CTRL : Nat := 0x00380004
def Reg.DBG_HELD_INSTAR_LO : Nat := 0x00380008
def Reg.DBG_HELD_INSTAR_HI : Nat := 0x0038000C
def Reg.DBG_BREAK_LO : Nat := 0x00380010
def Reg.DBG_BREAK_HI : Nat := 0x00380014
def Reg.DBG_PEEK_SEL : Nat := 0x00380018
def Reg.DBG_PEEK_ARG : Nat := 0x0038001C
def Reg.DBG_PEEK_WIN (i : Nat) : Nat := 0x00380040 + i * 0x4
def Reg.DBG_TEST_REQ : Nat := 0x00380080
def Reg.DBG_TEST_STATUS : Nat := 0x00380084

/-- GLB_ID to GLB_LOCK_LEASE. -/
def regRows0 : List RegRow := [
  ⟨0x00000000, 0x4, 1, .one, [⟨31, 0, .ro⟩]⟩,
  ⟨0x00000004, 0x4, 1, .one, [⟨31, 24, .ro⟩, ⟨23, 16, .ro⟩, ⟨15, 0, .ro⟩]⟩,
  ⟨0x00000008, 0x4, 1, .one, [⟨31, 31, .ro⟩, ⟨30, 30, .ro⟩, ⟨29, 29, .ro⟩, ⟨22, 16, .ro⟩, ⟨13, 8, .ro⟩]⟩,
  ⟨0x0000000C, 0x4, 1, .one, [⟨31, 0, .ro⟩]⟩,
  ⟨0x00000040, 0x4, 1, .one, [⟨31, 31, .wo⟩, ⟨30, 30, .wo⟩, ⟨29, 29, .wo⟩, ⟨28, 28, .wo⟩]⟩,
  ⟨0x00000044, 0x4, 1, .one, [⟨31, 31, .ro⟩, ⟨30, 30, .ro⟩, ⟨28, 20, .ro⟩, ⟨19, 16, .ro⟩, ⟨15, 0, .ro⟩]⟩,
  ⟨0x00000048, 0x4, 1, .one, [⟨31, 0, .ro⟩]⟩]

/-- ISL_CYCLES_LO to ISL_OVER_LIMIT. -/
def regRows1 : List RegRow := [
  ⟨0x00010000, 0x100, 18, .lo, [⟨31, 0, .ro⟩]⟩,
  ⟨0x00010004, 0x100, 18, .hi, [⟨31, 0, .ro⟩]⟩,
  ⟨0x00010008, 0x100, 18, .lo, [⟨31, 0, .ro⟩]⟩,
  ⟨0x0001000C, 0x100, 18, .hi, [⟨31, 0, .ro⟩]⟩,
  ⟨0x00010010, 0x100, 18, .one, [⟨31, 16, .ro⟩, ⟨0, 0, .ro⟩]⟩,
  ⟨0x00010014, 0x100, 18, .one, [⟨31, 16, .rc⟩, ⟨15, 0, .ro⟩]⟩,
  ⟨0x00010018, 0x100, 18, .one, [⟨31, 0, .rc⟩]⟩,
  ⟨0x00012000, 0x4, 1, .one, [⟨15, 0, .rw⟩]⟩,
  ⟨0x00012004, 0x4, 1, .one, [⟨17, 0, .w1c⟩]⟩]

/-- IML_STATUS to IML_WR_BUF. -/
def regRows2 : List RegRow := [
  ⟨0x00020000, 0x4, 1, .one, [⟨31, 28, .ro⟩, ⟨27, 27, .ro⟩, ⟨26, 26, .ro⟩, ⟨25, 25, .ro⟩]⟩,
  ⟨0x00020004, 0x8, 2, .one, [⟨31, 0, .ro⟩]⟩,
  ⟨0x00020008, 0x8, 2, .one, [⟨31, 31, .ro⟩, ⟨30, 30, .ro⟩, ⟨23, 16, .ro⟩, ⟨7, 0, .ro⟩]⟩,
  ⟨0x00020014, 0x4, 1, .one, [⟨31, 24, .ro⟩, ⟨23, 16, .ro⟩, ⟨15, 12, .ro⟩, ⟨11, 11, .ro⟩, ⟨7, 0, .ro⟩]⟩,
  ⟨0x00020018, 0x4, 1, .one, [⟨31, 0, .ro⟩]⟩,
  ⟨0x00020020, 0x4, 1, .one, [⟨31, 31, .rwl⟩, ⟨30, 30, .rwl⟩]⟩,
  ⟨0x00020024, 0x4, 1, .one, [⟨31, 28, .ro⟩, ⟨15, 0, .ro⟩]⟩,
  ⟨0x00020028, 0x4, 1, .one, [⟨31, 28, .ro⟩, ⟨27, 27, .ro⟩, ⟨15, 8, .rc⟩, ⟨7, 0, .rc⟩]⟩,
  ⟨0x0002002C, 0x4, 1, .lo, [⟨31, 0, .ro⟩]⟩,
  ⟨0x00020030, 0x4, 1, .hi, [⟨31, 0, .ro⟩]⟩,
  ⟨0x00020034, 0x4, 1, .one, [⟨13, 8, .ro⟩, ⟨5, 0, .ro⟩]⟩,
  ⟨0x00020040, 0x4, 8, .one, [⟨31, 0, .ro⟩]⟩,
  ⟨0x00020060, 0x4, 1, .one, [⟨31, 31, .rwl⟩, ⟨30, 28, .rwl⟩]⟩,
  ⟨0x00020064, 0x4, 1, .one, [⟨31, 0, .rwl⟩]⟩,
  ⟨0x00020068, 0x4, 1, .one, [⟨31, 30, .ro⟩, ⟨23, 16, .ro⟩, ⟨15, 0, .rc⟩]⟩,
  ⟨0x00021000, 0x4, 1024, .one, [⟨31, 0, .rwl⟩]⟩]

/-- ING_STATUS to ING_REJECT. -/
def regRows3 : List RegRow := [
  ⟨0x00040000, 0x4, 1, .one, [⟨3, 1, .ro⟩, ⟨0, 0, .ro⟩]⟩,
  ⟨0x00040004, 0x4, 1, .lo, [⟨31, 0, .ro⟩]⟩,
  ⟨0x00040008, 0x4, 1, .hi, [⟨31, 0, .ro⟩]⟩,
  ⟨0x0004000C, 0x4, 1, .one, [⟨31, 0, .rc⟩]⟩,
  ⟨0x00040010, 0x4, 1, .one, [⟨31, 0, .rc⟩]⟩,
  ⟨0x00040014, 0x4, 1, .one, [⟨31, 0, .rc⟩]⟩,
  ⟨0x00040020, 0x4, 1, .one, [⟨15, 0, .rw⟩]⟩,
  ⟨0x00040024, 0x4, 1, .one, [⟨31, 0, .ro⟩]⟩,
  ⟨0x00040028, 0x4, 1, .one, [⟨31, 31, .ro⟩, ⟨29, 20, .ro⟩, ⟨19, 0, .ro⟩]⟩,
  ⟨0x0004002C, 0x4, 1, .lo, [⟨31, 0, .ro⟩]⟩,
  ⟨0x00040030, 0x4, 1, .hi, [⟨31, 0, .ro⟩]⟩,
  ⟨0x00040034, 0x4, 1, .lo, [⟨31, 0, .ro⟩]⟩,
  ⟨0x00040038, 0x4, 1, .hi, [⟨31, 0, .ro⟩]⟩,
  ⟨0x00040104, 0x4, 18, .one, [⟨31, 0, .rc⟩]⟩]

/-- DIR_STATUS to DIR_EPOCH_DEFER. -/
def regRows4 : List RegRow := [
  ⟨0x00080000, 0x10000, 4, .one, [⟨1, 0, .ro⟩]⟩,
  ⟨0x00080004, 0x10000, 4, .one, [⟨24, 0, .ro⟩]⟩,
  ⟨0x00080008, 0x10000, 4, .one, [⟨31, 18, .ro⟩, ⟨17, 0, .ro⟩]⟩,
  ⟨0x0008000C, 0x10000, 4, .lo, [⟨31, 0, .ro⟩]⟩,
  ⟨0x00080010, 0x10000, 4, .hi, [⟨31, 0, .ro⟩]⟩,
  ⟨0x00080014, 0x10000, 4, .lo, [⟨31, 0, .ro⟩]⟩,
  ⟨0x00080018, 0x10000, 4, .hi, [⟨31, 0, .ro⟩]⟩,
  ⟨0x0008001C, 0x10000, 4, .one, [⟨31, 0, .rc⟩]⟩,
  ⟨0x00080020, 0x10000, 4, .one, [⟨31, 0, .rc⟩]⟩,
  ⟨0x00088000, 0x4, 1, .one, [⟨31, 0, .ro⟩]⟩,
  ⟨0x00088004, 0x4, 4, .one, [⟨24, 0, .ro⟩]⟩,
  ⟨0x00088014, 0x4, 1, .one, [⟨22, 21, .ro⟩, ⟨20, 0, .ro⟩]⟩,
  ⟨0x00088018, 0x4, 1, .one, [⟨24, 0, .ro⟩]⟩,
  ⟨0x0008801C, 0x4, 1, .one, [⟨24, 0, .ro⟩]⟩,
  ⟨0x00088020, 0x4, 1, .one, [⟨16, 0, .ro⟩]⟩,
  ⟨0x00088024, 0x4, 1, .one, [⟨7, 4, .ro⟩, ⟨3, 0, .ro⟩]⟩,
  ⟨0x00088028, 0x4, 1, .one, [⟨8, 8, .ro⟩, ⟨7, 4, .ro⟩, ⟨3, 0, .ro⟩]⟩,
  ⟨0x0008802C, 0x4, 1, .one, [⟨24, 0, .ro⟩]⟩,
  ⟨0x00088030, 0x4, 1, .one, [⟨31, 0, .rc⟩]⟩,
  ⟨0x00088034, 0x4, 1, .one, [⟨31, 0, .rc⟩]⟩]

/-- LDG_TENANT_SEL to LDG_VMIN_HI. -/
def regRows5 : List RegRow := [
  ⟨0x000C0000, 0x4, 1, .one, [⟨9, 0, .rw⟩]⟩,
  ⟨0x000C0004, 0x4, 1, .one, [⟨31, 31, .ro⟩, ⟨30, 28, .ro⟩, ⟨27, 20, .ro⟩, ⟨15, 0, .ro⟩]⟩,
  ⟨0x000C0008, 0x4, 1, .one, [⟨31, 0, .ro⟩]⟩,
  ⟨0x000C000C, 0x4, 1, .one, [⟨31, 0, .ro⟩]⟩,
  ⟨0x000C0010, 0x4, 1, .one, [⟨31, 16, .ro⟩, ⟨15, 0, .ro⟩]⟩,
  ⟨0x000C0014, 0x4, 1, .one, [⟨31, 16, .ro⟩, ⟨15, 0, .ro⟩]⟩,
  ⟨0x000C0018, 0x4, 1, .one, [⟨31, 16, .ro⟩, ⟨15, 0, .ro⟩]⟩,
  ⟨0x000C001C, 0x4, 1, .lo, [⟨31, 0, .ro⟩]⟩,
  ⟨0x000C0020, 0x4, 1, .hi, [⟨31, 0, .ro⟩]⟩,
  ⟨0x000C0024, 0x4, 1, .one, [⟨24, 0, .ro⟩]⟩,
  ⟨0x000C0028, 0x4, 1, .lo, [⟨31, 0, .ro⟩]⟩,
  ⟨0x000C002C, 0x4, 1, .hi, [⟨31, 0, .ro⟩]⟩,
  ⟨0x000C0030, 0x4, 1, .lo, [⟨31, 0, .ro⟩]⟩,
  ⟨0x000C0034, 0x4, 1, .hi, [⟨31, 0, .ro⟩]⟩]

/-- DLN_CLASS_TTFT to DLN_REVIVE. -/
def regRows6 : List RegRow := [
  ⟨0x00100000, 0x10, 8, .one, [⟨31, 0, .ro⟩]⟩,
  ⟨0x00100004, 0x10, 8, .one, [⟨31, 30, .ro⟩, ⟨29, 0, .ro⟩]⟩,
  ⟨0x00100008, 0x10, 8, .one, [⟨24, 0, .ro⟩]⟩,
  ⟨0x0010000C, 0x10, 8, .one, [⟨31, 16, .rc⟩, ⟨15, 0, .rc⟩]⟩,
  ⟨0x00100100, 0x4, 4, .one, [⟨31, 0, .ro⟩]⟩,
  ⟨0x00100110, 0x4, 1, .one, [⟨31, 0, .ro⟩]⟩,
  ⟨0x00100114, 0x4, 1, .one, [⟨15, 0, .ro⟩]⟩,
  ⟨0x00100118, 0x4, 1, .one, [⟨31, 0, .ro⟩]⟩]

/-- CMP_STATUS to CMP_ALLOW. -/
def regRows7 : List RegRow := [
  ⟨0x00140000, 0x4, 1, .one, [⟨17, 16, .ro⟩, ⟨14, 8, .ro⟩, ⟨1, 1, .ro⟩, ⟨0, 0, .ro⟩]⟩,
  ⟨0x00140004, 0x4, 1, .lo, [⟨31, 0, .ro⟩]⟩,
  ⟨0x00140008, 0x4, 1, .hi, [⟨31, 0, .ro⟩]⟩,
  ⟨0x0014000C, 0x4, 1, .one, [⟨27, 27, .ro⟩, ⟨26, 26, .ro⟩, ⟨25, 20, .ro⟩, ⟨18, 16, .ro⟩, ⟨14, 0, .ro⟩]⟩,
  ⟨0x00140010, 0x4, 1, .one, [⟨31, 0, .ro⟩]⟩,
  ⟨0x00140014, 0x4, 1, .one, [⟨31, 0, .ro⟩]⟩,
  ⟨0x00140018, 0x4, 1, .one, [⟨27, 19, .ro⟩, ⟨18, 0, .ro⟩]⟩,
  ⟨0x0014001C, 0x4, 1, .one, [⟨31, 16, .ro⟩, ⟨14, 0, .ro⟩]⟩,
  ⟨0x00140020, 0x4, 1, .one, [⟨31, 0, .ro⟩]⟩,
  ⟨0x00140024, 0x4, 1, .one, [⟨31, 0, .rc⟩]⟩,
  ⟨0x00140028, 0x4, 1, .one, [⟨31, 0, .rc⟩]⟩,
  ⟨0x0014002C, 0x4, 1, .one, [⟨31, 0, .rc⟩]⟩,
  ⟨0x00140030, 0x4, 1, .one, [⟨31, 16, .rc⟩, ⟨15, 0, .rc⟩]⟩,
  ⟨0x00140034, 0x4, 1, .one, [⟨31, 16, .rc⟩, ⟨15, 0, .rc⟩]⟩,
  ⟨0x00140038, 0x4, 1, .one, [⟨31, 16, .rc⟩, ⟨15, 0, .rc⟩]⟩,
  ⟨0x0014003C, 0x4, 1, .lo, [⟨31, 0, .ro⟩]⟩,
  ⟨0x00140040, 0x4, 1, .hi, [⟨31, 0, .ro⟩]⟩,
  ⟨0x00140044, 0x4, 1, .one, [⟨31, 0, .ro⟩]⟩,
  ⟨0x00140100, 0x4, 64, .one, [⟨31, 0, .ro⟩]⟩]

/-- DSQ_STATUS to DSQ_P_CREDITS. -/
def regRows8 : List RegRow := [
  ⟨0x00180000, 0x4, 1, .one, [⟨22, 16, .ro⟩, ⟨14, 0, .ro⟩]⟩,
  ⟨0x00180004, 0x4, 1, .one, [⟨15, 0, .ro⟩]⟩,
  ⟨0x00180008, 0x4, 1, .one, [⟨31, 16, .rc⟩, ⟨15, 0, .rc⟩]⟩,
  ⟨0x0018000C, 0x4, 1, .one, [⟨21, 16, .rc⟩, ⟨5, 0, .ro⟩]⟩,
  ⟨0x00180010, 0x4, 1, .one, [⟨31, 31, .rwl⟩, ⟨30, 30, .rwl⟩, ⟨29, 28, .rwl⟩, ⟨27, 22, .rwl⟩, ⟨15, 0, .rwl⟩]⟩,
  ⟨0x00180014, 0x4, 1, .lo, [⟨31, 0, .rwl⟩]⟩,
  ⟨0x00180018, 0x4, 1, .hi, [⟨31, 0, .rwl⟩]⟩,
  ⟨0x0018001C, 0x4, 1, .one, [⟨31, 0, .rwl⟩]⟩,
  ⟨0x00180020, 0x4, 1, .lo, [⟨31, 0, .rwl⟩]⟩,
  ⟨0x00180024, 0x4, 1, .hi, [⟨15, 0, .rwl⟩]⟩,
  ⟨0x00180028, 0x4, 1, .one, [⟨31, 31, .rwl⟩, ⟨15, 10, .rwl⟩, ⟨1, 1, .ro⟩, ⟨0, 0, .rwl⟩]⟩,
  ⟨0x00190000, 0x400, 64, .one, [⟨31, 31, .ro⟩, ⟨30, 30, .ro⟩, ⟨26, 16, .ro⟩, ⟨10, 0, .ro⟩]⟩,
  ⟨0x00190004, 0x400, 64, .one, [⟨15, 0, .ro⟩]⟩,
  ⟨0x00190008, 0x400, 64, .one, [⟨31, 30, .ro⟩, ⟨29, 26, .ro⟩, ⟨25, 22, .ro⟩, ⟨21, 11, .ro⟩, ⟨10, 0, .ro⟩]⟩,
  ⟨0x0019000C, 0x400, 64, .one, [⟨31, 16, .ro⟩, ⟨15, 0, .ro⟩]⟩,
  ⟨0x00190010, 0x400, 64, .one, [⟨31, 16, .ro⟩, ⟨15, 0, .ro⟩]⟩,
  ⟨0x00190014, 0x400, 64, .one, [⟨31, 16, .rc⟩, ⟨15, 0, .rc⟩]⟩,
  ⟨0x00190018, 0x400, 64, .one, [⟨31, 28, .ro⟩, ⟨27, 16, .rc⟩, ⟨15, 0, .rc⟩]⟩,
  ⟨0x0019001C, 0x400, 64, .lo, [⟨31, 0, .ro⟩]⟩,
  ⟨0x00190020, 0x400, 64, .hi, [⟨31, 0, .ro⟩]⟩,
  ⟨0x00190024, 0x400, 64, .one, [⟨31, 16, .ro⟩, ⟨15, 0, .ro⟩]⟩]

/-- PLN_STATUS to PLN_TGT_STATE. -/
def regRows9 : List RegRow := [
  ⟨0x001C0000, 0x4, 1, .one, [⟨2, 2, .ro⟩, ⟨1, 1, .ro⟩, ⟨0, 0, .ro⟩]⟩,
  ⟨0x001C0004, 0x4, 1, .one, [⟨18, 0, .ro⟩]⟩,
  ⟨0x001C0008, 0x4, 1, .one, [⟨31, 0, .ro⟩]⟩,
  ⟨0x001C000C, 0x4, 1, .one, [⟨31, 0, .ro⟩]⟩,
  ⟨0x001C0010, 0x4, 5, .one, [⟨24, 0, .ro⟩]⟩,
  ⟨0x001C0024, 0x4, 1, .one, [⟨31, 16, .rc⟩, ⟨15, 0, .rc⟩]⟩,
  ⟨0x001C0028, 0x4, 1, .one, [⟨31, 16, .rc⟩, ⟨15, 0, .rc⟩]⟩,
  ⟨0x001C002C, 0x4, 1, .one, [⟨31, 16, .rc⟩, ⟨15, 0, .ro⟩]⟩,
  ⟨0x001C0030, 0x4, 1, .one, [⟨31, 0, .rc⟩]⟩,
  ⟨0x001C0034, 0x4, 1, .one, [⟨31, 15, .ro⟩, ⟨14, 0, .rc⟩]⟩,
  ⟨0x001C0040, 0x4, 1, .one, [⟨25, 16, .rw⟩, ⟨15, 0, .rw⟩]⟩,
  ⟨0x001C0044, 0x4, 1, .one, [⟨31, 31, .ro⟩, ⟨30, 30, .ro⟩, ⟨10, 0, .ro⟩]⟩,
  ⟨0x001C0048, 0x4, 1, .one, [⟨31, 0, .ro⟩]⟩,
  ⟨0x001C004C, 0x4, 1, .one, [⟨31, 16, .ro⟩, ⟨15, 0, .ro⟩]⟩,
  ⟨0x001C0100, 0x4, 64, .one, [⟨15, 0, .ro⟩]⟩,
  ⟨0x001C8000, 0x10, 4096, .one, [⟨31, 31, .ro⟩, ⟨30, 28, .ro⟩, ⟨15, 0, .ro⟩]⟩,
  ⟨0x001C8004, 0x10, 4096, .one, [⟨31, 0, .ro⟩]⟩,
  ⟨0x001C8008, 0x10, 4096, .one, [⟨31, 0, .ro⟩]⟩,
  ⟨0x001C800C, 0x10, 4096, .one, [⟨31, 30, .ro⟩, ⟨15, 0, .rc⟩]⟩]

/-- MOV_CH_STATUS to MOV_CH_ERRORS. -/
def regRows10 : List RegRow := [
  ⟨0x00200000, 0x1000, 64, .one, [⟨31, 30, .ro⟩, ⟨21, 11, .ro⟩, ⟨10, 0, .ro⟩]⟩,
  ⟨0x00200004, 0x1000, 64, .one, [⟨31, 0, .ro⟩]⟩,
  ⟨0x00200008, 0x1000, 64, .lo, [⟨31, 0, .ro⟩]⟩,
  ⟨0x0020000C, 0x1000, 64, .hi, [⟨31, 0, .ro⟩]⟩,
  ⟨0x00200010, 0x1000, 64, .one, [⟨31, 16, .rc⟩, ⟨15, 0, .rc⟩]⟩]

/-- MOV_STATUS to MOV_MIGRATED. -/
def regRows11 : List RegRow := [
  ⟨0x00240000, 0x4, 1, .one, [⟨6, 0, .ro⟩]⟩,
  ⟨0x00240004, 0x4, 1, .lo, [⟨31, 0, .ro⟩]⟩,
  ⟨0x00240008, 0x4, 1, .hi, [⟨31, 0, .ro⟩]⟩,
  ⟨0x0024000C, 0x4, 1, .one, [⟨31, 0, .rc⟩]⟩,
  ⟨0x00240010, 0x4, 1, .one, [⟨31, 0, .rc⟩]⟩]

/-- SMP_STATUS to SMP_TOOL_DONE. -/
def regRows12 : List RegRow := [
  ⟨0x00280000, 0x4, 1, .one, [⟨31, 31, .ro⟩, ⟨30, 30, .ro⟩, ⟨29, 27, .ro⟩, ⟨13, 8, .ro⟩, ⟨5, 0, .ro⟩]⟩,
  ⟨0x00280004, 0x4, 1, .lo, [⟨31, 0, .ro⟩]⟩,
  ⟨0x00280008, 0x4, 1, .hi, [⟨31, 0, .ro⟩]⟩,
  ⟨0x0028000C, 0x4, 1, .lo, [⟨31, 0, .ro⟩]⟩,
  ⟨0x00280010, 0x4, 1, .hi, [⟨31, 0, .ro⟩]⟩,
  ⟨0x00280014, 0x4, 1, .one, [⟨31, 16, .rc⟩, ⟨15, 0, .rc⟩]⟩,
  ⟨0x00280018, 0x4, 1, .one, [⟨31, 0, .rc⟩]⟩,
  ⟨0x0028001C, 0x4, 1, .one, [⟨31, 0, .rc⟩]⟩,
  ⟨0x00280020, 0x4, 1, .one, [⟨31, 0, .rc⟩]⟩,
  ⟨0x00280024, 0x4, 1, .one, [⟨31, 16, .rc⟩, ⟨15, 0, .rc⟩]⟩,
  ⟨0x00280028, 0x4, 1, .one, [⟨31, 0, .rc⟩]⟩,
  ⟨0x0028002C, 0x4, 1, .lo, [⟨31, 0, .ro⟩]⟩,
  ⟨0x00280030, 0x4, 1, .hi, [⟨31, 0, .ro⟩]⟩,
  ⟨0x00280100, 0x8, 16, .one, [⟨19, 0, .ro⟩]⟩,
  ⟨0x00280104, 0x8, 16, .one, [⟨20, 0, .ro⟩]⟩,
  ⟨0x00280200, 0x4, 1, .one, [⟨31, 16, .rc⟩, ⟨8, 0, .ro⟩]⟩,
  ⟨0x00280204, 0x4, 1, .lo, [⟨31, 0, .ro⟩]⟩,
  ⟨0x00280208, 0x4, 1, .hi, [⟨31, 0, .ro⟩]⟩,
  ⟨0x0028020C, 0x4, 1, .lo, [⟨31, 0, .ro⟩]⟩,
  ⟨0x00280210, 0x4, 1, .hi, [⟨31, 0, .ro⟩]⟩,
  ⟨0x00280214, 0x4, 1, .one, [⟨31, 0, .rc⟩]⟩,
  ⟨0x00280218, 0x4, 1, .one, [⟨31, 16, .rc⟩, ⟨15, 0, .rc⟩]⟩,
  ⟨0x0028021C, 0x4, 1, .one, [⟨24, 9, .ro⟩, ⟨8, 0, .ro⟩]⟩,
  ⟨0x00280220, 0x4, 1, .one, [⟨31, 16, .rc⟩, ⟨15, 0, .rc⟩]⟩]

/-- SMP_LANE_STATUS to SMP_LANE_ERRORS. -/
def regRows13 : List RegRow := [
  ⟨0x00290000, 0x400, 64, .one, [⟨31, 30, .ro⟩, ⟨29, 29, .ro⟩, ⟨20, 0, .ro⟩]⟩,
  ⟨0x00290004, 0x400, 64, .one, [⟨31, 0, .ro⟩]⟩,
  ⟨0x00290008, 0x400, 64, .lo, [⟨31, 0, .ro⟩]⟩,
  ⟨0x0029000C, 0x400, 64, .hi, [⟨31, 0, .ro⟩]⟩,
  ⟨0x00290010, 0x400, 64, .one, [⟨31, 0, .rc⟩]⟩,
  ⟨0x00290014, 0x400, 64, .one, [⟨7, 0, .rc⟩]⟩]

/-- PGV_STATUS to PGV_COEF. -/
def regRows14 : List RegRow := [
  ⟨0x002C0000, 0x4, 1, .one, [⟨31, 28, .ro⟩, ⟨27, 27, .ro⟩, ⟨26, 25, .ro⟩, ⟨24, 24, .ro⟩, ⟨23, 23, .ro⟩, ⟨22, 22, .ro⟩, ⟨21, 21, .ro⟩, ⟨20, 16, .ro⟩, ⟨15, 0, .ro⟩]⟩,
  ⟨0x002C0004, 0x4, 1, .one, [⟨31, 31, .rwl⟩, ⟨26, 24, .rwl⟩]⟩,
  ⟨0x002C0008, 0x4, 1, .one, [⟨31, 16, .ro⟩, ⟨15, 0, .ro⟩]⟩,
  ⟨0x002C000C, 0x4, 1, .one, [⟨31, 16, .ro⟩, ⟨15, 0, .ro⟩]⟩,
  ⟨0x002C0010, 0x4, 1, .one, [⟨31, 0, .ro⟩]⟩,
  ⟨0x002C0014, 0x4, 1, .one, [⟨27, 25, .ro⟩, ⟨24, 22, .ro⟩, ⟨21, 19, .ro⟩, ⟨18, 18, .ro⟩, ⟨17, 15, .ro⟩, ⟨14, 12, .ro⟩, ⟨11, 0, .ro⟩]⟩,
  ⟨0x002C0018, 0x4, 1, .one, [⟨22, 16, .ro⟩, ⟨14, 8, .ro⟩, ⟨6, 0, .ro⟩]⟩,
  ⟨0x002C001C, 0x4, 1, .one, [⟨31, 16, .ro⟩, ⟨15, 8, .ro⟩]⟩,
  ⟨0x002C0020, 0x4, 1, .one, [⟨31, 31, .ro⟩, ⟨30, 30, .ro⟩, ⟨29, 29, .ro⟩, ⟨24, 0, .ro⟩]⟩,
  ⟨0x002C0024, 0x4, 1, .lo, [⟨31, 0, .ro⟩]⟩,
  ⟨0x002C0028, 0x4, 1, .hi, [⟨31, 0, .ro⟩]⟩,
  ⟨0x002C002C, 0x4, 1, .lo, [⟨31, 0, .ro⟩]⟩,
  ⟨0x002C0030, 0x4, 1, .hi, [⟨31, 0, .ro⟩]⟩,
  ⟨0x002C0034, 0x4, 1, .one, [⟨31, 16, .rc⟩, ⟨15, 0, .rc⟩]⟩,
  ⟨0x002C0100, 0x8, 16, .lo, [⟨31, 0, .ro⟩]⟩,
  ⟨0x002C0104, 0x8, 16, .hi, [⟨31, 0, .ro⟩]⟩,
  ⟨0x002C0200, 0x4, 6, .one, [⟨31, 16, .ro⟩, ⟨15, 8, .ro⟩, ⟨7, 0, .ro⟩]⟩,
  ⟨0x002C0300, 0x4, 13, .one, [⟨31, 0, .ro⟩]⟩]

/-- TWM_STATUS to TWM_SNAP_INSTAR_HI. -/
def regRows15 : List RegRow := [
  ⟨0x00300000, 0x4, 1, .one, [⟨31, 28, .ro⟩, ⟨27, 27, .ro⟩, ⟨26, 26, .ro⟩, ⟨25, 25, .ro⟩, ⟨24, 24, .ro⟩, ⟨23, 23, .ro⟩, ⟨22, 22, .ro⟩]⟩,
  ⟨0x00300004, 0x4, 1, .one, [⟨31, 0, .ro⟩]⟩,
  ⟨0x00300008, 0x4, 1, .lo, [⟨31, 0, .ro⟩]⟩,
  ⟨0x0030000C, 0x4, 1, .hi, [⟨31, 0, .ro⟩]⟩,
  ⟨0x00300010, 0x4, 1, .lo, [⟨31, 0, .ro⟩]⟩,
  ⟨0x00300014, 0x4, 1, .hi, [⟨31, 0, .ro⟩]⟩,
  ⟨0x00300018, 0x4, 1, .one, [⟨31, 16, .ro⟩, ⟨15, 8, .rc⟩, ⟨3, 0, .ro⟩]⟩,
  ⟨0x0030001C, 0x4, 1, .one, [⟨31, 16, .rc⟩, ⟨15, 0, .ro⟩]⟩,
  ⟨0x00300020, 0x4, 1, .one, [⟨31, 16, .rc⟩, ⟨15, 0, .rc⟩]⟩,
  ⟨0x00300024, 0x4, 1, .lo, [⟨31, 0, .ro⟩]⟩,
  ⟨0x00300028, 0x4, 1, .hi, [⟨31, 0, .ro⟩]⟩,
  ⟨0x0030002C, 0x4, 1, .one, [⟨31, 24, .rc⟩, ⟨23, 16, .rc⟩, ⟨15, 0, .rc⟩]⟩,
  ⟨0x00300030, 0x4, 1, .one, [⟨31, 16, .rc⟩, ⟨15, 0, .rc⟩]⟩,
  ⟨0x00300034, 0x4, 1, .one, [⟨24, 0, .ro⟩]⟩,
  ⟨0x00300038, 0x4, 1, .one, [⟨31, 0, .rc⟩]⟩,
  ⟨0x0030003C, 0x4, 1, .one, [⟨31, 31, .wo⟩]⟩,
  ⟨0x00300040, 0x4, 1, .one, [⟨31, 30, .ro⟩, ⟨15, 0, .rc⟩]⟩,
  ⟨0x00300044, 0x4, 1, .lo, [⟨31, 0, .ro⟩]⟩,
  ⟨0x00300048, 0x4, 1, .hi, [⟨31, 0, .ro⟩]⟩]

/-- TEL_STATUS to TEL_RING_ENTRY. -/
def regRows16 : List RegRow := [
  ⟨0x00340000, 0x4, 1, .one, [⟨25, 21, .ro⟩, ⟨20, 11, .ro⟩, ⟨10, 4, .ro⟩, ⟨3, 0, .ro⟩]⟩,
  ⟨0x00340004, 0x4, 1, .one, [⟨31, 0, .ro⟩]⟩,
  ⟨0x00340008, 0x4, 1, .lo, [⟨31, 0, .ro⟩]⟩,
  ⟨0x0034000C, 0x4, 1, .hi, [⟨31, 0, .ro⟩]⟩,
  ⟨0x00340010, 0x4, 1, .one, [⟨31, 29, .ro⟩, ⟨23, 0, .ro⟩]⟩,
  ⟨0x00340014, 0x4, 1, .one, [⟨31, 24, .w1c⟩, ⟨23, 16, .w1c⟩, ⟨15, 0, .w1c⟩]⟩,
  ⟨0x00340018, 0x4, 1, .one, [⟨31, 16, .wo⟩, ⟨15, 15, .wo⟩, ⟨14, 14, .wo⟩]⟩,
  ⟨0x0034001C, 0x4, 1, .one, [⟨31, 31, .rw⟩, ⟨15, 0, .rw⟩]⟩,
  ⟨0x00340100, 0x8, 16, .lo, [⟨31, 0, .ro⟩]⟩,
  ⟨0x00340104, 0x8, 16, .hi, [⟨31, 0, .ro⟩]⟩,
  ⟨0x00340180, 0x8, 8, .lo, [⟨31, 0, .ro⟩]⟩,
  ⟨0x00340184, 0x8, 8, .hi, [⟨31, 0, .ro⟩]⟩,
  ⟨0x003401C0, 0x8, 8, .lo, [⟨31, 0, .ro⟩]⟩,
  ⟨0x003401C4, 0x8, 8, .hi, [⟨31, 0, .ro⟩]⟩,
  ⟨0x00340200, 0x4, 8, .one, [⟨31, 31, .ro⟩, ⟨30, 30, .ro⟩, ⟨25, 24, .rw⟩, ⟨23, 8, .rw⟩, ⟨7, 0, .rw⟩]⟩,
  ⟨0x00340220, 0x4, 8, .one, [⟨31, 31, .ro⟩, ⟨30, 30, .ro⟩, ⟨25, 24, .rw⟩, ⟨23, 8, .rw⟩, ⟨7, 0, .rw⟩]⟩,
  ⟨0x00340400, 0x20, 4, .one, [⟨31, 0, .ro⟩]⟩,
  ⟨0x00340404, 0x20, 4, .one, [⟨31, 0, .rw⟩]⟩,
  ⟨0x00340408, 0x20, 4, .one, [⟨31, 0, .ro⟩]⟩,
  ⟨0x0034040C, 0x20, 4, .one, [⟨31, 16, .rc⟩, ⟨15, 0, .rc⟩]⟩,
  ⟨0x00340410, 0x20, 4, .one, [⟨31, 31, .wo⟩, ⟨30, 20, .rw⟩, ⟨19, 12, .rw⟩, ⟨11, 0, .ro⟩]⟩,
  ⟨0x00340500, 0x4, 1, .one, [⟨31, 31, .rw⟩, ⟨27, 16, .rw⟩, ⟨15, 0, .rw⟩]⟩,
  ⟨0x00340504, 0x4, 1, .one, [⟨15, 0, .rw⟩]⟩,
  ⟨0x00350000, 0x4, 32768, .one, [⟨31, 0, .ro⟩]⟩]

/-- DBG_STATUS to DBG_TEST_STATUS. -/
def regRows17 : List RegRow := [
  ⟨0x00380000, 0x4, 1, .one, [⟨31, 31, .ro⟩, ⟨30, 30, .ro⟩, ⟨29, 29, .ro⟩]⟩,
  ⟨0x00380004, 0x4, 1, .one, [⟨31, 31, .rwl⟩, ⟨30, 30, .rwl⟩, ⟨29, 29, .rwl⟩, ⟨28, 28, .rwl⟩]⟩,
  ⟨0x00380008, 0x4, 1, .lo, [⟨31, 0, .ro⟩]⟩,
  ⟨0x0038000C, 0x4, 1, .hi, [⟨31, 0, .ro⟩]⟩,
  ⟨0x00380010, 0x4, 1, .lo, [⟨31, 0, .rwl⟩]⟩,
  ⟨0x00380014, 0x4, 1, .hi, [⟨15, 0, .rwl⟩]⟩,
  ⟨0x00380018, 0x4, 1, .one, [⟨31, 31, .ro⟩, ⟨30, 30, .ro⟩, ⟨3, 0, .rw⟩]⟩,
  ⟨0x0038001C, 0x4, 1, .one, [⟨31, 0, .rw⟩]⟩,
  ⟨0x00380040, 0x4, 16, .one, [⟨31, 0, .ro⟩]⟩,
  ⟨0x00380080, 0x4, 1, .one, [⟨31, 31, .rwl⟩, ⟨30, 30, .rwl⟩, ⟨25, 24, .rwl⟩, ⟨5, 0, .rwl⟩]⟩,
  ⟨0x00380084, 0x4, 1, .one, [⟨31, 29, .ro⟩, ⟨28, 27, .ro⟩, ⟨26, 21, .ro⟩, ⟨15, 0, .ro⟩]⟩]

/-- The rows of the BAR2 block that holds an offset (Table 14-7). -/
def regRowsAt (off : Nat) : List RegRow :=
  if off < 0x10000 then regRows0
  else if off < 0x20000 then regRows1
  else if off < 0x40000 then regRows2
  else match off / 0x40000 with
  | 1 => regRows3
  | 2 => regRows4
  | 3 => regRows5
  | 4 => regRows6
  | 5 => regRows7
  | 6 => regRows8
  | 7 => regRows9
  | 8 => regRows10
  | 9 => regRows11
  | 10 => regRows12 ++ regRows13
  | 11 => regRows14
  | 12 => regRows15
  | 13 => regRows16
  | 14 => regRows17
  | _ => []

/-- The row of the register at an offset; none where the offset holds no register (R10). -/
def regAt (off : Nat) : Option RegRow :=
  (regRowsAt off).find? fun r =>
    decide (r.base ≤ off ∧ (off - r.base) % r.stride = 0 ∧ (off - r.base) / r.stride < r.count)

/-- The value after an engine reset of the stored fields of a register whose field map gives one other than 0. -/
def regReset (off : Nat) : Word :=
  if off = Reg.TEL_RING_CTRL 0 ∨ off = Reg.TEL_RING_CTRL 1 ∨ off = Reg.TEL_RING_CTRL 2 ∨ off = Reg.TEL_RING_CTRL 3 then
    0x00100000#32
  else if off = Reg.TEL_TRACE_CTRL then 0x00000064#32
  else if off = Reg.ISL_STRETCH_LIMIT then 0x00000214#32
  else 0#32

end Sys2Proof
end

