-- ==== Sys2Proof/Machine/ObserveTypes.lean ====
section
/-! DEFINITION. State of the islands, of TEL, of DBG and of IML (02, 12, 13), and what leaves the engine (14 Table 14-1). -/

namespace Sys2Proof.Machine

/-- What a job's kernels are bound to (06 R137, 08 R201): the instar, the address of its descriptor, WIDTH, F and E; for the
first kernel of a tool job, the committed tokens it receives. -/
structure Binding where
  instar : Nat
  desc : Nat := 0
  width : Nat := 0
  fed : Nat := 0
  ents : Nat := 0
  tokens : List Nat := []
  deriving DecidableEq, Repr

/-- A cluster command (14 Table 14-1, cluster command port; 06). -/
inductive ClusterOp where
  /-- A KERNEL with its PHASE, ARG [64 B] and groups. -/
  | issue (part job kernel phase arg : Nat) (groups : List Nat) (bind : Binding)
  | halt (part job : Nat)
  | save (group slot : Nat)
  | restore (group slot : Nat)
  | context (group model : Nat)
  | resetPart (part : Nat)
  /-- The selected tensor of the job's last kernel is written to a buffer of `size` bytes at `addr` (06 R154). -/
  | dump (part job tensor addr size : Nat)
  /-- The pulses of every 64 that an idle cluster keeps, and each busy cluster's (11 R293). -/
  | skip (idle : Nat) (busy : List (Nat × Nat))
  | clock (mhz : Nat)
  deriving DecidableEq, Repr

/-- A transfer to or from a far target, or of the flash (09, 10, 12). -/
inductive FarOp where
  | journal (target : Nat) (first last bytes : Nat)
  | snapshot (target : Nat) (bytes : Nat)
  /-- A full page of a session's token log (10 R253). -/
  | logPage (target tag page : Nat)
  /-- A read of a snapshot (1), of the journals after it (2) or of the partner's journal (3) (10 R268, R282). -/
  | read (target what : Nat)
  | pageRead (channel tag page : Nat)
  | pageWrite (channel tag page : Nat)
  deriving DecidableEq, Repr

/-- The PMBus commands that PGV uses (11 R288, R289, R312). -/
inductive PmCmd where
  | readPout | readIout | readTemperature | statusWord
  | phaseIout (phase : Nat)
  | alertResponse
  deriving DecidableEq, Repr

/-- The AVSBus reads that PGV uses (11 R289). -/
inductive AvsRead where
  | voltage | current | status
  deriving DecidableEq, Repr

/-- What leaves the engine, in order. Commands never read it back. -/
inductive Out where
  /-- An emission record with its destination label (14 R392). -/
  | emission (label : Nat) (rec : Bytes)
  /-- A fabric frame (14 R387): class, route, destination rank, message. -/
  | frame (cls route dst : Nat) (msg : Bytes)
  /-- A twin-port message (14 R396). -/
  | twin (msg : Bytes)
  /-- The pages of a session, with their CRCs, that follow a MIG_DATA header and chip record (09 R234). -/
  | migPages (tag count : Nat)
  /-- A witness message (10 R265), to an IPv6 address and UDP port, from the same UDP port (14 R395). -/
  | witness (ip : Bytes) (port : Nat) (msg : Bytes)
  | cluster (op : ClusterOp)
  | far (op : FarOp)
  /-- An AVSBus voltage command: rail and mV (11 R289). -/
  | avs (rail mv : Nat)
  /-- An AVSBus read of a rail (11 R289; when each is sent is log entry 149). -/
  | avsRead (rail : Nat) (what : AvsRead)
  /-- The AVSBus VoutTransRate write of start-up: rail and mV/µs (11 R289, R297). -/
  | avsRate (rail mvUs : Nat)
  /-- A PMBus command to a device address (11 R289). -/
  | pmbus (addr : Nat) (cmd : PmCmd)
  /-- A rail enable (12 R337, R344). -/
  | enable (rail : Nat) (on : Bool)
  /-- CAP_FAIL_N driven low (`true`) or released (11 R308). -/
  | capFail (low : Bool)
  /-- PD_FAULT_N driven low (12 R345). -/
  | pdFault
  /-- A ring's interrupt message (13 R365). -/
  | interrupt (ring : Nat)
  /-- A trace record on the trace port (13 R366). -/
  | trace (rec : Bytes)
  deriving DecidableEq, Repr

/-! ## Islands (02) -/

/-- Measurement state of one island (02 R44, R45). Its counters lie in the register file. -/
structure Island where
  winStart : Nat := 0
  /-- Fabric timestamp of the window's first edge. -/
  tsStart : Nat := 0
  /-- RYV_ISL_STRETCH_LIMIT in force at the window's start (R48). -/
  limit : Nat := 532
  stretching : Bool := false
  deriving DecidableEq, Repr

/-! ## TEL (13) -/

/-- An event notice (13 R360). `more` is the second entry of a two-entry notice. -/
structure Notice where
  typ : Nat
  prio : Nat
  ts : Nat
  tag : Nat
  instar : Nat
  data : Bytes
  more : Bytes := []
  deriving DecidableEq, Repr

/-- An event ring (13 R363 to R365). Counts are held unwrapped. -/
structure Ring where
  slots : Tab Bytes := []
  prod : Nat := 0
  cons : Nat := 0
  oldest : Nat := 0
  /-- Start and length of each notice between OLDEST and PROD, oldest first. -/
  items : List (Nat × Nat) := []
  flushSeq : Nat := 0
  armed : Bool := true
  /-- When the ring was last signalled. -/
  lastSig : Option Nat := none
  /-- Entries overwritten and notices dropped this epoch, the kind of the first loss, and TEL_EVENT_LOSS raised. -/
  lossRaised : Bool := false
  lostEpoch : Nat := 0
  lossKind : Nat := 0
  deriving DecidableEq, Repr

/-- A selector's state (13 R354): the selection in force, the pending one, CHANGED. -/
structure Selector where
  force : Nat := 0
  pending : Option Nat := none
  changed : Bool := false
  deriving DecidableEq, Repr

/-- A tenant view page (Table 13-4), as held in the snapshot bank. -/
structure TPage where
  admitted : Nat := 0
  fed : Nat := 0
  committed : Nat := 0
  engineNs : Nat := 0
  energyUj : Nat := 0
  level : Nat := 0
  share : Nat := 0
  live : Nat := 0
  pins : Nat := 0
  reservations : Nat := 0
  /-- REJECT[c] by code. -/
  reject : Tab Nat := []
  /-- TTFT and TBT misses by class. -/
  missTtft : Tab Nat := []
  missTbt : Tab Nat := []
  deriving DecidableEq, Repr

/-- TEL. Counters 0 to 15 are always-on, 16 to 23 set A, 24 to 31 set B. -/
structure Tel where
  /-- Discipline state (Table 13-1), measurements in a row within 100 ns, last measurement, last offset. -/
  timeState : Nat := 0
  inLock : Nat := 0
  lastMeas : Nat := 0
  offset : Int := 0
  epoch : Nat := 0
  live : Tab Nat := []
  snap : Tab Nat := []
  /-- Counters that wrapped in this epoch (RYV_TEL_WRAPPED layout). -/
  wrapEpoch : Nat := 0
  sel : Tab Selector := []
  marks : List Nat := []
  queue : List Notice := []
  rings : List Ring := [{}, {}, {}, {}]
  fifo : List Bytes := []
  /-- TRC_VALID (14 R400, R401): a record stands on the trace port. -/
  valid : Bool := false
  drops : Nat := 0
  dropCause : Nat := 0
  dropsEpoch : Nat := 0
  sentEpoch : Nat := 0
  /-- Keys of the events raised this epoch that an epoch admits once. -/
  once : List Nat := []
  /-- Tenant view pages: the counts TEL keeps, and the snapshot bank. -/
  pages : Tab TPage := []
  pagesSnap : Tab TPage := []
  deriving DecidableEq, Repr

/-! ## DBG and the lock (13) -/

/-- A staged write of an RWL field (13 R371): offset and value. -/
structure Staged where
  off : Nat
  val : Word
  deriving DecidableEq, Repr

/-- The locked sequence (13 R370 to R373); it lives in AON. -/
structure Lock where
  held : Bool := false
  holder : Nat := 0
  leaseEnd : Nat := 0
  staged : List Staged := []
  overflow : Bool := false
  lastBreak : Nat := 0
  deriving DecidableEq, Repr

/-- A test request (13 R379): STATE of RYV_DBG_TEST_STATUS. -/
structure TestReq where
  state : Nat := 0
  kind : Nat := 0
  index : Nat := 0
  since : Nat := 0
  waitedMs : Nat := 0
  /-- PGV's records carry QUIET_REQ for this request (R380). -/
  quiet : Bool := false
  deriving DecidableEq, Repr

structure Dbg where
  lock : Lock := {}
  valid : Bool := false
  err : Bool := false
  win : Bytes := []
  /-- A copy is under way for (KIND, ARG). -/
  copying : Option (Nat × Nat) := none
  haltPending : Bool := false
  /-- When DEBUG last cleared: the instar watchdog counts from then (R376). -/
  wdFrom : Nat := 0
  test : TestReq := {}
  deriving DecidableEq, Repr

/-! ## IML (12) -/

/-- A bank as last checked (12 R332, R333). -/
structure Bank where
  seq : Nat := 0xFFFFFFFF
  checked : Bool := false
  valid : Bool := false
  reason : Nat := 0
  entry : Nat := 0
  deriving DecidableEq, Repr

/-- The flash device: density, its SFDP bytes, and its cells (an unlisted byte is erased, 0xFF). -/
structure Flash where
  sfdp : Bytes
  cells : Tab Byte := []
  deriving DecidableEq, Repr

/-- The mode found by discovery (12 R322). `mode`: 0 1-1-1, 1 1-1-4, 2 1-4-4. -/
structure FlashMode where
  log2 : Nat := 0
  dummy : Nat := 0
  mode : Nat := 0
  addr4 : Bool := false
  minor : Nat := 0
  pageSize : Nat := 256
  eraseMs : Nat := 0
  progUs : Nat := 0
  deriving DecidableEq, Repr

/-- The kind of reset asked for during a hold-up (12 R339), with its cause code. -/
structure Deferred where
  flutter : Bool
  cause : Nat
  deriving DecidableEq, Repr

/-- The flash pins as the engine drives them (14 R400): SF_CS_N, SF_CLK, SF_IO[3:0] (`none`: high impedance). -/
structure SfPins where
  csN : Bool := true
  clk : Bool := false
  io : Option Nat := none
  deriving DecidableEq, Repr

structure Iml where
  flash : Flash
  pins : SfPins := {}
  fm : FlashMode := {}
  found : Bool := false
  /-- PHASE of RYV_IML_STATUS. -/
  phase : Nat := 0
  bankInUse : Nat := 0
  signedOk : Bool := false
  tie : Bool := false
  banks : List Bank := [{}, {}]
  digest : Bytes := []
  bootCycles : Nat := 0
  cause : Nat := 0
  resets : Nat := 0
  /-- Fuses: IMAGE_KEY_HASH, SIG_REQUIRED, device wrapping key (12 R326, R327). -/
  keyHash : Bytes := []
  sigRequired : Bool := false
  wrapKey : Bytes := []
  /-- boot_random (03 R61), and how many cold boots have taken one. -/
  bootRandom : Nat := 0
  boots : Nat := 0
  /-- Rails enabled and power goods, by rail index (Table 11-15: 0 VCORE .. 5 VAON). -/
  enabled : List Bool := [false, false, false, false, false, true]
  pg : List Bool := [false, false, false, false, false, true]
  /-- Hold-up (Table 12-8): STATE of RYV_IML_HOLDUP, the warning, when the state was entered. -/
  hold : Nat := 0
  warn : Bool := false
  since : Nat := 0
  deferred : Option Deferred := none
  early : Nat := 0
  late : Nat := 0
  pdFault : Bool := false
  /-- The rail whose power-good fall power-down waits for. -/
  pdRail : Option Nat := none
  /-- HBM-ready seen since the last reset, with the lanes and the other units that fail BIST (12 R337, 01 R28). -/
  hbm : Option (List Nat × List BistUnit) := none
  /-- Bytes the flush has written, partial log pages still to write, and whether a lost rail ended it (R341, R345). -/
  flushed : Nat := 0
  flushPages : List (Nat × Nat) := []
  flushCut : Bool := false
  /-- Erase or program in flight: OP and address, and when it began (R336); the last operation's result. -/
  opBusy : Option (Nat × Nat) := none
  opSince : Nat := 0
  wrState : Nat := 0
  wrCode : Nat := 0
  deriving DecidableEq, Repr

end Sys2Proof.Machine
end

