-- ==== Sys2Proof/Machine/DirTypes.lean ====
section
/-! DEFINITION. State of the session directory (03). -/

namespace Sys2Proof.Machine

/-- STATE of a directory entry (03 Table 3-1). -/
inductive SState where
  | free | idle | queued | prefill | decode | yielded | held | closing
  deriving DecidableEq, Repr

/-- The encoding of Table 3-1. -/
def SState.code : SState → Nat
  | .free => 0 | .idle => 1 | .queued => 2 | .prefill => 3 | .decode => 4 | .yielded => 5 | .held => 6 | .closing => 7

/-- The STATE an encoding names. -/
def SState.ofCode : Nat → SState
  | 1 => .idle | 2 => .queued | 3 => .prefill | 4 => .decode | 5 => .yielded | 6 => .held | 7 => .closing | _ => .free

/-- A directory entry (03 Table 3-3). RESIDENCY: 0 NONE, 1 T0, 2 T1, 3 T2, 4 T3. CHECK is computed (R60). -/
structure Entry where
  tag : Nat
  tenant : Nat := 0
  model : Nat := 0
  state : SState := .free
  residency : Nat := 0
  dclass : Nat := 0
  hold : Nat := 0
  position : Nat := 0
  turnSeq : Nat := 0
  /-- Chrysalis descriptor address in 64-byte units. -/
  chrys : Nat := 0
  grammarId : Nat := 0
  grammarState : Nat := 0
  sparam : Nat := 0
  pin : Bool := false
  moving : Bool := false
  prefixOn : Bool := false
  grammarOn : Bool := false
  tierCopy : Nat := 0
  toolId : Nat := 0
  prefixId : Nat := 0
  /-- Bits [57:10] of the fabric timestamp (R59). -/
  lastAct : Nat := 0
  ttlExp : Nat := 0
  eclStart : Nat := 0
  kvLen : Nat := 0
  deriving DecidableEq, Repr

/-- A salt slot's epoch record (R61). -/
structure EpochRec where
  epoch : Nat
  k1 : Nat
  mask : Nat
  deriving DecidableEq, Repr

/-- A part of the free list (R52), held without writing every index out. -/
inductive FreeRun where
  /-- One index. -/
  | one (index : Nat)
  /-- The indices of `count` blocks, `stride` apart from block `first`, in ascending order, less the `used` lowest of
  the first block. -/
  | blocks (first stride count used : Nat)
  deriving DecidableEq, Repr

/-- A cached entry: where it lies and its tag (R65). The list of lines is in most recently used first order. -/
structure Line where
  slice : Nat
  set : Nat
  tag : Nat
  deriving DecidableEq, Repr

/-- A fill in flight (R68, R70): whether copy A failed and copy B is being read, and the requesters that wait, with the
time each began to wait. -/
structure Fill where
  slice : Nat
  copyB : Bool := false
  waiters : List (Nat × Nat) := []
  deriving DecidableEq, Repr

structure Dir where
  /-- Entries by index; a FREE entry keeps its TAG (R53). -/
  entries : Tab Entry := []
  slots : Tab EpochRec := []
  epoch : Nat := 0
  failed : Nat := 0
  offline : Nat := 0
  /-- Insertions of the current window by slice, and whether a slice was offline during it (R62). -/
  winCount : Tab Nat := []
  winOffline : Bool := false
  /-- The same of the next window, once 2^20 insertions have completed the current one and it is not judged yet. -/
  nextCount : Tab Nat := []
  nextOffline : Bool := false
  /-- Lookups of each slice when the snapshot epoch began, and in the last one (13 Table 13-11). -/
  lookMark : Tab Nat := []
  lookLast : Tab Nat := []
  winMax : Nat := 0
  winSlice : Nat := 0
  free : List FreeRun := []
  /-- Blocks owned (R50): 0 the even ones, 1 the odd ones, 2 all, 3 none; changed by the two lists. -/
  ownBase : Nat := 3
  ownPlus : List Nat := []
  ownMinus : List Nat := []
  /-- Blocks of grants that this wing has appended and that are not durable: withheld from the free list (R51). -/
  granting : List Nat := []
  cache : List Line := []
  fills : Tab Fill := []
  /-- Tags staged by sealed instars whose commit has not completed, one per instar (R65). -/
  staged : List Nat := []
  /-- Sessions placed in HELD from PREFILL or DECODE, which return with KV_LENGTH 0 (R55). -/
  heldRun : List Nat := []
  /-- Rejected OPENs since the last DIR_FULL; `none` before the first (R71). -/
  fullSince : Option Nat := none
  stackA : Nat := 0
  stackB : Nat := 0
  aOk : Bool := true
  bOk : Bool := true
  /-- The stack a lost copy is being written to (R69). -/
  copyTo : Option Nat := none
  /-- Stacks that have failed. -/
  deadStacks : List Nat := []
  /-- A BLOCK_REQ is unanswered (R51). -/
  asked : Bool := false
  /-- What the slice returned to the last lookup: its tag, and the entry unless the session is unknown (R54). -/
  answer : Option (Nat × Option Entry) := none
  deriving DecidableEq, Repr

end Sys2Proof.Machine
end

