-- ==== Sys2Proof/Machine/AdmitTypes.lean ====
section
/-! DEFINITION. State of ING, LDG and DLN (04). -/

namespace Sys2Proof.Machine

/-- A producer's deduplication window (R79): HIGH, and the sequences of the window whose SEEN and PENDING bits are set. -/
structure Win where
  high : Nat := 0
  seen : List Nat := []
  pending : List Nat := []
  deriving DecidableEq, Repr

/-- Where a record stands with the fill of its session's entry (03 R68): it needs none as yet, it waits for it, it has it. -/
inductive Fetch where
  | no | asked | got
  deriving DecidableEq, Repr

/-- An ingress record in ING, with its source label (R75, R391) and the time at which ING read it (R98). -/
structure InRec where
  raw : Bytes
  src : Nat
  at_ : Nat
  /-- Since when it waits for its producer window (R81). -/
  missed : Option Nat := none
  fetch : Fetch := .no
  deriving DecidableEq, Repr

/-- An AMEND that passed its tests and has not taken effect (R100): its own record for the answer, and the index of the
journal record that carries it. -/
structure PendAmend where
  param : Nat
  index : Nat
  value : Nat
  jindex : Nat
  durable : Bool := false
  answered : Bool := false
  raw : Bytes
  src : Nat
  deriving DecidableEq, Repr

structure Ing where
  windows : Tab Win := []
  /-- Outcome words in HBM, keyed by slot * 4,096 + sequence mod 4,096 (R80). -/
  outcomes : Tab Nat := []
  /-- Slots whose windows are on die (R81). -/
  cached : List Nat := []
  /-- Records in read order that wait for a window or for their entry, or behind one that waits (R81, R87, 03 R68). -/
  waiting : List InRec := []
  /-- PIN and PROBE records that wait for their entry; the order of the others does not bind them (R87). -/
  looking : List InRec := []
  /-- Records whose outcome word is being read (DUP_DONE). -/
  reading : List InRec := []
  amendSeq : Nat := 0
  amends : List PendAmend := []
  /-- The stop reason reported last; 0 while admitting (R84). -/
  reason : Nat := 4
  /-- A shape mismatch stands (R23). -/
  mismatch : Bool := false
  deriving DecidableEq, Repr

/-- A tenant's ledger values (R89 to R93). -/
structure TenantSt where
  level : Int := 0
  rem : Nat := 0
  lastNs : Nat := 0
  share : Nat := 0
  live : Nat := 0
  deriving DecidableEq, Repr

structure Ldg where
  tenants : Tab TenantSt := []
  /-- Tenants that had sessions in the candidate pool when it was last looked at (R92). -/
  pooled : List Nat := []
  deriving DecidableEq, Repr

/-- What DLN knows of a session's turn from its admission to the release of its end (R98, R106, Table 5-1): t_in; the time
of the last TOKEN of the previous commit handed over; t_last of R106; commits whose TOKENs await release. -/
structure Turn where
  dclass : Nat
  tenant : Nat
  tIn : Nat
  last : Option Nat := none
  tLast : Option Nat := none
  waiting : Nat := 0
  deriving DecidableEq, Repr

/-- A STRICT or FIRM reservation (R95). `left` is the tokens still to prefill. -/
structure Resv where
  dclass : Nat
  model : Nat
  tenant : Nat
  tIn : Nat
  left : Nat
  deriving DecidableEq, Repr

structure Dln where
  /-- Reservations by tag. -/
  resv : Tab Resv := []
  /-- Turns by tag. -/
  turns : Tab Turn := []
  /-- Durations of the last 64 instars [ns], newest first (R96). -/
  durations : List Nat := []
  sigma : Nat := 0x1000
  /-- RYV_ISL_STRETCH_LIMIT as DLN and CMP apply it (R38, Table 2-12). -/
  limit : Nat := 532
  /-- The period last computed under R96 [ps]. -/
  period : Nat := 0
  deriving DecidableEq, Repr

end Sys2Proof.Machine
end

