-- ==== Sys2Proof/Machine/RunTypes.lean ====
section
/-! DEFINITION. State of CMP and of DSQ (05, 06). -/

namespace Sys2Proof.Machine

/-- An allowance record (05 Table 5-3). -/
structure Allow where
  instar : Nat
  eAllow : Nat := 0
  e0 : Nat := 0
  eTok : Nat := 0
  eSmp : Nat := 0
  eCtx : Nat := 0
  widthCap : Nat := 0
  idleUs : Nat := 0
  flags : Nat := 0
  rank : Nat := 0
  deriving DecidableEq, Repr

/-- A composition key (05 Table 5-1). -/
structure Key where
  kind : Nat
  ls : Nat
  share : Nat
  tIn : Nat
  tag : Nat
  deriving DecidableEq, Repr

/-- An entry of an instar descriptor (05 Table 5-9). `kind`: 0 non-final prefill, 1 final prefill, 2 decode. -/
structure DEntry where
  tag : Nat
  kvStart : Nat
  feed : Nat
  turnFirst : Bool := false
  prefixNew : Bool := false
  drafts : Nat := 0
  kind : Nat
  grammarOn : Bool := false
  dclass : Nat := 0
  model : Nat := 0
  grammarId : Nat := 0
  sparam : Nat := 0
  grammarState : Nat := 0
  prefixId : Nat := 0
  prefixOn : Bool := false
  tenant : Nat := 0
  samplePos : Nat := 0xFFFFFFFF
  deriving DecidableEq, Repr

/-- A drafted entry with its key as examined. -/
structure Placed where
  key : Key
  e : DEntry
  deriving DecidableEq, Repr

/-- The draft of the next instar (05 R113, R114). -/
structure Draft where
  running : Bool := false
  start : Nat := 0
  /-- A cold-start draft, which examines 60 candidates (R122). -/
  cold : Bool := false
  examined : Nat := 0
  /-- Keys of the pool's sessions at the draft's start, and of those that joined since. -/
  keys : Tab Key := []
  /-- The last key examined. -/
  upTo : Option Key := none
  placed : List Placed := []
  standby : List Key := []
  truncated : Bool := false
  /-- BIND and BIND_RANK of the first exclusion; 0 while none. -/
  bind : Nat := 0
  bindRank : Nat := 0
  sigma : Nat := 4096
  limit : Nat := 532
  deriving DecidableEq, Repr

/-- An instar sealed and not yet retired at the Lead. -/
structure Flight where
  num : Nat
  launch : Nat := 0
  launched : Bool := false
  periodNs : Nat := 0
  entries : List DEntry := []
  idle : Bool := false
  quiet : Bool := false
  idleNs : Nat := 0
  /-- The turnaround has begun (06 R152), its commit is done. -/
  turned : Bool := false
  done : Bool := false
  /-- A void notice after the turnaround began: KV_LENGTH goes back at the commit (06 R152). -/
  lower : Bool := false
  /-- The header as CMP leaves it, without TERM, LAUNCH_TS and HDR_CRC (R123). -/
  hdr : Bytes := []
  sealTs : Nat := 0
  endTs : Nat := 0
  deriving DecidableEq, Repr

/-- An instar's descriptor as an engine holds it: its bytes (05 R126). -/
structure Desc where
  num : Nat
  raw : Bytes
  deriving DecidableEq, Repr

/-- Reports of one instar gathered in an engine's subtree (R127). -/
structure Gather where
  reports : List Bytes := []
  own : Bool := false
  sent : Bool := false
  deriving DecidableEq, Repr

structure Cmp where
  active : Bool := false
  draft : Draft := {}
  /-- The last sealed instar's number, 0 before the first. -/
  last : Nat := 0
  /-- When CMP last sealed, and whether every STRICT candidate then had slack of at least 1 ms (13 R381). -/
  sealAt : Option Nat := none
  sealCalm : Bool := false
  flights : List Flight := []
  /-- Newest allowance record of each rank, and the records of each barrier keyed by instar * 64 + rank (R128). -/
  newest : Tab Allow := []
  byBarrier : Tab Allow := []
  /-- The sigma last reported by each rank (04 R96). -/
  sigmas : Tab Nat := []
  /-- Ranks whose start-up report is in, reports in by instar * 64 + rank, and the last barrier completed. -/
  started : List Nat := []
  reported : List Nat := []
  barrier : Nat := 0
  /-- The first instar launched since start-up; 0 before. -/
  firstLaunch : Nat := 0
  /-- An idle instar is owed after a sealed instar with entries (R121); quiet seals deferred so far. -/
  idleOwed : Bool := false
  quietDeferred : Nat := 0
  /-- IDLE_US of a quiet request that no seal has met yet (R121). -/
  quietKept : Option Nat := none
  /-- A seal that is due and held back, since when (R258); an abort owes a fresh composition (R152). -/
  sealWait : Option Nat := none
  recompose : Bool := false
  /-- CMP composes no further (R128, 12 R340). -/
  stopped : Bool := false
  /-- The descriptor held by instar stepping (13 R377), and since when. -/
  heldDesc : Option (Nat × Nat) := none
  /-- BIND fields and header values of the last seal. -/
  lastWidth : Nat := 0
  lastBind : Nat := 0
  lastBindRank : Nat := 0
  lastPeriod : Nat := 0
  lastForecast : Nat := 0
  lastIdle : Bool := false
  lastQuiet : Bool := false
  /-- The last two descriptors forwarded, the last checked, and the instar whose resend was asked (R126). -/
  kept : List Desc := []
  checked : Option Desc := none
  askedFor : Option Nat := none
  gather : Tab Gather := []
  deriving DecidableEq, Repr

/-! ## DSQ -/

/-- Job states (06 Table 6-4). -/
inductive JState where
  | queued | running | halting | saving | saved | restoring | done | aborted
  deriving DecidableEq, Repr

/-- A kernel in flight or halted (06 R139). -/
structure Kern where
  id : Nat
  phase : Nat
  /-- ARG of its command (R135). -/
  arg : Nat := 0
  start : Nat
  groups : List Nat
  /-- Scaled WCET [ps] (R136). -/
  wcet : Nat
  /-- Time run before the last halt [ns]. -/
  ran : Nat := 0
  deriving DecidableEq, Repr

/-- What a local tool job computes (08 R201). -/
structure ToolJob where
  instar : Nat
  tag : Nat
  tool : Nat
  /-- The session's POSITION, and its tenant where this engine knows it. -/
  pos : Nat
  tenant : Option Nat := none
  deriving DecidableEq, Repr

structure Job where
  id : Nat
  model : Nat
  instar : Nat
  tool : Option ToolJob := none
  prio : Nat := 3
  /-- Priority in force: a donor's while restored by donation (R147). -/
  cur : Nat := 3
  st : JState := .queued
  pc : Nat := 0
  kern : Option Kern := none
  /-- The head command waits (its bytes), and since when. -/
  waiting : Option (Bytes × Nat) := none
  /-- Units held: semaphore, units, and the place of its acquire among all acquires. -/
  units : List (Nat × Nat × Nat) := []
  credits : Nat := 0
  /-- Saved group images: group saved and its working cores, in group order. -/
  images : List (Nat × Nat) := []
  /-- Groups still to save or to restore. -/
  moving : List Nat := []
  /-- The descriptor's address, WIDTH, and F and E of the job's model (R137). -/
  desc : Nat := 0
  width : Nat := 0
  fed : Nat := 0
  ents : Nat := 0
  arrival : Nat := 0
  /-- Its first kernel has started. -/
  begun : Bool := false
  /-- The semaphore a donated restore is for, with the donor job. -/
  donor : Option (Nat × Nat) := none
  deriving DecidableEq, Repr

structure Part where
  /-- MODE of its STATUS: 0 ready, 1 resetting, 2 retired. -/
  mode : Nat := 0
  jobs : List Job := []
  /-- Semaphore counts. -/
  sems : List Nat := []
  free : Nat := 0
  /-- Credits that sends have consumed and that have not come back (R135). -/
  sent : Nat := 0
  /-- Groups reserved by a pre-emption: group to job. -/
  reserved : Tab Nat := []
  resets : List Nat := []
  busySince : Option Nat := none
  /-- (measured ns, scaled WCET ns) of the last 64 instars, newest first, keyed by instar. -/
  measured : List (Nat × Nat × Nat) := []
  imagesUsed : Nat := 0
  /-- Commands that have failed once: the job's context and the command's index (Table 6-5 cause 3). -/
  badCmd : List (Nat × Nat) := []
  deriving DecidableEq, Repr

/-- A core group: fenced cores as a mask, the context it holds (model, or 16 + tool), the job using it. -/
structure Group where
  fenced : Nat := 0
  ctx : Option Nat := none
  busy : Option Nat := none
  deriving DecidableEq, Repr

/-- A group transfer (06 R140): 0 save, 1 restore, 2 context load. -/
structure Transfer where
  group : Nat
  kind : Nat
  part : Nat
  job : Nat
  since : Nat
  deriving DecidableEq, Repr

/-- An instar's shard on this chip. -/
structure Shard where
  num : Nat
  received : Nat
  width : Nat
  /-- Where this chip holds the descriptor (R137): the spec gives no address. -/
  desc : Nat := 0
  resent : Bool := false
  /-- Models whose job has not executed END, and models whose job waits for a slot or for READY (with since when, and
  the code of the wait). -/
  open_ : List Nat := []
  held : List (Nat × Nat × Nat) := []
  /-- (model, F, E). -/
  loads : List (Nat × Nat × Nat) := []
  deriving DecidableEq, Repr

structure Dsq where
  parts : Tab Part := []
  groups : Tab Group := []
  slots : List Transfer := []
  queue : List Transfer := []
  shards : List Shard := []
  nextJob : Nat := 1
  nextArrival : Nat := 0
  /-- Status bits for the next instar-end report (R127). -/
  faulted : Bool := false
  retired : Bool := false
  /-- Void notices of the Lead's own chip that it has not taken. -/
  ownVoid : List Bytes := []
  /-- A dump in progress: partition, job, kernel. -/
  dump : Option (Nat × Nat × Nat) := none
  /-- Commands held by command stepping (R155): partition, job, since when. -/
  held : List (Nat × Nat × Nat) := []
  busySince : Option Nat := none
  deriving DecidableEq, Repr

end Sys2Proof.Machine
end

