-- ==== Sys2Proof/Machine/SampleTypes.lean ====
section
/-! DEFINITION. State of SMP: lanes, scale tables, merge, drafts, grammars in use and local tools (07, 08). -/

namespace Sys2Proof.Machine

/-- A logit stream at a Tail (14 Table 14-3): header fields and the logits' bytes. -/
structure Stream where
  tag : Nat
  pos : Nat
  instar : Nat
  draw : Nat
  fmt : Nat
  first : Nat
  count : Nat
  model : Nat
  raw : Bytes
  restarted : Bool := false
  /-- Only the header is queued, or the stream was lost: the lane reads the logit buffer first (14 R390, R389). -/
  needRead : Bool := false
  /-- When it arrived, for stated waits. -/
  since : Nat := 0
  /-- The wait for a SELECT or a DRAFT was counted (R168, R197). -/
  waited : Bool := false
  /-- SMP0 or SMP1 buffer it is held in (14 R390). -/
  buf : Nat := 0
  deriving DecidableEq, Repr

/-- A sampler lane: MODE 0 idle, 1 sweeping, 2 retired, 3 borrowed. -/
structure Lane where
  mode : Nat := 0
  tag : Nat := 0
  stream : Option Stream := none
  deriving DecidableEq, Repr

/-- A processed token kept by the heap: Y, K (in units of 2^-32) and id (07 R172). -/
structure Cand where
  y : Int
  k : Int
  id : Nat
  deriving DecidableEq, Repr

/-- A grammar note's entry (08 R190). -/
structure NoteEnt where
  id : Nat
  tool : Bool
  stop : Bool
  next : Nat
  resume : Nat
  toolId : Nat
  deriving DecidableEq, Repr

/-- One bin of a refine reply (07 R178). -/
structure Bin where
  count : Nat
  id : Nat
  mass : Nat
  yHi : Int
  k : Int
  deriving DecidableEq, Repr

/-- A reply of a second-pass round. -/
structure Reply where
  rank : Nat
  kAbove : Option (Int × Nat)
  bins : List Bin
  deriving DecidableEq, Repr

/-- A second-pass round in progress (07 R178, R179). `kind`: 0 refine, 1 query. -/
structure Round where
  kind : Nat
  num : Nat
  lo : Int
  theta : Int
  /-- Mass above the range, in the Lead's weights. -/
  above : Nat
  replies : List Reply := []
  since : Nat := 0
  deriving DecidableEq, Repr

/-- A sampled position at the Lead (07 R175): the merge of the summaries in so far. -/
structure Merged where
  instar : Nat
  tag : Nat
  pos : Nat
  /-- Ranks whose summary is in, and ranks whose note is in. -/
  got : List Nat := []
  noted : List Nat := []
  yMax : Option (Int × Nat) := none
  kBest : Option (Int × Nat) := none
  finite : Nat := 0
  nonfinite : Nat := 0
  /-- I_glob and the merged mass window. -/
  iTop : Int := 0
  mass : List Nat := []
  ents : List Cand := []
  cutoff : Option Int := none
  notes : List NoteEnt := []
  round : Option Round := none
  rounds : Nat := 0
  /-- Y_b found by a second pass, with the winner over Y at or above it. -/
  found : Option (Int × Int × Nat) := none
  /-- The selection: `some none` is a void position (R177). -/
  sel : Option (Option Nat) := none
  deriving DecidableEq, Repr

/-- A DRAFT entry as a Tail or the Lead holds it (08 R197). -/
structure DraftEnt where
  instar : Nat
  tag : Nat
  pos : Nat
  ids : List Nat
  deriving DecidableEq, Repr

/-- A local tool job at the Lead (08 R201 to R205). -/
structure ToolRun where
  instar : Nat
  tag : Nat
  tool : Nat
  /-- Parts in: rank and results (DIST, ID). -/
  parts : List (Nat × List (Nat × Nat)) := []
  since : Nat := 0
  reasked : Bool := false
  /-- Ranks whose part failed its CRC once. -/
  badOnce : List Nat := []
  /-- TOOL order sent (a job slot is held). -/
  running : Bool := false
  /-- The result is complete and waits to be admitted: the items' labels, and whether parts are missing (R203, R204). -/
  ready : Option (List (List Nat) × Bool) := none
  deriving DecidableEq, Repr

structure Smp where
  lanes : Tab Lane := []
  /-- Streams that wait at the SMP boundary, in arrival order. -/
  waiting : List Stream := []
  /-- The logit buffer in HBM: the streams of the current and the previous instar (R161). One that was lost at the port lies there
  as well (`needRead`); its logits are seen when a lane has read them. -/
  buffer : List Stream := []
  /-- Scale tables: the Lead's master tables and a Tail's copies, by tag; each a table id to count (R166, R167). -/
  master : Tab (Tab Nat) := []
  copies : Tab (Tab Nat) := []
  /-- Sessions whose table refused an id this turn (SMP_SCALE_FULL once per session per turn). -/
  fullRaised : List Nat := []
  /-- The last instar whose SELECT was applied, and aborted instars, which send none. -/
  selected : Nat := 0
  noSelect : List Nat := []
  /-- Positions at the Lead. -/
  merged : List Merged := []
  /-- Second-pass requests of the Lead's own Tail that its lanes have not answered. -/
  ownRounds : List Bytes := []
  /-- Messages requested again: kind, rank, instar, tag, position (R182). -/
  retried : List (Nat × Nat × Nat × Nat × Nat) := []
  /-- The last SELECT and the last DRAFT sent, kept for a repeat (R182, 08 R197). -/
  lastSelect : Bytes := []
  lastDraft : Bytes := []
  /-- Descriptor entries of the instars being sampled, at a Tail. -/
  descs : Tab (List DEntry) := []
  /-- DRAFT entries, and instars (by model) whose DRAFT message was applied. -/
  drafts : List DraftEnt := []
  drafted : List (Nat × Nat) := []
  /-- Tags whose draft edges are still being read (08 R206). -/
  edgeReads : List Nat := []
  /-- Positions and rounds of the second pass, non-finite tokens and draft-void entries this epoch. -/
  p2Epoch : Nat × Nat := (0, 0)
  nfEpoch : Nat := 0
  voidEpoch : Nat := 0
  /-- Sampled and committed tokens of the turn in each pool row (08 R193), first placement done. -/
  turnCount : Tab Nat := []
  /-- Local tool jobs, in arrival order. -/
  tools : List ToolRun := []
  /-- A Tail's tool orders waiting in DSQ's tool queue (R201). -/
  toolQueue : List ToolJob := []
  /-- Local tool jobs (instar, tag) that a CLOSE or a hold has cancelled, for DSQ to abort (08 R205). -/
  cancels : List (Nat × Nat) := []
  /-- Sessions that became CLOSING or HELD in mid-turn: the next SELECT drops their copies (R167). -/
  drops : List Nat := []
  /-- By island (0, 1): the last instar at whose stream assignment fewer than 2 lanes were idle (13 Table 13-11). -/
  tight : Tab Nat := []
  deriving DecidableEq, Repr

end Sys2Proof.Machine
end

