-- ==== Sys2Proof/Machine/PlaceTypes.lean ====
section
/-! DEFINITION. State of PLN and MOV (09). Tiers and RESIDENCY use the encoding of 03 Table 3-1: 0 NONE, 1 T0, 2 T1,
3 T2, 4 T3. -/

namespace Sys2Proof.Machine

/-- A page-list entry (09 R211): its T1 frame, and the CRC recorded at the last far write. -/
structure Page where
  frame : Option Nat := none
  crc : Nat := 0
  /-- The page was found invalid (R241, R242). -/
  bad : Bool := false
  deriving DecidableEq, Repr

/-- A chip record with its page list (09 Table 9-1). Lengths are positions. -/
structure ChipRec where
  tag : Nat
  model : Nat := 0
  pages : List Page := []
  t1Len : Nat := 0
  t2Len : Nat := 0
  t3Len : Nat := 0
  t2Target : Nat := 0
  t3Target : Nat := 0
  t2Ext : Nat := 0
  t3Ext : Nat := 0
  list : Nat := 0
  resPages : Nat := 0
  t0Pages : Nat := 0
  /-- Groups of the attached prefix, which precede the list's first group (R209, R233), and that prefix. -/
  base : Nat := 0
  prefixId : Nat := 0
  /-- The prefix's pages while they are copied out as the session's own groups; they join the list at the move's completion
  (R233). -/
  pre : List Page := []
  /-- The session is in DECODE, as the chip's descriptors and the Tail's SELECTs tell: 0 STRICT, 1 FIRM, 2 BEST; its tenant
  and the time of its last descriptor (R215). -/
  dec : Option Nat := none
  tenant : Nat := 0
  decAt : Nat := 0
  /-- Its pages left T1 by a spill (R218). -/
  spilled : Bool := false
  deriving DecidableEq, Repr

/-- A chrysalis descriptor (09 Table 9-2). -/
structure Chrys where
  tag : Nat
  /-- The descriptor exists: the session has entered T1 (R212). A pin can come before that (log entry 128). -/
  made : Bool := false
  resEnd : Nat := 0
  t2Len : Nat := 0
  t3Len : Nat := 0
  tYield : Nat := 0
  q20 : Option Nat := none
  reviveUs : Nat := 0
  pinTier : Option Nat := none
  chosen : Nat := 0
  spilled : Bool := false
  eclPredicted : Bool := false
  pupatePending : Bool := false
  prefixCopied : Bool := false
  pinExp : Nat := 0
  /-- Its predicted eclosion has come and waits for T1 frames (R216). -/
  eclWaits : Bool := false
  deriving DecidableEq, Repr

/-- A wait record (09 R221): bin counts, their sum, the time of the last update. -/
structure WaitRec where
  bins : Tab Nat := []
  n : Nat := 0
  last : Nat := 0
  deriving DecidableEq, Repr

/-- What waits for a wait record to be read from HBM (R221): an observed wait, or a yield decision for a tag. -/
inductive WaitUse where
  | observe (us : Nat)
  | decide (tag : Nat)
  deriving DecidableEq, Repr

/-- A placement order (09 Table 9-6). `kind`: 1 PUPATE .. 10 MIGRATE. -/
structure Order where
  kind : Nat
  tier : Nat
  tag : Nat
  kvLen : Nat
  resEnd : Nat := 0
  at_ : Nat := 0
  eclAt : Nat := 0
  seq : Nat := 0
  prefixId : Nat := 0
  deriving DecidableEq, Repr

/-- A move in progress at the Lead: its order, when it was sent, the ranks' reports (rank, length, tier, status). -/
structure LeadMove where
  order : Order
  since : Nat
  reports : List (Nat × Nat × Nat × Nat) := []
  deriving DecidableEq, Repr

/-- A learned prefix's library slot (09 R232). -/
structure Prefix where
  model : Nat
  pages : Nat
  chain : Nat
  tokens : List Nat
  resident : Bool := false
  /-- Ranks that have reported, and those of them whose copy lies in T1. -/
  reports : List Nat := []
  inT1 : List Nat := []
  lastUse : Nat := 0
  replaced : Bool := false
  deriving DecidableEq, Repr

/-- A far target in use (09 R219, R236): extents by first 2 MiB unit: (units, tag). -/
structure Target where
  up : Bool := true
  extents : Tab (Nat × Nat) := []
  /-- Times of the legs that failed. -/
  fails : List Nat := []
  deriving DecidableEq, Repr

/-- An order being carried out on this chip. -/
structure ChipMove where
  order : Order
  /-- Destination tier used (R220 may go one down). -/
  tier : Nat
  target : Nat := 0xFFFF
  ext : Nat := 0
  /-- Descriptors not finished; pages that failed. -/
  left : Nat := 0
  cancelled : Bool := false
  /-- Length of the copy recorded before the order. -/
  before : Nat := 0
  /-- Least position whose page was lost, when some was. -/
  lostAt : Option Nat := none
  started : Nat := 0
  deriving DecidableEq, Repr

/-- A MOV descriptor (09 Table 9-9). `op`: 1 COPY, 2 MIG_OUT, 3 MIG_IN. -/
structure MDesc where
  op : Nat
  dst : Nat
  src : Nat
  count : Nat
  tag : Nat
  first : Nat
  high : Bool
  freeSrc : Bool
  last : Bool
  target : Nat
  ext : Nat
  /-- The page list's address, as this model counts it. -/
  list : Nat := 0
  seq : Nat
  deriving DecidableEq, Repr

/-- A MOV channel (09 R238): its rings, the descriptor in hand with the pages done, whether its current leg was retried and
whether that descriptor was fetched again (R242). -/
structure Channel where
  retired : Bool := false
  high : List MDesc := []
  low : List MDesc := []
  cur : Option (MDesc × Nat) := none
  retriedLeg : Bool := false
  refetched : Bool := false
  tag : Nat := 0
  deriving DecidableEq, Repr

structure Pln where
  /-- On every engine: chip records, orders being carried out, held times, targets, frames. -/
  recs : Tab ChipRec := []
  moves : Tab ChipMove := []
  /-- Shared T1 frames of learned prefixes on this chip, and prefixes whose pages lie in T0 (R232). -/
  shared : Tab (List Nat) := []
  sharedT0 : Tab Nat := []
  /-- Orders held for their AT, and eclosion times held (at, order), in time order (R228). -/
  held : List (Nat × Order) := []
  /-- How many of them are on die. -/
  onDie : Nat := 0
  /-- Sessions whose eclosion time came while an earlier move of theirs ran (R227). -/
  due : List Nat := []
  targets : Tab Target := []
  deadStacks : List Nat := []
  /-- The two copies of the placement tables are there; the tables are written through to both (R210). -/
  plcAOk : Bool := true
  plcBOk : Bool := true
  /-- Descriptors that found every ring full, in order (R238). -/
  undealt : List MDesc := []
  /-- Page-list addresses handed out so far, for LIST. -/
  nextList : Nat := 0
  /-- Reports of the Lead's own chip that its PLN has not taken. -/
  ownReports : List Bytes := []
  /-- On the Lead. -/
  chrys : Tab Chrys := []
  /-- Frames free and total of each rank as the Lead's accounting has them (R216). -/
  chipFree : Tab Nat := []
  chipTotal : Tab Nat := []
  pressured : List Nat := []
  /-- Demotions go on until every chip has 1/8 of its frames free (R217). -/
  relieving : Bool := false
  waits : Tab WaitRec := []
  waitCache : List Nat := []
  /-- What waits for the read of a wait record: its key, the use, and since when (R221). -/
  waitUses : List (Nat × WaitUse × Nat) := []
  bw : Tab Nat := []
  seq : Nat := 0
  leadMoves : List LeadMove := []
  library : Tab Prefix := []
  sketch : Tab Nat := []
  firsts : Nat := 0
  /-- Sessions whose prefix is to be learned once their KV_LENGTH covers it: tag, pages, chain. -/
  toLearn : List (Nat × Nat × Nat) := []
  /-- First placements that wait for their prefix match (05 R120). -/
  matching : List Nat := []
  matched : List Nat := []
  /-- PINs that met a move and apply from its completion: tag, tier, ms (R229). -/
  pinLater : List (Nat × Nat × Nat) := []
  lateEpoch : Nat := 0
  spillEpoch : Nat := 0
  /-- Migrations at the receiving Lead: tags not done, sessions and shortened counts. -/
  migrating : List Nat := []
  migCount : Nat := 0
  migShort : Nat := 0
  deriving DecidableEq, Repr

structure Mov where
  channels : Tab Channel := []
  deriving DecidableEq, Repr

end Sys2Proof.Machine
end

