-- ==== Sys2Proof/Machine/TwinTypes.lean ====
section
/-! DEFINITION. State of TWM (10) and of PGV (11). -/

namespace Sys2Proof.Machine

/-- A journal record (10 Table 10-3). -/
inductive JRec where
  | admitted (kind : Nat) (part : Bool) (tag pid pseq turn : Nat) (model dclass tenant tIn toolId gid : Nat) (gOn : Bool)
      (sparam : Nat) (tokens : List Nat)
  | commit (tag pos instar gstate turn : Nat) (ids : List Nat)
  | release (reason tag pos instar turn sampled : Nat)
  | yield (loc : Bool) (tag pos instar toolId turn tYield : Nat)
  | close (kind tag pid pseq turn : Nat)
  | amend (rank param index value aseq : Nat)
  | term (kind newTerm leader granting : Nat) (blocks : List Nat)
  deriving DecidableEq, Repr

/-- A batch of the own journal (10 Table 10-2). `kind`: 0 admission, 1 commit. -/
structure Batch where
  kind : Nat
  term : Nat
  leader : Nat
  first : Nat
  recs : List JRec
  instar : Nat
  launch : Nat
  crc : Nat
  /-- Resent after a timeout, resent after a differing STORED_CRC. -/
  timedOut : Bool := false
  differed : Bool := false
  /-- Its STORED_CRC differed twice: its sessions are held (R278). -/
  held : Bool := false
  /-- Sent to the twin or to T3. -/
  sent : Bool := false
  deriving DecidableEq, Repr

/-- A session summary (10 Table 10-4). ACKED is `none` for none. -/
structure Summary where
  tag : Nat
  position : Nat := 0
  turnSeq : Nat := 0
  lastType : Nat := 1
  model : Nat := 0
  dclass : Nat := 0
  tenant : Nat := 0
  gstate : Nat := 0
  gid : Nat := 0
  gOn : Bool := false
  localTool : Bool := false
  termAcked : Bool := false
  sparam : Nat := 0
  toolId : Nat := 0
  acked : Option Nat := none
  tIn : Nat := 0
  lastTerm : Nat := 0
  lastIndex : Nat := 0
  logAddr : Nat := 0
  deriving DecidableEq, Repr

/-- What ING answers when a record is durable (R257): the ingress record, its label. -/
structure Answer where
  index : Nat
  raw : Bytes
  src : Nat
  tag : Nat
  turn : Nat
  /-- The record's tenant when it was admitted (04 R93). -/
  tenant : Nat
  deriving DecidableEq, Repr

/-- An admission's record at the ADMIT launch (R254, R258): its ACCEPT, or for a tool result the position of its first token. -/
structure Admission where
  record : JRec
  answer : Option Answer := none
  pos : Option Nat := none
  deriving DecidableEq, Repr

/-- Emission state of a session: the label's producer, what has been released and emitted (R260 to R262). -/
structure Emit where
  pid : Nat
  /-- Positions released: next position to release, and the sampled and tool-result tokens released by position with
  their flags and TURN_SEQ, from the first not acknowledged. -/
  toks : List (Nat × Nat × Nat × Nat × Nat) := []
  /-- Position of the last TOKEN released, and POSITION of the last YIELD or END released. -/
  lastPos : Option Nat := none
  lastTerm : Option Nat := none
  /-- The released YIELD and END records that are not acknowledged, with their POSITION, as emitted first. -/
  terminals : List (Nat × Bytes) := []
  lastSent : Nat := 0
  /-- Records not handed over because the slot does not bind the producer (14 R392). -/
  stuck : Bool := false
  deriving DecidableEq, Repr

/-- What the TOKEN records of a journal record need beside it: the flags of Table 10-7 for each token of a COMMIT; for a
tool result, the position of its first token. -/
structure CommitInfo where
  index : Nat
  flags : List Nat := []
  pos : Nat := 0
  deriving DecidableEq, Repr

/-- Wing states (10 Table 10-9), with the encoding of RYV_TWM_STATUS. -/
inductive Wing where
  | start | paired | seeking | solo | fenced | handover | reintegrating
  deriving DecidableEq, Repr

def Wing.code : Wing → Nat
  | .start => 0 | .paired => 1 | .seeking => 2 | .solo => 3 | .fenced => 4 | .handover => 5 | .reintegrating => 6

def Wing.ofCode : Nat → Wing
  | 1 => .paired | 2 => .seeking | 3 => .solo | 4 => .fenced | 5 => .handover | 6 => .reintegrating | _ => .start

/-- A request to the witness that has no answer yet (R265, R267). -/
structure WReq where
  reason : Nat
  nonce : Nat
  at_ : Nat
  wing : Nat
  renew : Bool := false
  deriving DecidableEq, Repr

/-- A snapshot being cut or written (R279 to R281). -/
structure Snap where
  /-- 1 cutting (waits for the boundary), 2 writing. -/
  state : Nat
  instar : Nat := 0
  j : Nat := 0
  term : Nat := 0
  /-- This engine's shard, the ranks whose shard is not written yet, and what the others' writes reported: length and offset
  on the target in 8 bytes each, and the digest. -/
  shard : Bytes := []
  left : List Nat := []
  parts : Tab Bytes := []
  forTwin : Bool := false
  deriving DecidableEq, Repr

structure Twm where
  wing : Wing := .start
  term : Nat := 0
  leader : Nat := 0
  appended : Nat := 0
  durable : Nat := 0
  /-- Durable records whose release a shape mismatch (01 R23) or a dual lead (R277) holds back, with their indices. -/
  unreleased : List (Nat × JRec) := []
  /-- J of the last complete snapshot: what it covers may be reclaimed (R281). -/
  covered : Nat := 0
  /-- Batches not yet durable, and the records of the ring with their terms, oldest first. -/
  batches : List Batch := []
  journal : List (Nat × Nat × JRec) := []
  /-- Headers of the batches in the ring, oldest first: first index, KIND, instar, leader (R251). -/
  heads : List (Nat × Nat × Nat × Nat) := []
  answers : List Answer := []
  /-- Admissions that wait at the ADMIT launch for ring space, in order (R258). -/
  admits : List Admission := []
  commits : List CommitInfo := []
  /-- Own session summaries and token logs (64-bit log entries, R253), and as they stand after the last durable record. -/
  sums : Tab Summary := []
  logs : Tab (List Nat) := []
  durSums : Tab Summary := []
  durLogs : Tab (List Nat) := []
  /-- The partner's: summaries, logs, records of the ring, next index expected, producer id of each session's OPEN. -/
  mirror : Tab Summary := []
  mirrorLogs : Tab (List Nat) := []
  mirrorRecs : List (Nat × Nat × JRec) := []
  mirrorNext : Nat := 1
  mirrorPids : Tab Nat := []
  /-- The partner's journal begins anew: the index of its next batch is taken as it comes (log entry 41). -/
  mirrorAny : Bool := false
  /-- Producer windows mirrored: (producer id, sequence, outcome). -/
  mirrorWin : List (Nat × Nat × Nat) := []
  emits : Tab Emit := []
  /-- Sessions acknowledged since the last control batch (R263). -/
  ackDirty : List Nat := []
  handshake : Bool := false
  lastRx : Nat := 0
  /-- The partner's wing state, term and leader as last heard. -/
  partnerState : Nat := 0
  partnerTerm : Nat := 0
  lease : Option Nat := none
  /-- Requests sent in the last 2 s that have no answer, newest first; the one to repeat until it is answered. -/
  requests : List WReq := []
  wanted : Option WReq := none
  dual : Bool := false
  paused : Bool := false
  seekSince : Nat := 0
  /-- When a FENCED wing last asked. -/
  retryAt : Nat := 0
  /-- Rank this Lead treats as failed. -/
  failedRank : Option Nat := none
  twinLost : Bool := false
  /-- Instar and index of a commit made in the command under way, and of the last commit. -/
  boundary : Option (Nat × Nat) := none
  lastCommit : Nat × Nat := (0, 0)
  snap : Option Snap := none
  snapInstar : Nat := 0
  snapFailed : Bool := false
  lastSnap : Nat := 0
  /-- The partner wants a snapshot (R276). -/
  snapForTwin : Bool := false
  /-- Shard bytes received or read, by rank, and the manifest under 0xFFFFFFFF, while a snapshot is being loaded. At the
  returning wing: when the manifest came, the latest TIMESTAMP of a batch mirrored, when the snapshot was loaded. -/
  rx : Tab Bytes := []
  rxAt : Nat := 0
  rxLaunch : Nat := 0
  loadedAt : Option Nat := none
  /-- At the live wing: the journal also goes to the returning twin; the index after which an ACK means caught up. -/
  feed : Bool := false
  catchUp : Option Nat := none
  /-- The pair is to give back once no session of the partner is staged; the index of the TERM record that does it. -/
  giving : Bool := false
  givenAt : Option Nat := none
  /-- Block ownership before the adoption (03 R50): base, additions, removals. -/
  ownBefore : Option (Nat × List Nat × List Nat) := none
  adopted : Nat := 0
  /-- Reservations made at adoption that the admission test refuses (R275). -/
  adoptRefused : Nat := 0
  /-- What is being read from T3: 0 nothing, 1 a snapshot, 2 the journals after it (R282), 3 the partner's journal
  (Table 10-9), 4 the log pages that a snapshot's page tables name (R280). -/
  reading : Nat := 0
  restored : Bool := false
  skipped : Nat := 0
  /-- T3_FLUSHED, and flush or trail writes outstanding: (last index, completed) (12 R341, R342). -/
  t3Flushed : Nat := 0
  flushOut : List Nat := []
  /-- First indices of batches whose T3 write was repeated. -/
  t3Retried : List Nat := []
  /-- STRICT has missed under an unattainable cap since then (11 R309). -/
  shedSince : Option Nat := none
  /-- CLOSING sessions whose CLOSE is durable (Table 3-2), and unacknowledged records dropped at FREE (R262). -/
  closed : List Nat := []
  /-- Sessions whose admitted CLOSE ended a turn in progress, until its END 7 is emitted (R260). -/
  endOnClose : List Nat := []
  dropped : Nat := 0
  deriving DecidableEq, Repr

/-! ## PGV -/

/-- An energy model fitted by recursive least squares (11 R302); all values binary32. -/
structure Model where
  dim : Nat
  theta : List Word
  p : List (List Word)
  r : List (List Word)
  b : List Word
  hold : Bool := false
  deriving DecidableEq, Repr

/-- A model before its first interval: every value 0 (log entry 53). -/
def Model.zero (n : Nat) : Model :=
  { dim := n, theta := List.replicate n 0, p := List.replicate n (List.replicate n 0),
    r := List.replicate n (List.replicate n 0), b := List.replicate n 0 }

/-- The operating-point sequencer (11 Table 11-5): 0 IDLE, 1 V_UP, 2 F_UP, 3 F_DOWN, 4 V_DOWN. -/
structure SeqSt where
  st : Nat := 0
  /-- The verified operating point, the one being sequenced, and the kept target. -/
  cur : Nat := 7
  target : Nat := 7
  kept : Option Nat := none
  /-- The rail whose VDone is awaited, the value written, and when; whether it is the second try. -/
  wait : Option (Nat × Nat × Nat) := none
  second : Bool := false
  /-- Last values written to VCORE and VSRAM [mV]. -/
  vcore : Nat := 640
  vsram : Nat := 780
  /-- A voltage write (rail and mV) held back by REG_ALERT_N (R300). -/
  blocked : Option (Nat × Nat) := none
  /-- Held at the last verified point by a second timeout (R299). -/
  held : Bool := false
  deriving DecidableEq, Repr

/-- k_fast over one shard (11 R295): sum, samples, and whether it stayed at 64. -/
structure KRun where
  sum : Nat := 0
  cnt : Nat := 0
  all : Bool := true
  deriving DecidableEq, Repr

structure Pgv where
  /-- C in force [W], the level of R287 [µJ]. -/
  cap : Nat := 1600
  level : Int := 3000000
  /-- The limits of Table 11-4, and k_lim in force (R293). -/
  kFast : Nat := 64
  kLadder : Nat := 64
  kPhase : Nat := 64
  kAlert : Nat := 64
  kCool : Nat := 64
  kTherm : Nat := 64
  kStretch : Nat := 64
  kLim : Nat := 1
  /-- Pulses of every 64 presented to idle clusters, and to each busy cluster (R293). -/
  idleK : Nat := 1
  skips : Tab Nat := []
  /-- Mean applied k over busy clusters, as last measured. -/
  kMean : Nat := 0
  seq : SeqSt := {}
  /-- OP_CEIL of R295, the point it is held at by R299, and the least OP_p over the phases present (R292). -/
  ceil : Nat := 0
  ceilSlew : Nat := 0
  leastOp : Nat := 7
  /-- k_fast over each instar whose shard runs here (R295), by instar; p exceeded P_EDC in the last sample. -/
  kRuns : Tab KRun := []
  overEdc : Bool := false
  /-- Ladder (Table 11-8): 0 NORMAL 1 FLOOR 2 NARROW 3 NO_PREFILL 4 IDLE 5 UNATTAINABLE. -/
  ladder : Nat := 0
  widthCap : Nat := 0
  idleUs : Nat := 0
  noPrefill : Bool := false
  idleReq : Bool := false
  idleSince : Nat := 0
  defSince : Option Nat := none
  surSince : Option Nat := none
  /-- QUIET_REQ, and the instars to wait before a quiet instar is asked for again (R304). -/
  quietReq : Bool := false
  quietWait : Nat := 0
  forbidTold : Bool := false
  sinceRef : Nat := 0
  /-- A quiet instar runs until then. -/
  quietUntil : Option Nat := none
  entryM : Model := Model.zero 4
  phaseM : Model := Model.zero 9
  /-- Since the last shard start (R301, R316): LEAK summed over the µs, compute and chip energy [µJ], weighted pulses of
  each phase [mV² × pulses], and of each tool job. -/
  ivStatic : Nat := 0
  ivCompute : Nat := 0
  ivChip : Nat := 0
  ivPulses : List Nat := List.replicate 16 0
  ivTools : Tab Nat := []
  /-- The instar of that interval, its entries, width and quiet flag, and the record in force for it. -/
  ivInstar : Option Nat := none
  ivEntries : List DEntry := []
  ivQuiet : Bool := false
  ivRecord : Option Allow := none
  /-- The run of µs without a pulse: how many, its compute energy, its LEAK sum (R303). -/
  refUs : Nat := 0
  refEnergy : Nat := 0
  refStatic : Nat := 0
  /-- A reference was taken since the last shard start. -/
  refTaken : Bool := false
  /-- WIDTH and PERIOD_NS of the last descriptor with entries. -/
  lastWidth : Nat := 0
  lastPeriod : Nat := 0
  /-- Rail powers at the last poll [W], the last ten polls, VCORE and VSRAM read back [mV], the last fast-sense powers. -/
  railW : List Nat := [0, 0, 0, 0, 0, 0]
  railHist : List (List Nat) := [[], [], [], [], [], []]
  railV : List Nat := [0, 0]
  fastW : List Int := [0, 0]
  /-- Failed phases by rail, µs a phase has sensed low (rail * 256 + phase), disagreeing polls, failed senses. -/
  failedPh : Tab (List Nat) := []
  lowPh : Tab Nat := []
  badPolls : List Nat := [0, 0]
  senseBad : List Nat := []
  pFilt : Word := 0
  /-- (chip, compute) power of the last 1,000 samples, newest first. -/
  powerHist : List (Nat × Nat) := []
  tHot : Nat := 0
  hotSensor : Nat := 0
  /-- The reasons of Table 11-11 active after the last sample. -/
  reasons : Nat := 0
  /-- REG_ALERT_N low since, what it reported (rail, address, status), how often counted; hold end; slow release since. -/
  alertLow : Option Nat := none
  alertInfo : Nat × Nat × Nat := (0, 0, 0)
  alertTicks : Nat := 0
  alertHold : Option Nat := none
  alertSlow : Option Nat := none
  /-- Coolant lost since, high again since; class 0 actions and the class 1 cap in force. -/
  coolLost : Option Nat := none
  coolHigh : Option Nat := none
  coolAct : Bool := false
  coolCap : Bool := false
  critSince : Option Nat := none
  /-- Calibration runs until then; thermal sensors left out of t_hot (13 R380, R382). -/
  calUntil : Option Nat := none
  badSensors : List Nat := []
  fixed : Bool := false
  fixedOp : Nat := 0
  /-- Allowance records built, by the instar whose report carries them, and the start-up record, under which the first two
  instars run (05 R128). -/
  records : Tab Allow := []
  startRecord : Option Allow := none
  /-- Rails whose PMBus poll has not completed; the pins are released when there are none (14 R400). -/
  pmbBusy : List Nat := []
  /-- The VoutTransRate write of start-up is held back by REG_ALERT_N (R300). -/
  rateDue : Bool := false
  energyUj : Nat := 0
  unattr : Nat := 0
  deriving DecidableEq, Repr

end Sys2Proof.Machine
end

