-- ==== Sys2Proof/Machine/State.lean ====
section
/-! DEFINITION. The state of the block: the engine's registers and the state of its subsystems, and the queue of commands
that wait. Everything is plain data. -/

namespace Sys2Proof.Machine

/-- An external leg that something waits for (02 R40): which of its kind it is, since when the engine times it, and whether
it is the retry of one that failed (R405). -/
structure LegRun where
  leg : Leg
  part : List Nat
  since : Nat
  again : Bool := false
  deriving DecidableEq, Repr

/-- The engine: everything but the queue of commands. -/
structure Eng where
  /-- The fabric timestamp [ns] (13 R349). -/
  now : Nat := 0
  /-- Stored register fields by BAR2 offset; an unlisted register holds `regReset` (00 R14). Fields that show other
  state are views of it (Machine/Flags.lean). -/
  regs : Tab Word := []
  /-- Shadows of hi registers and staged lo writes, by the offset of the lo register (00 R13). -/
  shadow : Tab Word := []
  loStage : Tab Word := []
  /-- What the last BAR2 read returned. -/
  readData : Word := 0
  /-- The model's own: how many free values have been taken (an argument of the opaque constants of Config). -/
  free : Nat := 0
  isl : Tab Island := []
  img : Image := {}
  iml : Iml
  tel : Tel := {}
  dbg : Dbg := {}
  dir : Dir := {}
  ing : Ing := {}
  ldg : Ldg := {}
  dln : Dln := {}
  cmp : Cmp := {}
  dsq : Dsq := {}
  smp : Smp := {}
  pln : Pln := {}
  mov : Mov := {}
  twm : Twm := {}
  pgv : Pgv := {}
  /-- External legs that something waits for, with their starts and whether they are being retried (02 R40, R405). -/
  legs : List LegRun := []
  /-- The engine has declared itself failed (01 R27). -/
  failed : Bool := false
  /-- What has left the engine, newest first; no command reads it. -/
  out : List Out := []
  deriving DecidableEq, Repr

/-- The block: the engine, and the commands that wait, first in first out. -/
structure State where
  eng : Eng
  pending : List Instr := []
  deriving DecidableEq, Repr

/-- Reasons for which the block stops with a fault. There is none: the spec gives every command an effect, and a failing
unit raises an event and changes state (01 R26, R27). -/
inductive Fault where
  deriving DecidableEq, Repr

/-- Reasons for which a command has no meaning. -/
inductive Refusal where
  /-- The command's meaning is not written yet. Raised by the dispatch alone. Safe: the block stops. -/
  | notModelled (mnemonic : String)
  /-- An operand names something that cannot exist (a slice above 3, a rail above 5): `Instr.wf` is false. Raised by the
  meaning of that command. Safe: the spec says such a command does not occur. -/
  | illFormed (mnemonic : String)
  deriving DecidableEq, Repr

/-- BFPT DWORDs 1 to 16 of the flash part that State.reset attaches (log entry 31): 64 KiB erase, 1-4-4 with 10 dummy
clocks in all, 1-1-4 with 8, quad enable and 4-byte entry stated. -/
def resetBfpt : List Nat :=
  [0xFFFB20E5, 0x0FFFFFFF, 0x6B08EB48, 0x00000000, 0x00000000, 0x00000000, 0x00000000, 0xD8100000,
   0x00000000, 0x00000101, 0x00000081, 0x00000000, 0x00000000, 0x00000000, 0x00400000, 0x01000000]

/-- The SFDP bytes of that part: header, one parameter header, the BFPT at byte 0x30. -/
def resetSfdp : Bytes :=
  leBytes 4 0x50444653 ++ [0x06, 0x01, 0x00, 0xFF] ++ [0x00, 0x06, 0x01, 0x10] ++ leBytes 3 0x30 ++ [0xFF]
    ++ zeros 32 ++ resetBfpt.flatMap (leBytes 4)

/-- The engine before VAON is good: nothing has run (12 R337, PHASE 0). -/
def Eng.cold : Eng := { iml := { flash := { sfdp := resetSfdp } } }

/-- The block right after power is applied: every field at its reset value (00 R14, 12 Table 12-7), no command waits. -/
def State.reset : State := { eng := Eng.cold }

end Sys2Proof.Machine
end

