-- ==== Sys2Proof/Machine/Ops.lean ====
section
/-! DEFINITION. The named operations on the engine: the wrapper every command's meaning uses, registers, image parameters,
free values, events, counters, trace, stated waits and messages. -/

namespace Sys2Proof.Machine

/-! ## Commands -/

/-- Runs the effect `f` of command `c`: the timestamp is the command's and never goes back (13 R349), the queue stays as
it is, and what leaves the engine is added to what left it before, which no effect reads. An ill-formed command is refused
under its name. -/
def State.run (s : State) (c : Instr) (name : String) (f : Eng → Eng) : Host.Outcome State Fault Refusal :=
  if c.wf then
    let n := max s.eng.now c.time
    let r := f { s.eng with now := n, out := [] }
    .next { s with eng := { r with now := n, out := r.out ++ s.eng.out } }
  else .refused (.illFormed name)

/-! ## Bytes of records -/

/-- A record of `n` bytes with the little-endian fields `(offset, size, value)`; every other byte is 0 (00 R4). -/
def layout (n : Nat) (fs : List (Nat × Nat × Nat)) : Bytes :=
  (List.range n).map fun i =>
    match fs.find? fun f => decide (f.1 ≤ i ∧ i < f.1 + f.2.1) with
    | some (o, _, v) => BitVec.ofNat 8 (v / 256 ^ (i - o))
    | none => 0

/-- A record whose last four bytes are the CRC-32C of those before it. -/
def withCrc (b : Bytes) : Bytes := b ++ leBytes 4 (crc32c b)

/-- Whether the last four of the first `n` bytes are the CRC-32C of those before them. -/
def crcOk (b : Bytes) (n : Nat) : Bool := decide (u32 b (n - 4) = crc32c (b.take (n - 4)) ∧ n ≤ b.length)

/-- Bytes with the four from `i` replaced by zeros. -/
def blank4 (b : Bytes) (i : Nat) : Bytes := b.take i ++ zeros 4 ++ b.drop (i + 4)

/-- Bytes with the four from `i` holding the CRC-32C of the whole taken with these four as 0. -/
def sealAt (b : Bytes) (i : Nat) : Bytes := b.take i ++ leBytes 4 (crc32c (blank4 b i)) ++ b.drop (i + 4)

/-- Whether the four bytes from `i` hold the CRC-32C of the whole with them taken as 0. -/
def sealOk (b : Bytes) (i : Nat) : Bool := decide (u32 b i = crc32c (blank4 b i))

/-- A bit mask from a list of bit numbers below `n` that meet `p`. -/
def maskOf (n : Nat) (p : Nat → Bool) : Nat := sumN ((List.range n).map fun i => if p i then 2 ^ i else 0)

/-- Bit `i` of a mask. -/
def bit (m i : Nat) : Bool := m.testBit i

def b2n (b : Bool) : Nat := if b then 1 else 0

/-- Number of set bits among the lowest `n`. -/
def popcount (n m : Nat) : Nat := ((List.range n).filter (bit m)).length

/-! ## Roles and start-up (01 R20 to R22, 12 R337) -/

def Eng.role (e : Eng) (r : Nat) : Nat := e.img.roles.getD r 0
/-- The engine holds the Lead role. -/
def Eng.isLead (e : Eng) : Bool := bit (e.role e.img.rank) 0
/-- The engine holds a Tail role. -/
def Eng.isTail (e : Eng) : Bool := bit (e.role e.img.rank) 1
/-- The ranks that hold a Tail role. -/
def Eng.tails (e : Eng) : List Nat := (List.range e.img.n).filter fun r => bit (e.role r) 1
/-- All islands have left reset and the image is loaded (PHASE 12). -/
def Eng.up (e : Eng) : Bool := decide (e.iml.phase = 12)
/-- PGV, TEL and DBG have left reset (step 1 of Table 12-6). -/
def Eng.aonUp (e : Eng) : Bool := decide (1 ≤ e.iml.phase)

/-- The island has left reset (12 R337): AON always, PGV, TEL and DBG from step 1 on, the others once the engine is up. -/
def Eng.islandRuns (e : Eng) (n : Nat) : Bool :=
  n == 0 || ((n == 14 || n == 16 || n == 17) && e.aonUp) || e.up

/-- A hold-up stops admission, composition and snapshots (12 Table 12-8): every state but NONE and DWELL. -/
def Eng.stopping (e : Eng) : Bool := e.iml.hold != 0 && e.iml.hold != 5

/-- An effect that happens only while every island runs. -/
def whenUp (f : Eng → Eng) (e : Eng) : Eng := if e.up then f e else e
/-- An effect of a Lead's subsystem. -/
def whenLead (f : Eng → Eng) (e : Eng) : Eng := if e.up && e.isLead then f e else e

/-- The children of a rank on the flutter tree (05 R125). -/
def Eng.children (e : Eng) : List Nat :=
  ((List.range 4).map fun i => 4 * e.img.rank + 1 + i).filter fun r => decide (r < e.img.n)
/-- The parent of this engine's rank. -/
def Eng.parent (e : Eng) : Nat := (e.img.rank - 1) / 4

/-- The least depth d with 4^d at or above n (⌈log4 n⌉). -/
def treeDepth (n : Nat) : Nat := if n ≤ 1 then 0 else if n ≤ 4 then 1 else if n ≤ 16 then 2 else 3

/-! ## Outputs -/

/-- Something leaves the engine. -/
def Eng.send (e : Eng) (o : Out) : Eng := { e with out := o :: e.out }
def Eng.sendAll (e : Eng) (l : List Out) : Eng := { e with out := l.reverse ++ e.out }
/-- A tree message to the children, where there are any (14 R387). -/
def Eng.down (e : Eng) (cls : Nat) (m : Bytes) : Eng := if e.children.isEmpty then e else e.send (.frame cls 0 0xFF m)
/-- A tree message to the parent. -/
def Eng.upward (e : Eng) (cls : Nat) (m : Bytes) : Eng := if e.img.rank = 0 then e else e.send (.frame cls 1 e.parent m)
/-- A point-to-point message; an engine's message to itself does not leave it. -/
def Eng.toRank (e : Eng) (cls r : Nat) (m : Bytes) : Eng := if r = e.img.rank then e else e.send (.frame cls 2 r m)

/-! ## Registers (00 R10 to R14) -/

/-- A register's stored fields. -/
def Eng.reg (e : Eng) (off : Nat) : Word := Tab.getD e.regs off (regReset off)
/-- Writes a register's stored fields. -/
def Eng.setReg (e : Eng) (off : Nat) (v : Word) : Eng := { e with regs := Tab.write e.regs (regReset off) off v }

/-- A field [hi:lo] of a stored register (R5). -/
def Eng.fld (e : Eng) (off hi lo : Nat) : Nat := bitsOf (e.reg off).toNat hi lo

/-- `w` with field [hi:lo] holding `v`. -/
def putField (w : Word) (hi lo v : Nat) : Word :=
  BitVec.ofNat 32 (w.toNat - bitsOf w.toNat hi lo * 2 ^ lo + (v % 2 ^ (hi + 1 - lo)) * 2 ^ lo)

def Eng.setFld (e : Eng) (off hi lo v : Nat) : Eng := e.setReg off (putField (e.reg off) hi lo v)

/-- Adds `n` to a saturating count in field [hi:lo]. -/
def Eng.bump (e : Eng) (off hi lo n : Nat) : Eng :=
  e.setFld off hi lo (min (e.fld off hi lo + n) (2 ^ (hi + 1 - lo) - 1))

/-- The 64-bit count of a lo/hi pair at `off`. -/
def Eng.reg64 (e : Eng) (off : Nat) : Nat := (e.reg off).toNat + 2 ^ 32 * (e.reg (off + 4)).toNat
def Eng.setReg64 (e : Eng) (off v : Nat) : Eng :=
  (e.setReg off (BitVec.ofNat 32 v)).setReg (off + 4) (BitVec.ofNat 32 (v / 2 ^ 32))
/-- Adds `n` to a 64-bit count, which wraps. -/
def Eng.bump64 (e : Eng) (off n : Nat) : Eng := e.setReg64 off (e.reg64 off + n)

/-! ## Image parameters (12 R330, Table 12-3) -/

/-- Factory defaults of the scalar parameters; STALL_W's depends on the class (09 R225) and has its own reader. -/
def factory (id idx : Nat) : Nat :=
  match id with
  | 0x0000 => 532
  | 0x0100 => 200 | 0x0101 => 10
  | 0x0500 => 20000 | 0x0501 => 2000000000
  | 0x0600 => 512 | 0x0601 => 16384 | 0x0602 => 100000
  | 0x0700 => 4
  | 0x0800 => match idx % 4 with | 0 => 50 | 1 => 2000 | 2 => 600000 | _ => 86400000
  | 0x0801 => 1024 | 0x0802 => 1024 | 0x0803 => 16 | 0x0804 => 1000
  | 0x0805 => if idx = 3 then 32 else 4
  | 0x0807 => if idx = 3 then 80 else 2000
  | 0x0808 => if idx = 3 then 800 else 400
  | 0x0809 => 3600000 | 0x080A => 4096 | 0x080B => 8 | 0x080C => 50
  | 0x0B00 => 1600 | 0x0B01 => 1600 | 0x0B02 => 1900 | 0x0B03 => 3000000 | 0x0B04 => 20 | 0x0B05 => 10
  | 0x0B06 => 16 | 0x0B07 => 4 | 0x0B08 => 40 | 0x0B09 => 328 | 0x0B0A => 100 | 0x0B0B => 10
  | 0x0B0C => 0x49800000 | 0x0B0D => 65536 | 0x0B0E => 0 | 0x0B0F => 95 | 0x0B10 => 0x3CA3D70A
  | 0x0B11 => 400000 | 0x0B12 => 0x3E19999A | 0x0B13 => 20000 | 0x0B14 => 0 | 0x0B15 => 1 | 0x0B16 => 800
  | 0x0B17 => 105 | 0x0B18 => 0 | 0x0B19 => 0 | 0x0B1A => 0
  | 0x0C00 => 16384 | 0x0C01 => 5000 | 0x0C02 => 20 | 0x0C03 => 50 | 0x0C04 => 1 | 0x0C05 => 60 | 0x0C06 => 0
  | 0x0C07 => 0
  | 0x0E00 => 1000000 | 0x0E01 => 500
  | _ => 0

/-- A scalar parameter in force, at INDEX `idx`. -/
def Eng.paramAt (e : Eng) (id idx : Nat) : Nat := Tab.getD e.img.params (id * 65536 + idx) (factory id idx)
def Eng.param (e : Eng) (id : Nat) : Nat := e.paramAt id 0

/-- STALL_W of a class: the image's, or the default of the class's kind (09 R225). -/
def Eng.stallW (e : Eng) (c : Nat) : Nat :=
  Tab.getD e.img.params (0x0806 * 65536 + c)
    (match (e.img.classes.getD c {}).kind with | 2 => 65536 | 1 => 16384 | _ => 1024)

/-! ## External legs (02 R40) -/

/-- A leg is in, or begun afresh: what the engine noted of it goes. -/
def Eng.legIn (e : Eng) (l : Leg) : Eng := { e with legs := e.legs.filter fun r => r.leg != l }

/-! ## Free values -/

/-- The next argument for an opaque constant of Config. -/
def Eng.fresh (e : Eng) : Nat × Eng := (e.free, { e with free := e.free + 1 })
/-- `n` free values at once: the first argument, and the engine after them. -/
def Eng.freshN (n : Nat) (e : Eng) : Nat × Eng := (e.free, { e with free := e.free + n })

/-! ## Counters (13 R351 to R357) -/

/-- What an occurrence is qualified by (Table 13-3). -/
structure Qual where
  tenant : Option Nat := none
  unit : Option Nat := none
  phase : Option Nat := none

/-- Adds `n` to live counter `i` (0 to 15 always-on, 16 to 23 set A, 24 to 31 set B); a wrap sets its WRAPPED bit. -/
def Eng.count (e : Eng) (i n : Nat) : Eng :=
  let v := Tab.getD e.tel.live i 0 + n
  let e := { e with tel := { e.tel with live := Tab.write e.tel.live 0 i (v % 2 ^ 64) } }
  if v < 2 ^ 64 then e
  else
    let e := { e with tel := { e.tel with wrapEpoch := e.tel.wrapEpoch ||| 2 ^ i } }
    e.setReg Reg.TEL_WRAPPED (e.reg Reg.TEL_WRAPPED ||| BitVec.ofNat 32 (2 ^ i))

/-- Whether a selector counts an occurrence of event `ev` (R355). Table 13-3 gives QMODE 1 for 0x03, 0x05 and 0x06,
QMODE 3 for 0x0A and 0x12, and QMODE 2 where it names a unit. -/
def selCounts (w ev : Nat) (q : Qual) : Bool :=
  let qual := bitsOf w 23 8
  decide (bitsOf w 7 0 = ev ∧ ev ≠ 0) &&
    match bitsOf w 25 24 with
    | 0 => true
    | 1 => (ev == 0x03 || ev == 0x05 || ev == 0x06) && q.tenant == some (qual % 1024)
    | 2 => [0x01, 0x02, 0x04, 0x07, 0x09, 0x0B, 0x0E, 0x0F, 0x10, 0x11, 0x13].contains ev && q.unit == some qual
    | _ => (ev == 0x0A || ev == 0x12) && q.phase == some (qual % 16)

/-- Set B counts: it is not gated, or the marker range named is open (R357). -/
def Eng.setBOn (e : Eng) : Bool :=
  e.fld Reg.TEL_SETB_GATE 31 31 == 0 || e.tel.marks.contains (e.fld Reg.TEL_SETB_GATE 15 0)

/-- `n` occurrences of a selectable event (R355). -/
def Eng.occur (e : Eng) (ev n : Nat) (q : Qual := {}) : Eng :=
  (List.range 16).foldl (fun e j =>
    if selCounts ((Tab.getD e.tel.sel j {}).force) ev q && (decide (j < 8) || e.setBOn)
    then e.count (16 + j) n else e) e

/-! ## Events (13 R360 to R362) -/

/-- Bits 31:0 of the last instar sealed (Lead) or checked (other engines), as notices carry it. -/
def Eng.noteInstar (e : Eng) : Nat :=
  (if e.isLead then e.cmp.last else (e.cmp.checked.map Desc.num).getD 0) % 2 ^ 32

/-- The 16 type-specific bytes of a notice: fields at their offsets 16 to 31 in the entry. -/
def evData (fs : List (Nat × Nat × Nat)) : Bytes := layout 16 (fs.map fun f => (f.1 - 16, f.2))

def Eng.notice (e : Eng) (typ prio tag : Nat) (data : Bytes) (more : Bytes := []) : Notice :=
  { typ := typ, prio := prio, ts := e.now, tag := tag, instar := e.noteInstar, data := data, more := more }

/-- Notes `n` entries lost from a ring this epoch; the first loss gives TEL_EVENT_LOSS its kind. -/
def Eng.noteLoss (e : Eng) (p n kind : Nat) : Eng :=
  let r := e.tel.rings.getD p {}
  let r := { r with lossKind := if r.lostEpoch = 0 then kind else r.lossKind, lostEpoch := r.lostEpoch + n }
  { e with tel := { e.tel with rings := e.tel.rings.set p r } }

/-- Presents a notice to the input queue of 64 entries; one presented to a full queue is discarded, counted as dropped
against its ring, and counted in EVENTS_LOST (R361). -/
def Eng.present (e : Eng) (n : Notice) : Eng :=
  if e.tel.queue.length < 64 then { e with tel := { e.tel with queue := e.tel.queue ++ [n] } }
  else ((e.noteLoss n.prio 1 1).bump (Reg.TEL_RING_LOST n.prio) 15 0 1).count 12 1

/-- Presents an event (R361). The type-specific bytes are given at their offsets in the entry. -/
def Eng.raise (e : Eng) (typ prio tag : Nat) (fs : List (Nat × Nat × Nat)) : Eng :=
  e.present (e.notice typ prio tag (evData fs))

/-- Presents an event that a snapshot epoch admits once, under a key of its own. -/
def Eng.raiseOnce (e : Eng) (key typ prio tag : Nat) (fs : List (Nat × Nat × Nat)) : Eng :=
  if e.tel.once.contains key then e
  else Eng.raise { e with tel := { e.tel with once := key :: e.tel.once } } typ prio tag fs

/-! ## Trace (13 R366 to R368) -/

/-- The bytes sent in the epoch have reached LIMIT x 64, where LIMIT is not 0. -/
def Eng.traceLimited (e : Eng) : Bool :=
  let u := e.fld Reg.TEL_TRACE_LIMIT 15 0
  decide (u ≠ 0 ∧ u * 64 ≤ e.tel.sentEpoch)

/-- A trace record's bytes. -/
def traceRec (kind island ts : Nat) (fs : List (Nat × Nat × Nat)) : Bytes :=
  layout 16 ((0, 1, kind) :: (1, 1, island) :: (2, 6, ts) :: fs)

/-- A trace record is dropped: `cause` 0 FIFO full, 1 limit (R368). -/
def Eng.dropTrace (e : Eng) (cause : Nat) : Eng :=
  let e := { e with tel := { e.tel with drops := e.tel.drops + 1, dropCause := cause, dropsEpoch := e.tel.dropsEpoch + 1 } }
  (e.count 14 1).raiseOnce 0xD200 0xD2 1 0 [(16, 4, e.tel.dropsEpoch), (20, 1, cause)]

/-- A record enters the FIFO, after a DROP record where records were dropped before it; `slots` of the FIFO's 512 are open to
it (R368). -/
def Eng.pushTrace (e : Eng) (slots : Nat) (r : Bytes) : Eng :=
  let drop := if e.tel.drops = 0 then [] else [traceRec 2 16 e.now [(8, 4, e.tel.drops), (12, 1, e.tel.dropCause)]]
  if slots ≤ e.tel.fifo.length ∨ 512 < e.tel.fifo.length + drop.length + 1 then e.dropTrace 0
  else { e with tel := { e.tel with fifo := e.tel.fifo ++ drop ++ [r], valid := true, drops := 0 } }

/-- Sends a trace record of an enabled kind, or drops it (R368). Fields are given at their offsets 8 to 15. -/
def Eng.traceAt (e : Eng) (kind island ts : Nat) (fs : List (Nat × Nat × Nat)) : Eng :=
  if e.fld Reg.TEL_TRACE_CTRL 31 31 = 0 || !bit (e.reg Reg.TEL_TRACE_CTRL).toNat (16 + kind) then e
  else if e.tel.fifo.length < 510 ∧ e.traceLimited = true then e.dropTrace 1
  else e.pushTrace 510 (traceRec kind island ts fs)

def Eng.trace (e : Eng) (kind island : Nat) (fs : List (Nat × Nat × Nat)) : Eng := e.traceAt kind island e.now fs

/-- An instar's step in the trace (kind 0x04): 0 sealed, 1 launched, 2 checked, 3 shard end, 4 barrier, 5 committed,
6 aborted. -/
def Eng.traceInstar (e : Eng) (island step instar : Nat) : Eng := e.trace 4 island [(8, 1, step), (10, 6, instar)]

/-- The end of a stated wait that began at `since` (R367, Table 13-8). -/
def Eng.waitEnd (e : Eng) (code island obj since : Nat) : Eng :=
  let d := e.now - since
  let e := e.occur 0x13 d { unit := some code }
  if d < e.fld Reg.TEL_TRACE_CTRL 15 0 then e
  else e.traceAt 9 island since [(8, 1, code), (9, 1, (Config.waitHolder code island).toNat), (10, 2, obj), (12, 4, min d 0xFFFFFFFF)]

/-! ## Tenant view pages (13 R358) -/

def Eng.page (e : Eng) (t : Nat) : TPage := Tab.getD e.tel.pages t {}
def Eng.setPage (e : Eng) (t : Nat) (f : TPage → TPage) : Eng :=
  { e with tel := { e.tel with pages := Tab.write e.tel.pages {} t (f (e.page t)) } }

/-- A 32-bit count of a page, which saturates. -/
def sat32 (n : Nat) : Nat := min n 0xFFFFFFFF

/-! ## A unit whose failure the engine cannot survive (01 R27) -/

/-- The engine declares itself failed, which leads to twin failover for its flutter's sessions. -/
def Eng.declareFailed (e : Eng) : Eng := { e with failed := true }

/-- A unit is retired (01 R26): the next instar-end report says so (05 R127). -/
def Eng.noteRetired (e : Eng) : Eng := { e with dsq := { e.dsq with retired := true } }

end Sys2Proof.Machine
end

