-- ==== Sys2Proof/Machine/Directory.lean ====
section
/-! DEFINITION. Operations of the session directory (03): tags and the free list, block ownership, slices and salt epochs,
entries, the cache, lookups, the backing copies. -/

namespace Sys2Proof.Machine

/-! ## Tags (R49) -/

def tagIndex (tag : Nat) : Nat := tag % 2 ^ 24
def tagGen (tag : Nat) : Nat := tag / 2 ^ 24 % 256
def mkTag (gen index : Nat) : Nat := gen * 2 ^ 24 + index

/-- Bits [57:10] of a timestamp, the units of LAST_ACT, TTL_EXP and ECL_START (R59). -/
def actTime (ts : Nat) : Nat := ts / 1024 % 2 ^ 48

/-! ## Entries (R58, Table 3-3) -/

/-- Bytes 0 to 61 of an entry, then the entry with CHECK in bits 31:16 of word 15 (bytes 62 and 63). -/
def entryBytes (x : Entry) : Bytes :=
  let w (l : List Nat) : Bytes := l.flatMap (leBytes 4)
  let b := w [x.tag,
    x.tenant * 2 ^ 22 + x.model * 2 ^ 18 + x.state.code * 2 ^ 15 + x.residency * 2 ^ 12 + x.dclass * 2 ^ 9 + x.hold * 2 ^ 5,
    x.position, x.turnSeq, x.chrys % 2 ^ 32,
    x.grammarId * 2 ^ 24 + x.grammarState * 2 ^ 8 + x.chrys / 2 ^ 32 % 256,
    x.sparam * 2 ^ 8 + b2n x.pin * 128 + b2n x.moving * 64 + b2n x.prefixOn * 32 + b2n x.grammarOn * 16 + x.tierCopy,
    x.toolId * 2 ^ 16 + x.prefixId,
    x.lastAct % 2 ^ 32, x.lastAct / 2 ^ 32, x.ttlExp % 2 ^ 32, x.ttlExp / 2 ^ 32,
    x.eclStart % 2 ^ 32, x.eclStart / 2 ^ 32, x.kvLen] ++ zeros 2
  b ++ leBytes 2 (crc32c b)

/-- The entry a tag names: live, and of the same generation (R54). -/
def Eng.find (e : Eng) (tag : Nat) : Option Entry :=
  match Tab.get? e.dir.entries (tagIndex tag) with
  | some x => if x.tag = tag && x.state ≠ .free then some x else none
  | none => none

/-- Every live entry, in index order. -/
def Eng.live (e : Eng) : List Entry := (Tab.vals e.dir.entries).filter fun x => x.state ≠ .free

/-- Sticky entries (R65). -/
def Entry.sticky (x : Entry) : Bool := x.state == .queued || x.state == .prefill || x.state == .decode

/-! ## Slices (R61) -/

/-- The position of the (k+1)th set bit of a 4-bit mask. -/
def kthSetBit (mask k : Nat) : Nat := (((List.range 4).filter (bit mask)).getD k 0)

def Eng.failedOrOffline (e : Eng) : Nat := e.dir.failed ||| e.dir.offline

/-- slice_of with the hash it uses; `none` for a tag whose salt slot holds no epoch record (R54, R61). -/
def Eng.sliceHash (e : Eng) (tag : Nat) : Option (Nat × Nat) :=
  (Tab.get? e.dir.slots (tagGen tag % 4)).map fun r =>
    let h := (siphash (BitVec.ofNat 64 e.img.keys.salt) (BitVec.ofNat 64 r.k1) (leBytes 4 (tagIndex tag))).toNat
    let s := kthSetBit r.mask (h / 2 ^ 32 * popcount 4 r.mask / 2 ^ 32)
    if bit e.failedOrOffline s then
      let alive := 0xF - e.failedOrOffline
      (kthSetBit alive (h % 2 ^ 32 * popcount 4 alive / 2 ^ 32), h)
    else (s, h)

/-- slice_of (0 where the tag is unknown to it). -/
def Eng.sliceOf (e : Eng) (tag : Nat) : Nat := ((e.sliceHash tag).map Prod.fst).getD 0
/-- The cache set: bits [12:0] of the hash (R65). -/
def Eng.setOf (e : Eng) (tag : Nat) : Nat := ((e.sliceHash tag).map Prod.snd).getD 0 % 8192

/-! ## Cache (R65) -/

/-- A way of the tag's set holds its index, so a lookup of the tag reads no backing. -/
def Eng.cached (e : Eng) (tag : Nat) : Bool :=
  match e.sliceHash tag with
  | some (s, h) => e.dir.cache.any fun l => l.slice == s && l.set == h % 8192 && tagIndex l.tag == tagIndex tag
  | none => false

/-- The entry belongs to a sealed instar whose commit has not completed. -/
def Eng.isStaged (e : Eng) (tag : Nat) : Bool := e.dir.staged.contains tag

/-- The way a fill of (slice, set) evicts, when 16 are taken: the least recently used line that is not sticky, else the
least recently used that is not staged, with whether it was sticky; `none` when all are staged. -/
def Eng.victim (e : Eng) (ways : List Line) : Option (Line × Bool) :=
  let old := ways.reverse
  let sticky (l : Line) := ((e.find l.tag).map Entry.sticky).getD false
  match old.find? fun l => !sticky l && !e.isStaged l.tag with
  | some l => some (l, false)
  | none => (old.find? fun l => !e.isStaged l.tag).map fun l => (l, true)

/-- Makes `tag` the most recently used line of its slice, filling a way if it is not cached (R65). DESIGN CHOICE: where all 16
ways are staged no way can be filled, which R65 does not treat; the entry then stays uncached (log entry 118). -/
def Eng.cacheIn (e : Eng) (tag : Nat) : Eng :=
  match e.sliceHash tag with
  | none => e
  | some (s, h) =>
    let line : Line := { slice := s, set := h % 8192, tag := tag }
    let same (l : Line) := l.slice == s && l.set == line.set
    let rest := e.dir.cache.filter fun l => !(same l && tagIndex l.tag == tagIndex tag)
    let ways := rest.filter same
    if ways.length < 16 then { e with dir := { e.dir with cache := line :: rest } }
    else match e.victim ways with
      | none => { e with dir := { e.dir with cache := rest } }
      | some (v, sticky) =>
        let e := { e with dir := { e.dir with cache := line :: rest.filter fun l => l ≠ v } }
        if sticky then e.bump (Reg.DIR_STICKY_EVICT s) 31 0 1 else e

/-- Writes an entry: through to the backing (R67) and into its slice's cache (R65). -/
def Eng.putEntry (e : Eng) (x : Entry) : Eng :=
  Eng.cacheIn { e with dir := { e.dir with entries := Tab.put e.dir.entries (tagIndex x.tag) x } } x.tag

/-- Changes a live entry. -/
def Eng.modEntry (e : Eng) (tag : Nat) (f : Entry → Entry) : Eng :=
  match e.find tag with
  | some x => e.putEntry (f x)
  | none => e

/-! ## Lookups -/

/-- "Unknown session" (R54). -/
def Eng.stale (e : Eng) : Eng := e.bump Reg.DIR_STALE 31 0 1

/-- Counts a lookup accepted by slice `s`, and its miss. -/
def Eng.countLookup (e : Eng) (s : Nat) (miss : Bool) : Eng :=
  let e := (e.bump64 (Reg.DIR_LOOKUPS_LO s) 1).occur 0x01 1 { unit := some s }
  if miss then (e.bump64 (Reg.DIR_MISSES_LO s) 1).occur 0x02 1 { unit := some s } else e

/-- A lookup of the tag has to wait for a fill: its entry is not in the cache, or its fill is in flight (R68, R70). -/
def Eng.misses (e : Eng) (tag : Nat) : Bool :=
  (e.sliceHash tag).isSome && (!e.cached tag || (Tab.get? e.dir.fills tag).isSome)

/-- The lookup of a record that need not wait (R54, R68): one that hits, or, where the fill it waited for has ended (`got`),
one whose lookup is counted already. -/
def Eng.lookup (e : Eng) (tag : Nat) (got : Bool) : Option Entry × Eng :=
  if got then (e.find tag, e)
  else match e.sliceHash tag with
    | none => (none, e.stale)
    | some (s, _) =>
      let e := e.countLookup s false
      match e.find tag with
      | some x => (some x, e.cacheIn tag)
      | none => (none, e.stale)

/-! ## The free list (R52) and block ownership (R50) -/

/-- How many indices a run holds. -/
def FreeRun.size : FreeRun → Nat
  | .one _ => 1
  | .blocks _ _ count used => count * 256 - used

def Eng.freeCount (e : Eng) : Nat := sumN (e.dir.free.map FreeRun.size)

/-- Takes the index at the head of the list. -/
def takeFree : List FreeRun → Option (Nat × List FreeRun)
  | [] => none
  | .one i :: l => some (i, l)
  | .blocks first stride count used :: l =>
    if count = 0 then takeFree l
    else if 255 ≤ used then some (first * 256 + used, (.blocks (first + stride) stride (count - 1) 0) :: l)
    else some (first * 256 + used, .blocks first stride count (used + 1) :: l)

/-- A run without the indices of block `b`. -/
def FreeRun.without (b : Nat) : FreeRun → List FreeRun
  | .one i => if i / 256 = b then [] else [.one i]
  | .blocks first stride count used =>
    if b < first ∨ stride = 0 ∧ b ≠ first ∨ (stride ≠ 0 ∧ ((b - first) % stride ≠ 0 ∨ count ≤ (b - first) / stride)) then
      [.blocks first stride count used]
    else
      let k := if stride = 0 then 0 else (b - first) / stride
      (if k = 0 then [] else [.blocks first stride k used])
        ++ (if k + 1 < count then [.blocks (b + stride) stride (count - k - 1) 0] else [])

/-- This wing owns block `b`. -/
def Eng.owns (e : Eng) (b : Nat) : Bool :=
  let base := match e.dir.ownBase with | 0 => b % 2 == 0 | 1 => b % 2 == 1 | 2 => true | _ => false
  (base && !e.dir.ownMinus.contains b) || e.dir.ownPlus.contains b

/-- Blocks owned. -/
def Eng.ownedCount (e : Eng) : Nat :=
  (match e.dir.ownBase with | 0 => 32768 | 1 => 32768 | 2 => 65536 | _ => 0)
    - e.dir.ownMinus.length + e.dir.ownPlus.length

/-- Takes over blocks: they are owned, and their indices go to the tail of the free list in ascending order (R52), whatever
the order in which the grant's record lists them. -/
def Eng.gainBlocks (e : Eng) (bs : List Nat) : Eng :=
  let gain := sortBy Nat.ble (bs.filter fun b => !e.owns b)
  { e with dir := { e.dir with
      ownPlus := e.dir.ownPlus ++ gain.filter fun b => !e.dir.ownMinus.contains b
      ownMinus := e.dir.ownMinus.filter fun b => !gain.contains b
      free := e.dir.free ++ gain.map fun b => .blocks b 0 1 0
      asked := false } }

/-- Withholds the blocks of a grant that is not durable yet: their indices leave the free list, so no OPEN takes one and no
other grant names one (R51, R52, log entry 119). -/
def Eng.withhold (e : Eng) (bs : List Nat) : Eng :=
  { e with dir := { e.dir with
      granting := e.dir.granting ++ bs
      free := bs.foldl (fun l b => l.flatMap (FreeRun.without b)) e.dir.free } }

/-- The grants that were not durable are discarded: their blocks' indices come back to the tail of the free list (log entry
119). -/
def Eng.unwithhold (e : Eng) : Eng :=
  { e with dir := { e.dir with
      granting := []
      free := e.dir.free ++ (sortBy Nat.ble e.dir.granting).map fun b => .blocks b 0 1 0 } }

/-- Gives blocks away: they are no longer owned, and their indices leave the free list. -/
def Eng.loseBlocks (e : Eng) (bs : List Nat) : Eng :=
  let lose := bs.filter e.owns
  { e with dir := { e.dir with
      ownMinus := e.dir.ownMinus ++ lose.filter fun b => !e.dir.ownPlus.contains b
      ownPlus := e.dir.ownPlus.filter fun b => !lose.contains b
      granting := e.dir.granting.filter fun b => !lose.contains b
      free := lose.foldl (fun l b => l.flatMap (FreeRun.without b)) e.dir.free } }

/-- Block `b` holds a live session. -/
def Eng.blockLive (e : Eng) (b : Nat) : Bool := e.live.any fun x => tagIndex x.tag / 256 == b

/-- The blocks a grant of at most `n` gives (R51): owned blocks without a live session and in no grant that is not durable
yet, in the order of `Config.blockRank`, at least 64 such blocks kept. -/
def Eng.grantable (e : Eng) (n : Nat) : List Nat :=
  let el := (List.range 65536).filter fun b => e.owns b && !e.blockLive b && !e.dir.granting.contains b
  (sortBy (fun a b => decide (Config.blockRank a < Config.blockRank b ∨ Config.blockRank a = Config.blockRank b ∧ a ≤ b)) el).take
    (min (min n 64) (el.length - 64))

/-- Asks the partner for blocks when the free indices fall below 16,384 while the pair is formed (R51). -/
def Eng.askBlocks (e : Eng) : Eng :=
  if e.freeCount < 16384 && !e.dir.asked && e.twm.wing == .paired && e.twm.handshake then
    let m := withCrc (layout 60 [(0, 1, 0x22), (1, 1, e.img.wing), (4, 4, e.twm.term), (8, 4, 64)])
    Eng.send { e with dir := { e.dir with asked := true } } (.twin m)
  else e

/-! ## Allocation (R53) -/

/-- The smallest generation after `old` in the order old + 1, old + 2, ... modulo 256 with g mod 4 = p; 0 is skipped for
index 0. -/
def nextGen (old p index : Nat) : Nat :=
  let ok (g : Nat) : Bool := g % 4 == p && !(index == 0 && g == 0)
  (((List.range 256).map fun i => (old + 1 + i) % 256).find? ok).getD 0

/-- The generation a slot last held; 0xFF where it was never used. -/
def Eng.oldGen (e : Eng) (index : Nat) : Nat :=
  match Tab.get? e.dir.entries index with
  | some x => tagGen x.tag
  | none => 0xFF

/-- A fresh tag, with its index taken from the free list (R52, R53). -/
def Eng.allocTag (e : Eng) : Option (Nat × Eng) :=
  (takeFree e.dir.free).map fun (i, rest) =>
    (mkTag (nextGen (e.oldGen i) (e.dir.epoch % 4) i) i, { e with dir := { e.dir with free := rest } })

/-- The window of 2^20 insertions is complete (R62); what is inserted from then on belongs to the next window. -/
def Eng.windowFull (e : Eng) : Bool := decide (2 ^ 20 ≤ sumN (Tab.vals e.dir.winCount))

/-- Counts an insertion: an OPEN's, in the window under way (R61, R62). -/
def Eng.countInsert (e : Eng) (tag : Nat) : Eng :=
  let s := e.sliceOf tag
  let add (m : Tab Nat) : Tab Nat := Tab.put m s (Tab.getD m s 0 + 1)
  if e.windowFull then { e with dir := { e.dir with nextCount := add e.dir.nextCount } }
  else { e with dir := { e.dir with winCount := add e.dir.winCount } }

/-- A slice goes offline: the window under way is not judged (R62). -/
def Eng.markOffline (e : Eng) : Eng :=
  if e.windowFull then { e with dir := { e.dir with nextOffline := true } }
  else { e with dir := { e.dir with winOffline := true } }

/-! ## Salt epochs (R61 to R63) -/

/-- k1 of epoch `n`: boot_random ^ wrapping_mul(n, 0x9E37_79B9_7F4A_7C15). -/
def Eng.epochKey (e : Eng) (n : Nat) : Nat := e.iml.bootRandom ^^^ (n * 0x9E3779B97F4A7C15 % 2 ^ 64)

/-- Live sessions whose generation mod 4 is `p`. -/
def Eng.slotLive (e : Eng) (p : Nat) : Nat := (e.live.filter fun x => tagGen x.tag % 4 == p).length

/-- Starts epoch + 1 if its slot holds no live session, else defers (R62). `cause`: 0 imbalance, 1 slice failure. -/
def Eng.newEpoch (e : Eng) (cause : Nat) : Eng :=
  let n := (e.dir.epoch + 1) % 2 ^ 32
  let p := n % 4
  let lv := e.slotLive p
  if lv = 0 then
    let r : EpochRec := { epoch := n, k1 := e.epochKey n, mask := 0xF - e.dir.failed % 16 }
    Eng.raise { e with dir := { e.dir with epoch := n, slots := Tab.put e.dir.slots p r } } 0x30 1 0
      [(16, 4, n), (20, 1, p), (21, 1, r.mask), (22, 1, cause)]
  else (e.bump Reg.DIR_EPOCH_DEFER 31 0 1).raise 0x31 1 0 [(16, 4, n), (20, 1, p), (24, 4, lv)]

/-- A window of 2^20 insertions ends (R62). DESIGN CHOICE: of slices that took equally many, the lowest-numbered one is shown
as the busiest (log entry 120). -/
def Eng.judgeWindow (e : Eng) : Eng :=
  let counts := (List.range 4).map fun s => Tab.getD e.dir.winCount s 0
  if !e.windowFull then e
  else
    let mx := max0 counts
    let s := counts.findIdx (· == mx)
    let judged := !e.dir.winOffline
    let lives := popcount 4 (0xF - e.dir.failed % 16)
    let e := { e with dir := { e.dir with winCount := e.dir.nextCount, nextCount := [],
                                          winOffline := e.dir.nextOffline || decide (e.dir.offline ≠ 0), nextOffline := false,
                                          winMax := mx, winSlice := s } }
    if judged && decide (5 * 2 ^ 20 < 4 * mx * lives) then e.newEpoch 0 else e

/-- A slice goes out of service: its lines leave the cache, and its fills start again in the redirected slice. -/
def Eng.dropSlice (e : Eng) (s : Nat) : Eng :=
  { e with dir := { e.dir with cache := e.dir.cache.filter fun l => l.slice != s } }

/-- A slice fails (R63, R72). A second failure makes the engine declare itself failed (01 R27). -/
def Eng.failSlice (e : Eng) (s : Nat) : Eng :=
  if bit e.dir.failed s then e
  else
    let second := decide (e.dir.failed ≠ 0)
    let e := { e with dir := { e.dir with failed := e.dir.failed ||| 2 ^ s, offline := e.dir.offline &&& (0xF - 2 ^ s) } }
    let e := (e.dropSlice s).noteRetired.raise 0x32 3 0 [(16, 1, s), (17, 1, e.dir.failed)]
    let e := e.newEpoch 1
    if second then e.declareFailed else e

/-! ## The backing copies (R69) -/

/-- The lowest-numbered working stack that holds neither copy. -/
def Eng.spareStack (e : Eng) : Option Nat :=
  (List.range 8).find? fun s => !e.dir.deadStacks.contains s && s != e.dir.stackA && s != e.dir.stackB

/-- HBM stack `s` is lost to the directory: misses are served from the other copy, and the lost copy is written to a
spare stack in the background, while a copy is left to take it from (log entry 111). -/
def Eng.loseBacking (e : Eng) (s : Nat) : Eng :=
  let e := { e with dir := { e.dir with deadStacks := s :: e.dir.deadStacks } }
  if s = e.dir.stackA ∨ s = e.dir.stackB then
    let e := { e with dir := { e.dir with aOk := e.dir.aOk && decide (s ≠ e.dir.stackA)
                                          bOk := e.dir.bOk && decide (s ≠ e.dir.stackB) } }
    let copy := if e.dir.aOk || e.dir.bOk then e.spareStack else none
    Eng.raise { e with dir := { e.dir with copyTo := copy } } 0x37 2 0 [(16, 1, 0), (17, 1, s)]
  else if e.dir.copyTo = some s then { e with dir := { e.dir with copyTo := e.spareStack } }
  else e

/-- The background copy is complete. -/
def Eng.backingDone (e : Eng) : Eng :=
  match e.dir.copyTo with
  | none => e
  | some s =>
    let d := e.dir
    let d := if d.aOk then { d with stackB := s, bOk := true, copyTo := none }
             else { d with stackA := s, aOk := true, copyTo := none }
    Eng.raise { e with dir := d } 0x37 2 0 [(16, 1, 1), (17, 1, s)]

/-! ## Holding a session (R55) -/

/-- Places a session in HELD: any state but FREE and CLOSING (R55, DIR_HELD). -/
def Eng.hold (e : Eng) (tag reason : Nat) : Eng :=
  match e.find tag with
  | none => e
  | some x =>
    if x.state == .closing then e
    else
      let run := x.state == .prefill || x.state == .decode
      let e := e.putEntry { x with state := .held, hold := reason }
      let e := { e with pln := { e.pln with chrys := Tab.modify e.pln.chrys tag fun c => { c with tYield := 0 } } }
      let l := if run then tag :: e.dir.heldRun else e.dir.heldRun
      let e := if x.sticky then { e with smp := { e.smp with drops := e.smp.drops ++ [tag] } } else e
      Eng.raise { e with dir := { e.dir with heldRun := l } } 0x34 2 tag [(16, 1, reason)]

/-! ## Misses and fills (R68, R70) -/

/-- A record that waits for the entry of `tag` has it. -/
def InRec.give (tag : Nat) (q : InRec) : InRec :=
  if q.fetch == .asked && u32 q.raw 16 == tag then { q with fetch := .got } else q

/-- A fill ends: the entry is placed in the cache and returned, or the tag proves unknown and nothing is cached; the
requesters that came after the first waited (R70, wait code 2). Ingress records that waited for the entry go on. -/
def Eng.endFill (e : Eng) (tag : Nat) (f : Fill) : Eng :=
  let e := { e with dir := { e.dir with fills := Tab.del e.dir.fills tag }
                    ing := { e.ing with waiting := e.ing.waiting.map (InRec.give tag), looking := e.ing.looking.map (InRec.give tag) } }
  let e := (f.waiters.drop 1).foldl (fun e w => e.waitEnd 2 (2 + f.slice) f.slice w.2) e
  match e.find tag with
  | some x => { e.cacheIn tag with dir := { (e.cacheIn tag).dir with answer := some (tag, some x) } }
  | none =>
    let e := f.waiters.foldl (fun e _ => e.stale) e
    { e with dir := { e.dir with answer := some (tag, none) } }

/-- Both copies have failed: the session is held with reason 1, and the fill ends with the HELD entry. -/
def Eng.fillLost (e : Eng) (tag : Nat) (f : Fill) : Eng := (e.hold tag 1).endFill tag f

/-- Copy A fails: copy B is read, unless it is lost. -/
def Eng.copyAFailed (e : Eng) (tag : Nat) (f : Fill) : Eng :=
  let e := e.raise 0x33 2 tag [(16, 1, 1)]
  if e.dir.bOk then { e with dir := { e.dir with fills := Tab.put e.dir.fills tag { f with copyB := true } } }
  else e.fillLost tag f

/-- Copy B fails. -/
def Eng.copyBFailed (e : Eng) (tag : Nat) (f : Fill) : Eng :=
  (e.raise 0x33 2 tag [(16, 1, if e.dir.aOk then 3 else 2)]).fillLost tag f

/-- Starts the fill of a missed entry from the first copy that is there; with both copies lost, both fail at once (R68). -/
def Eng.startFill (e : Eng) (tag slice requester : Nat) : Eng :=
  let f : Fill := { slice := slice, copyB := !e.dir.aOk, waiters := [(requester, e.now)] }
  if !e.dir.aOk && !e.dir.bOk then (e.raise 0x33 2 tag [(16, 1, 3)]).fillLost tag f
  else { e with dir := { e.dir with fills := Tab.put e.dir.fills tag f } }

/-! ## Counts that registers show -/

def Eng.sliceLive (e : Eng) (s : Nat) : Nat := (e.live.filter fun x => e.sliceOf x.tag == s).length
def Eng.heldCount (e : Eng) : Nat := (e.live.filter fun x => x.state == .held).length

/-! ## Lookups from outside -/

/-- A lookup at its slice's boundary: a hit returns the entry, a miss reads the backing, a lookup of an entry whose fill is
in flight waits for it (R54, R61, R68, R70). -/
def Eng.request (e : Eng) (tag requester : Nat) : Eng :=
  match e.sliceHash tag with
  | none => { e.stale with dir := { e.stale.dir with answer := some (tag, none) } }
  | some (s, _) =>
    match Tab.get? e.dir.fills tag with
    | some f =>
      let e := e.countLookup s true
      { e with dir := { e.dir with fills := Tab.put e.dir.fills tag { f with waiters := f.waiters ++ [(requester, e.now)] } } }
    | none =>
      let hit := e.cached tag
      let e := e.countLookup s (!hit)
      if !hit then e.startFill tag s requester
      else match e.find tag with
        | some x => { e.cacheIn tag with dir := { (e.cacheIn tag).dir with answer := some (tag, some x) } }
        | none => { e.stale with dir := { e.stale.dir with answer := some (tag, none) } }

end Sys2Proof.Machine
end

