-- ==== Sys2Proof/Machine/Deadline.lean ====
section
/-! DEFINITION. Operations of the tenant ledger and of the deadline tracker: the bucket, share clocks, reservations, the
admission test, slack and misses (04 R89 to R99, 05 R106). -/

namespace Sys2Proof.Machine

/-! ## Candidates (05 R103) -/

/-- The session is a candidate. -/
def Eng.candidate (e : Eng) (x : Entry) : Bool :=
  x.sticky && (x.residency == 1 || x.residency == 2) && !x.moving && (Tab.get? e.img.models x.model).isSome

/-- The candidate pool. -/
def Eng.pool (e : Eng) : List Entry := e.live.filter e.candidate

/-! ## The tenant ledger (R89 to R93) -/

def Eng.tcfg (e : Eng) (t : Nat) : TenantCfg := Tab.getD e.img.tenants t {}
def Eng.tst (e : Eng) (t : Nat) : TenantSt := Tab.getD e.ldg.tenants t {}
def Eng.setTst (e : Eng) (t : Nat) (x : TenantSt) : Eng := { e with ldg := { e.ldg with tenants := Tab.put e.ldg.tenants t x } }

/-- The bounds of an i64. -/
def satI64 (i : Int) : Int := max (-(2 ^ 63 : Nat)) (min ((2 ^ 63 : Nat) - 1) i)

/-- R90. -/
def refillBucket (c : TenantCfg) (s : TenantSt) (now : Nat) : TenantSt :=
  let acc := c.rate * 256 * (now - s.lastNs) + s.rem
  let add := acc / 1000000000
  let cap : Int := c.depth * 256
  if (max (cap - s.level) 0).toNat ≤ add then { s with level := max s.level cap, rem := 0, lastNs := now }
  else { s with level := satI64 (s.level + add), rem := acc % 1000000000, lastNs := now }

/-- Refills a tenant's bucket to the present. -/
def Eng.refill (e : Eng) (t : Nat) : Eng := e.setTst t (refillBucket (e.tcfg t) (e.tst t) e.now)

/-- Takes `n` credits without a test; a level that falls below zero raises LDG_BUCKET_EMPTY (R91). -/
def Eng.debit (e : Eng) (t n : Nat) : Eng :=
  let s := e.tst t
  let l := satI64 (s.level - n)
  let e := e.setTst t { s with level := l }
  if l < 0 ∧ 0 ≤ s.level then e.raiseOnce (0x400000 + t) 0x40 0 0 [(16, 2, t), (24, 8, unsigned 64 l)] else e

/-- The commit charge of `n` sampled tokens (R91). -/
def Eng.chargeCommit (e : Eng) (t n : Nat) : Eng := (e.refill t).debit t (n * (e.tcfg t).decodeW)

/-- V_min: the lowest share clock among tenants with sessions in the pool (R92). -/
def Eng.vmin (e : Eng) : Nat := minD 0 (e.pool.map fun x => (e.tst x.tenant).share)

/-- Tenants with sessions in the pool. -/
def Eng.pooledNow (e : Eng) : List Nat := (e.pool.map Entry.tenant).dedup

/-- The share clock of each tenant that has gained its first session in the pool is raised to V_min of the tenants that
were there (R92). -/
def Eng.notePool (e : Eng) : Eng :=
  let now_ := e.pooledNow
  let old := now_.filter e.ldg.pooled.contains
  let new := now_.filter fun t => !e.ldg.pooled.contains t
  let e := match old with
    | [] => e
    | _ =>
      let v := minD 0 (old.map fun t => (e.tst t).share)
      new.foldl (fun e t => e.setTst t { e.tst t with share := max (e.tst t).share v }) e
  { e with ldg := { e.ldg with pooled := now_ } }

/-- Adds the engine time of an instar of `T` ns, in which tenants have weights `ws` (R92, R93). -/
def Eng.shareClocks (e : Eng) (T : Nat) (ws : Tab Nat) : Eng :=
  let total := sumN (Tab.vals ws)
  if total = 0 then e
  else ws.foldl (fun e (t, w) =>
    let c := T * w / total
    let s := e.tst t
    let e := e.setTst t { s with share := s.share + c * 65536 / max 1 (e.tcfg t).weight }
    e.setPage t fun p => { p with engineNs := (p.engineNs + c) % 2 ^ 64 }) e

/-! ## Reservations (R94 to R96) -/

def Eng.classOf (e : Eng) (c : Nat) : DClass := e.img.classes.getD c {}
def Eng.kindOf (e : Eng) (c : Nat) : Nat := (e.classOf c).kind
def Eng.model (e : Eng) (m : Nat) : ModelCfg := Tab.getD e.img.models m {}

/-- scale of R96 with a slowdown factor and a stretch limit. -/
def scaleBy (sigma limit ps : Nat) : Nat := ps * sigma * (4096 + limit) / 2 ^ 24 % 2 ^ 64
def Eng.scale (e : Eng) (ps : Nat) : Nat := scaleBy e.dln.sigma e.dln.limit ps

def Eng.basePs (e : Eng) : Nat := e.param 0x0501
def turnPs : Nat := 1000000

/-- Reservations of a kind. -/
def Eng.resvOf (e : Eng) (kind : Nat) : List Resv := (Tab.vals e.dln.resv).filter fun r => e.kindOf r.dclass == kind
/-- D of a kind [ps]. -/
def Eng.loadD (e : Eng) (kind : Nat) : Nat := sumN ((e.resvOf kind).map fun r => (e.model r.model).seqPs)
/-- B of a kind [ps]. -/
def Eng.loadB (e : Eng) (kind : Nat) : Nat := sumN ((e.resvOf kind).map fun r => (e.model r.model).tokPs * r.left)
/-- The least of some times; `none` is unbounded. -/
def leastOf (l : List Nat) : Option Nat := if l.isEmpty then none else some (minD 0 l)
/-- E of a kind [ns]: the earliest TTFT deadline still to come among reservations with backlog. -/
def Eng.earliest (e : Eng) (kind : Nat) : Option Nat :=
  leastOf (((e.resvOf kind).filter fun r => decide (r.left ≠ 0)).filterMap fun r =>
    let d := r.tIn + (e.classOf r.dclass).ttftUs * 1000
    if e.now < d then some d else none)
/-- The tightest TBT over the classes of a kind with reservations [µs]. -/
def Eng.minTbt (e : Eng) (kind : Nat) : Option Nat := leastOf ((e.resvOf kind).map fun r => (e.classOf r.dclass).tbtUs)

/-- The lesser of a time and one that may be unbounded. -/
def minO (a : Nat) : Option Nat → Nat
  | some b => min a b
  | none => a

/-- p_meas [ns]. -/
def Eng.pmeas (e : Eng) : Nat := max0 e.dln.durations

/-- The admission test of R96: the reject code and its detail (0x0B period [µs], 0x0C bound [µs]), or none; and the
engine with the period computed. -/
def Eng.admissionTest (e : Eng) (resume : Bool) (dclass model count : Nat) : Option (Nat × Nat) × Eng :=
  let c := e.classOf dclass
  let m := e.model model
  if c.kind = 0 then (none, e)
  else
    let firm := c.kind == 1
    let d := e.loadD 2 + m.seqPs + if firm then e.loadD 1 else 0
    let b := e.loadB 2 + count * m.tokPs + if firm then e.loadB 1 else 0
    let tbtUs := minO (c.tbtUs) (e.minTbt 2)
    let tbtUs := if firm then minO tbtUs (e.minTbt 1) else tbtUs
    let tbt := tbtUs * 1000000
    let room? (k : Nat) := (e.earliest k).map fun t => (t - e.now) * 1000
    let lim := minO (c.ttftUs * 1000000) (room? 2)
    let lim := if firm then minO lim (room? 1) else lim
    let period := max (e.scale (e.basePs + d) + turnPs) (e.pmeas * 1000 + e.scale m.seqPs)
    let e := { e with dln := { e.dln with period := period } }
    if tbt ≤ period then (some (0x0B, min (period / 1000000) 0xFFFFFFFF), e)
    else
      let n := ceilDiv (e.scale b) (tbt - period) + 1
      let bound := n * tbt + if resume then e.param 0x0500 * 1000000 else 0
      if lim < bound then (some (0x0C, min (bound / 1000000) 0xFFFFFFFF), e) else (none, e)

/-- The key of a session's turn in DLN's table. -/
def turnKey (tag turn : Nat) : Nat := tag * 2 ^ 32 + turn

/-- Makes the reservation of an admitted turn of a STRICT or FIRM class, and notes the turn. -/
def Eng.startTurn (e : Eng) (tag turn dclass model tenant tIn count : Nat) : Eng :=
  let turns := Tab.put e.dln.turns (turnKey tag turn) { dclass := dclass, tenant := tenant, tIn := tIn }
  let resv := if e.kindOf dclass = 0 then e.dln.resv
    else Tab.put e.dln.resv tag { dclass := dclass, model := model, tenant := tenant, tIn := tIn, left := count }
  { e with dln := { e.dln with turns := turns, resv := resv } }

/-- Ends a session's reservation (R95). -/
def Eng.endResv (e : Eng) (tag : Nat) : Eng := { e with dln := { e.dln with resv := Tab.del e.dln.resv tag } }

/-- A commit of `n` prefill tokens lowers the backlog (R95). -/
def Eng.prefilled (e : Eng) (tag n : Nat) : Eng :=
  match Tab.get? e.dln.resv tag with
  | some r => { e with dln := { e.dln with resv := Tab.put e.dln.resv tag { r with left := r.left - n } } }
  | none => e

/-! ## Slack and latest start (R99, 05 R106) -/

/-- Tokens still to be fed before the turn's first sample. -/
def Entry.remaining (x : Entry) : Nat := x.position - x.kvLen

def Eng.turnOf (e : Eng) (x : Entry) : Turn := (Tab.get? e.dln.turns (turnKey x.tag x.turnSeq)).getD { dclass := 0, tenant := 0, tIn := 0 }

/-- The latest start of a candidate [ns] (05 R106); `none` for BEST. DESIGN CHOICE: a DECODE session that has released no TOKEN
in its current turn has no t_last, and t_in of the turn stands for it (log entry 121). -/
def Eng.latest (e : Eng) (x : Entry) : Option Int :=
  let c := e.classOf x.dclass
  let u := e.turnOf x
  if c.kind = 0 then none
  else if x.state == .decode then some ((u.tLast.getD u.tIn + c.tbtUs * 1000 : Nat) : Int)
  else some ((u.tIn + c.ttftUs * 1000 : Nat) - (e.scale (x.remaining * (e.model x.model).tokPs) / 1000 : Nat) : Int)

/-- The slack of a candidate [ns] (R99). -/
def Eng.slack (e : Eng) (x : Entry) : Int :=
  match e.latest x with
  | none => (2 ^ 63 : Nat) - 1
  | some l => l - e.now - (e.dln.period / 1000 : Nat)

/-! ## Misses (R98) -/

/-- Counts a miss of a session, by class and tenant: `kind` 0 TTFT, 1 TBT, with the lateness [ns]. -/
def Eng.miss (e : Eng) (tag : Nat) (u : Turn) (kind late : Nat) : Eng :=
  let e := if kind = 0 then e.bump (Reg.DLN_CLASS_MISSES u.dclass) 31 16 1
    else e.bump (Reg.DLN_CLASS_MISSES u.dclass) 15 0 1
  let e := e.setPage u.tenant fun p =>
    if kind = 0 then { p with missTtft := Tab.write p.missTtft 0 u.dclass (sat32 (Tab.getD p.missTtft u.dclass 0 + 1)) }
    else { p with missTbt := Tab.write p.missTbt 0 u.dclass (sat32 (Tab.getD p.missTbt u.dclass 0 + 1)) }
  let e := e.occur 0x11 1 { unit := some u.dclass }
  if e.kindOf u.dclass = 2 then
    Eng.raiseOnce (e.count 15 1) (0x500000 + u.dclass) 0x50 2 tag
      [(16, 1, u.dclass), (17, 1, kind), (20, 4, min late 0xFFFFFFFF)]
  else e

/-- A commit of the turn has been made at this time (05 R106). -/
def Eng.noteCommit (e : Eng) (tag turn : Nat) : Eng :=
  match Tab.get? e.dln.turns (turnKey tag turn) with
  | some u =>
    let u := { u with tLast := some e.now, waiting := u.waiting + 1 }
    { e with dln := { e.dln with turns := Tab.put e.dln.turns (turnKey tag turn) u } }
  | none => e

/-- The TOKENs of a commit of the turn are released. Where they are handed to the NIC their time is tested and kept (R98);
where they are not (14 R392), the commit's time stays t_last (05 R106). -/
def Eng.noteTokens (e : Eng) (tag turn : Nat) (handed : Bool) : Eng :=
  match Tab.get? e.dln.turns (turnKey tag turn) with
  | none => e
  | some u =>
    if !handed then
      { e with dln := { e.dln with turns := Tab.put e.dln.turns (turnKey tag turn) { u with waiting := u.waiting - 1 } } }
    else
    let c := e.classOf u.dclass
    let limit := match u.last with
      | none => u.tIn + c.ttftUs * 1000
      | some l => l + c.tbtUs * 1000
    let e := if c.kind ≠ 0 ∧ limit < e.now then e.miss tag u (if u.last.isNone then 0 else 1) (e.now - limit) else e
    let w := u.waiting - 1
    let u := { u with last := some e.now, waiting := w, tLast := if w = 0 then some e.now else u.tLast }
    { e with dln := { e.dln with turns := Tab.put e.dln.turns (turnKey tag turn) u } }

/-- The turn's end has been released. -/
def Eng.dropTurn (e : Eng) (tag turn : Nat) : Eng :=
  { e with dln := { e.dln with turns := Tab.del e.dln.turns (turnKey tag turn) } }

end Sys2Proof.Machine
end

