-- ==== Sys2Proof/Machine/Place.lean ====
section
/-! DEFINITION. Placement on one chip: frames, far targets, orders and the pages that the MOV channels carry (09 R209 to
R220, R227 to R229, R233, R236 to R242). -/

namespace Sys2Proof.Machine

/-! ## Frames (R209, R210, R216) -/

/-- PAGES16 of a model on this chip. -/
def Eng.pages16 (e : Eng) (m : Nat) : Nat := (e.model m).pages16.getD e.img.rank 0

/-- The stack a frame lies on: frames are numbered by stack, then within it (log entry 35). -/
def stackOfFrame (sizes : List Nat) (f : Nat) : Nat :=
  ((List.range sizes.length).find? fun s => decide (f < sumN (sizes.take (s + 1)))).getD sizes.length

def Eng.frameUp (e : Eng) (f : Nat) : Bool := !e.pln.deadStacks.contains (stackOfFrame e.img.layout.kvFrames f)

/-- Usable T1 frames on this chip. -/
def Eng.framesTotal (e : Eng) : Nat :=
  sumN ((List.range e.img.layout.kvFrames.length).map fun s =>
    if e.pln.deadStacks.contains s then 0 else e.img.layout.kvFrames.getD s 0)

/-- Frames in use by sessions and by shared prefixes. -/
def Eng.framesUsed (e : Eng) : List Nat :=
  (Tab.vals e.pln.recs).flatMap (fun r => r.pages.filterMap Page.frame) ++ (Tab.vals e.pln.shared).flatten

def Eng.framesFree (e : Eng) : Nat := e.framesTotal - (e.framesUsed.filter e.frameUp).length

/-- The `n` lowest free frames: of each working stack, the first `n` of its frames that are not in use. -/
def Eng.takeFrames (e : Eng) (n : Nat) : List Nat :=
  if n = 0 then []
  else
    let used := e.framesUsed
    let sizes := e.img.layout.kvFrames
    let ofStack (s : Nat) : List Nat :=
      if e.pln.deadStacks.contains s then []
      else
        let base := sumN (sizes.take s)
        ((List.range (min (sizes.getD s 0) (n + used.length))).map (base + ·)).filter fun f => !used.contains f
    ((List.range sizes.length).flatMap ofStack).take n

/-- Groups of 16 positions that cover a length. -/
def groups (len : Nat) : Nat := (len + 15) / 16

/-! ## Chip records (R211) -/

def Eng.chipRec (e : Eng) (tag : Nat) : ChipRec := (Tab.get? e.pln.recs tag).getD { tag := tag }
def Eng.setRec (e : Eng) (r : ChipRec) : Eng := { e with pln := { e.pln with recs := Tab.put e.pln.recs r.tag r } }
def Eng.dropRec (e : Eng) (tag : Nat) : Eng := { e with pln := { e.pln with recs := Tab.del e.pln.recs tag } }

/-- Own pages of a session that cover a length. -/
def Eng.pagesFor (e : Eng) (r : ChipRec) (len : Nat) : Nat := (groups len - r.base) * e.pages16 r.model

/-- The pages that a move of the session counts, the prefix's pages first while they are copied out (R233), and the group
they begin with. -/
def ChipRec.moved (r : ChipRec) : List Page := r.pre ++ r.pages
def ChipRec.firstGroup (r : ChipRec) : Nat := if r.pre.isEmpty then r.base else 0

/-- Changes page `i` of a move's pages. -/
def ChipRec.modPage (r : ChipRec) (i : Nat) (f : Page → Page) : ChipRec :=
  if i < r.pre.length then { r with pre := r.pre.modify i f } else { r with pages := r.pages.modify (i - r.pre.length) f }

/-- The first position of the group of page `i` of a move's pages. -/
def Eng.pageStart (e : Eng) (r : ChipRec) (i : Nat) : Nat := (i / max 1 (e.pages16 r.model) + r.firstGroup) * 16

/-- The record while the pages of its attached prefix are copied as the session's own (R233). -/
def Eng.withPrefix (e : Eng) (r : ChipRec) : ChipRec := { r with pre := List.replicate (r.base * e.pages16 r.model) {} }

/-- The copies of the prefix's pages join the list, which then begins at group 0 (R233). -/
def ChipRec.joinPrefix (r : ChipRec) : ChipRec := { r with pages := r.moved, pre := [], base := r.firstGroup }

/-- A chip record's bytes (09 Table 9-1); LIST is the page list's address as this model counts it. -/
def Eng.recBytes (r : ChipRec) : Bytes :=
  withCrc (layout 60 [(0, 4, r.tag), (4, 4, r.pages.length), (8, 4, r.t1Len), (12, 4, r.t2Len), (16, 4, r.t3Len),
    (20, 2, r.t2Target), (22, 2, r.t3Target), (24, 8, r.t2Ext), (32, 8, r.t3Ext), (40, 8, r.list), (48, 4, r.resPages),
    (52, 4, r.t0Pages)])

/-- Gives up the T1 frames of positions beyond `resEnd` (R229: those beyond a rebuilt KV_LENGTH). -/
def Eng.shrinkFrames (e : Eng) (tag resEnd : Nat) : Eng :=
  match Tab.get? e.pln.recs tag with
  | none => e
  | some r =>
    let pages := r.pages.take (e.pagesFor r resEnd)
    e.setRec { r with pages := pages, resPages := (pages.filter fun p => p.frame.isSome).length }

/-- Reserves T1 frames for positions up to `resEnd` (R216). -/
def Eng.reserveFrames (e : Eng) (tag model resEnd : Nat) : Eng :=
  let r := { e.chipRec tag with model := model }
  let want := e.pagesFor r resEnd
  let pages := r.pages ++ List.replicate (want - r.pages.length) ({} : Page)
  let need := ((pages.take want).filter fun p => p.frame.isNone).length
  let frames := e.takeFrames need
  let filled := (pages.take want).foldl (fun (a : List Page × List Nat) p =>
    match p.frame, a.2 with
    | none, f :: fs => (a.1 ++ [{ p with frame := some f }], fs)
    | _, fs => (a.1 ++ [p], fs)) ([], frames)
  let pages := filled.1 ++ pages.drop want
  e.setRec { r with pages := pages, resPages := (pages.filter fun p => p.frame.isSome).length,
                    list := if r.list = 0 then e.pln.nextList + 1 else r.list }
    |> fun e => if r.list = 0 then { e with pln := { e.pln with nextList := e.pln.nextList + 1 } } else e

/-- The model of an order's session: orders carry none (Table 9-6), so it comes from the Lead's directory entry, from the
chip's record, or is the lowest resident model until a descriptor names it (log entry 36). -/
def Eng.orderModel (e : Eng) (tag : Nat) : Nat :=
  match e.find tag, Tab.get? e.pln.recs tag with
  | some x, _ => x.model
  | none, some r => r.model
  | none, none => (Tab.keys e.img.models).headD 0

/-- Gives up the T1 frames of a session; the list keeps the pages that far copies cover. -/
def Eng.freeFrames (e : Eng) (tag : Nat) : Eng :=
  match Tab.get? e.pln.recs tag with
  | none => e
  | some r =>
    let keep := max (e.pagesFor r r.t2Len) (e.pagesFor r r.t3Len)
    e.setRec { r with pages := (r.pages.take keep).map (fun p => { p with frame := none }), resPages := 0, t1Len := 0,
                      t0Pages := 0, dec := none }

/-- The session's pages follow its prefix no longer: its list begins at group 0, and frames are taken for the groups that
the prefix had (log entry 131). -/
def Eng.detachPrefix (e : Eng) (tag : Nat) : Eng :=
  match Tab.get? e.pln.recs tag with
  | none => e
  | some r =>
    if r.base = 0 then e
    else
      let p16 := e.pages16 r.model
      let e := e.setRec { r with pages := List.replicate (r.base * p16) {} ++ r.pages, base := 0 }
      if r.resPages = 0 then e else e.reserveFrames tag r.model (16 * (r.base + r.pages.length / max 1 p16))

/-- Lowers the lengths of a session's copies to `len` (R213). -/
def Eng.clampRec (e : Eng) (tag len : Nat) : Eng :=
  match Tab.get? e.pln.recs tag with
  | none => e
  | some r =>
    let e := e.setRec { r with t1Len := min r.t1Len len, t2Len := min r.t2Len len, t3Len := min r.t3Len len }
    if len < 16 * r.base then e.detachPrefix tag else e

/-- The longest length that one tier of this chip still holds for a session, up to `kv`, and that tier; 0 for none. -/
def ChipRec.valid (r : ChipRec) (kv : Nat) : Nat × Nat :=
  let l1 := if r.resPages = 0 then 0 else r.t1Len
  let best := min kv (max l1 (max r.t2Len r.t3Len))
  (best, if best ≤ l1 ∧ r.resPages ≠ 0 then 2 else if best = 0 then 0 else if best ≤ r.t2Len then 3 else 4)

/-- T0 frames in use outside the prefix part. -/
def Eng.t0Used (e : Eng) : Nat := sumN ((Tab.vals e.pln.recs).map ChipRec.t0Pages)

/-- Gives the T0 frames outside the prefix part to the newest group of each DECODE session, in order (R215). -/
def Eng.assignT0 (e : Eng) (order : List (Nat × Nat)) : Eng :=
  let clear := { e with pln := { e.pln with recs := Tab.mapVals e.pln.recs fun _ r => { r with t0Pages := 0 } } }
  order.foldl (fun e (tag, model) =>
    let n := e.pages16 model
    if e.t0Used + n ≤ e.img.layout.t0Frames - e.img.layout.t0Prefix ∧ (Tab.get? e.pln.recs tag).isSome
    then e.setRec { e.chipRec tag with t0Pages := n } else e) clear

/-! ## Far targets (R219, R220) -/

def Eng.tgt (e : Eng) (t : Nat) : Target := Tab.getD e.pln.targets t {}
def Eng.setTgt (e : Eng) (t : Nat) (x : Target) : Eng := { e with pln := { e.pln with targets := Tab.put e.pln.targets t x } }

/-- Units of 2 MiB that hold `pages` pages. -/
def extUnits (pages : Nat) : Nat := (pages + 63) / 64

/-- The lowest unit from `at_` on at which `n` units are free below `size`, past each extent in turn. -/
def firstFit (n size : Nat) : Nat → List (Nat × Nat) → Option Nat
  | at_, [] => if at_ + n ≤ size then some at_ else none
  | at_, (s, u) :: l => if at_ + n ≤ s ∧ at_ + n ≤ size then some at_ else firstFit n size (max at_ (s + u)) l

def Eng.findRoom (e : Eng) (t pages : Nat) : Option Nat :=
  firstFit (extUnits pages) ((Tab.getD e.img.targets t {}).regionSize / 2 ^ 21) 0
    ((e.tgt t).extents.map fun x => (x.1, x.2.1))

/-- Frees the extent of a tag that begins at byte address `ext` of target `t`. -/
def Eng.freeExtent (e : Eng) (t ext : Nat) : Eng :=
  let base := (Tab.getD e.img.targets t {}).regionBase
  let x := e.tgt t
  e.setTgt t { x with extents := Tab.del x.extents ((ext - base) / 2 ^ 21) }

/-- lg of R220 for a session on a target. -/
def Eng.rendezvous (e : Eng) (tag t : Nat) : Nat :=
  lgU32 ((siphash (BitVec.ofNat 64 e.img.keys.hk0) (BitVec.ofNat 64 e.img.keys.hk1)
    (leBytes 4 tag ++ leBytes 1 e.img.rank ++ leBytes 2 t)).toNat / 2 ^ 32)

/-- choose of R220 among the targets of a tier that are UP and have room for `pages` pages. -/
def Eng.choose (e : Eng) (tag tier pages : Nat) : Option Nat :=
  let cs := (Tab.keys e.img.targets).filter fun t =>
    (Tab.getD e.img.targets t {}).tier == tier && (e.tgt t).up && (e.findRoom t pages).isSome
  (cs.foldl (fun (best : Option (Nat × Nat × Nat)) t =>
    let w := (Tab.getD e.img.targets t {}).weight
    let l := e.rendezvous tag t
    match best with
    | none => some (t, w, l)
    | some (b, bw, bl) =>
      if bw * l < w * bl ∨ (w * bl = bw * l ∧ t < b) then some (t, w, l) else some (b, bw, bl)) none).map Prod.fst

/-- The target and extent for a copy of a session in tier `tier` or the next tier down (R220): (tier, target, extent,
whether the whole copy must be written). A copy already there is kept while its extent is large enough (R219). -/
def Eng.placeCopy (e : Eng) (r : ChipRec) (pages : Nat) : List Nat → Option (Nat × Nat × Nat × Bool × Eng)
  | [] => none
  | tier :: down =>
    let len := if tier = 3 then r.t2Len else r.t3Len
    let tg := if tier = 3 then r.t2Target else r.t3Target
    let ext := if tier = 3 then r.t2Ext else r.t3Ext
    let base := (Tab.getD e.img.targets tg {}).regionBase
    let have_ := (Tab.getD (e.tgt tg).extents ((ext - base) / 2 ^ 21) (0, 0)).1
    if len ≠ 0 ∧ (e.tgt tg).up ∧ extUnits pages ≤ have_ then some (tier, tg, ext, false, e)
    else match e.choose r.tag tier pages with
      | some t =>
        match e.findRoom t pages with
        | some u =>
          let x := e.tgt t
          let e := e.setTgt t { x with extents := Tab.put x.extents u (extUnits pages, r.tag) }
          some (tier, t, (Tab.getD e.img.targets t {}).regionBase + u * 2 ^ 21, true, e)
        | none => e.placeCopy r pages down
      | none => e.placeCopy r pages down

/-! ## MOV channels (R238 to R240) -/

def Eng.chan (e : Eng) (n : Nat) : Channel := Tab.getD e.mov.channels n {}
def Eng.setChan (e : Eng) (n : Nat) (c : Channel) : Eng := { e with mov := { channels := Tab.write e.mov.channels {} n c } }
def Eng.workingChannels (e : Eng) : List Nat := (List.range 64).filter fun n => !(e.chan n).retired

/-- Pages queued on a channel, those left of its current descriptor included. -/
def Channel.queued (c : Channel) : Nat :=
  sumN ((c.high ++ c.low).map MDesc.count) + (match c.cur with | some (d, k) => d.count - k | none => 0)

/-- Descriptors in a ring: HIGH or LOW. -/
def Channel.depth (c : Channel) (high : Bool) : Nat := if high then c.high.length else c.low.length

/-- The working channel with the fewest queued pages of those whose ring is not full, the lowest among equals. -/
def Eng.leastChannel (e : Eng) (high : Bool) : Option Nat :=
  (e.workingChannels.filter fun n => decide ((e.chan n).depth high < 1024)).foldl (fun (b : Option Nat) n =>
    match b with
    | none => some n
    | some m => if (e.chan n).queued < (e.chan m).queued then some n else some m) none

/-- Starts the leg of page `k` of a descriptor on channel `n`. A leg between HBM and the twin port, or within the chip,
reaches no far target. -/
def Eng.startLeg (e : Eng) (n : Nat) (d : MDesc) (k : Nat) : Eng :=
  if d.dst = 3 ∨ d.dst = 4 then e.send (.far (.pageWrite n d.tag (d.first + k)))
  else if d.src = 3 ∨ d.src = 4 then e.send (.far (.pageRead n d.tag (d.first + k)))
  else e

/-- An idle channel takes its next descriptor: HIGH before LOW (R238). -/
def Eng.pump (e : Eng) (n : Nat) : Eng :=
  let c := e.chan n
  if c.cur.isSome || c.retired then e
  else match c.high, c.low with
    | d :: l, _ => (e.setChan n { c with high := l, cur := some (d, 0), retriedLeg := false, refetched := false,
                                                 tag := d.tag }).startLeg n d 0
    | [], d :: l => (e.setChan n { c with low := l, cur := some (d, 0), retriedLeg := false, refetched := false,
                                                  tag := d.tag }).startLeg n d 0
    | [], [] => e

/-- Deals a descriptor to the working channel with the fewest queued pages, of those whose ring has room (R238, R240). One
that finds every ring full waits (log entry 129). -/
def Eng.deal (e : Eng) (d : MDesc) : Eng :=
  match e.leastChannel d.high with
  | none => if e.workingChannels.isEmpty then e else { e with pln := { e.pln with undealt := e.pln.undealt ++ [d] } }
  | some n =>
    let c := e.chan n
    (e.setChan n (if d.high then { c with high := c.high ++ [d] } else { c with low := c.low ++ [d] })).pump n

/-- Deals the descriptors that waited for room in a ring, in order. -/
def Eng.redeal (e : Eng) : Eng :=
  if e.pln.undealt.isEmpty then e
  else e.pln.undealt.foldl Eng.deal { e with pln := { e.pln with undealt := [] } }

/-- The bytes of a descriptor (R239, Table 9-9), CHECK last. -/
def MDesc.bytes (d : MDesc) : Bytes :=
  withCrc (layout 60 [(0, 1, d.op), (1, 1, d.dst * 16 + d.src), (2, 2, d.count), (4, 4, d.tag), (8, 4, d.first),
    (12, 1, b2n d.high + 2 * b2n d.freeSrc + 4 * b2n d.last), (14, 2, d.target), (16, 8, d.ext), (24, 8, d.list),
    (32, 4, d.seq)])

/-- The descriptors of `count` consecutive pages from `first`, up to 64 pages each. -/
def splitPages (d : MDesc) (first : Nat) : Nat → Nat → List MDesc
  | 0, _ => []
  | _, 0 => []
  | fuel + 1, count =>
    { d with first := first, count := min 64 count, last := decide (count ≤ 64) }
      :: splitPages d (first + 64) fuel (count - 64)

/-! ## Move-end reports (R228, 14 Table 14-2) -/

/-- The bytes of a move-end report. -/
def moveEndBytes (tag seq len rank tier status total : Nat) : Bytes :=
  withCrc (layout 28 [(0, 4, tag), (4, 4, seq), (8, 4, len), (12, 1, rank), (13, 1, tier), (14, 1, status), (16, 4, total)])

/-- This chip's report: it goes up the tree, or stays inside the Lead, whose own reports wait in `ownReports` until the
Lead's PLN takes them in the same command. -/
def Eng.reportMove (e : Eng) (tag seq len tier status : Nat) : Eng :=
  let b := moveEndBytes tag seq len e.img.rank tier status e.framesTotal
  if e.img.rank = 0 then { e with pln := { e.pln with ownReports := e.pln.ownReports ++ [b] } } else e.upward 0x21 b

/-! ## Carrying out an order -/

/-- Frees everything a session has on this chip. -/
def Eng.freeSession (e : Eng) (tag : Nat) : Eng :=
  let r := e.chipRec tag
  let e := if r.t2Len ≠ 0 then e.freeExtent r.t2Target r.t2Ext else e
  let e := if r.t3Len ≠ 0 then e.freeExtent r.t3Target r.t3Ext else e
  let e := { e with pln := { e.pln with held := e.pln.held.filter (fun h => h.2.tag ≠ tag), moves := Tab.del e.pln.moves tag } }
  e.dropRec tag

/-- The answer to a migration request (14 Table 14-4): header, chip record, then `n` pages (R234). -/
def Eng.sendMig (e : Eng) (r : ChipRec) (n : Nat) : Eng :=
  e.sendAll [.twin (layout 64 [(0, 1, 0x31), (4, 4, r.tag), (8, 4, n), (12, 4, e.img.rank)] ++ Eng.recBytes r), .migPages r.tag n]

/-- The move of a session on this chip ends: its copies are recorded and the report leaves (R213, R219, R241). A cancelled
move leaves T1 as it is (R229). One that lost pages reports the length that stays valid (R236, R237). -/
def Eng.finishMove (e : Eng) (tag : Nat) (m : ChipMove) : Eng :=
  let e := { e with pln := { e.pln with moves := Tab.del e.pln.moves tag } }
  let r := e.chipRec tag
  let kv := m.order.kvLen
  let whole := m.lostAt.isNone
  match m.order.kind with
  | 2 | 5 | 10 =>
    if m.cancelled then (e.setRec { r with t1Len := m.before }).reportMove tag m.order.seq kv 2 1
    else
      let len := minO kv m.lostAt
      let e := e.setRec { r with t1Len := len, spilled := false }
      let e := if m.order.kind = 2 then e.bump Reg.PLN_MOVES 31 16 1 else e
      e.reportMove tag m.order.seq len 2 (if whole then 0 else 2)
  | 11 => (e.sendMig r.joinPrefix (groups (minO kv m.lostAt) * e.pages16 r.model)).freeSession tag
  | 9 => e.reportMove tag m.order.seq (16 * (m.order.prefixId / 65536)) m.tier (if whole then 0 else 2)
  | _ =>
    let old := if m.tier = 3 then (r.t2Target, r.t2Ext, r.t2Len) else (r.t3Target, r.t3Ext, r.t3Len)
    let moved := old.2.2 ≠ 0 ∧ (old.1 ≠ m.target ∨ old.2.1 ≠ m.ext)
    if m.cancelled || !whole then
      let e := if old.2.2 = 0 ∨ moved then e.freeExtent m.target m.ext else e
      let e := e.setRec { r with pre := [] }
      if m.cancelled then e.reportMove tag m.order.seq kv 2 1
      else e.reportMove tag m.order.seq (r.valid kv).1 (r.valid kv).2 2
    else
      let e := if moved then e.freeExtent old.1 old.2.1 else e
      let r : ChipRec := { r.joinPrefix with spilled := decide (m.order.kind = 4) }
      let r : ChipRec := if m.tier = 3 then { r with t2Len := kv, t2Target := m.target, t2Ext := m.ext }
        else { r with t3Len := kv, t3Target := m.target, t3Ext := m.ext }
      let fromT2 := m.order.kind = 3 ∧ m.tier = 4 ∧ r.resPages = 0 ∧ r.t2Len ≠ 0
      let e := if fromT2 then (e.freeExtent r.t2Target r.t2Ext).setRec { r with t2Len := 0 } else (e.setRec r).freeFrames tag
      let e := e.bump Reg.PLN_MOVES 15 0 1
      e.reportMove tag m.order.seq kv m.tier 0

/-- Queues the pages [first, first + count) of a session as one move. -/
def Eng.startMove (e : Eng) (m : ChipMove) (d : MDesc) (first count : Nat) : Eng :=
  let ds := splitPages { d with list := (e.chipRec d.tag).list } first (count / 64 + 1) count
  let m := { m with left := ds.length, started := e.now }
  if ds.isEmpty then e.finishMove d.tag m
  else ds.foldl Eng.deal { e with pln := { e.pln with moves := Tab.put e.pln.moves d.tag m } }

/-- Copies a session's groups beyond what tier `tier` holds from `src` to it, or to the next tier down (R213, R214, R220). -/
def Eng.copyOut (e : Eng) (o : Order) (tiers : List Nat) (src : Nat) : Eng :=
  let r := e.withPrefix (e.chipRec o.tag)
  let r := if r.resPages = 0 then r else { r with t1Len := o.kvLen }
  let e := e.setRec r
  let pages := groups o.kvLen * e.pages16 r.model
  match e.placeCopy r pages tiers with
  | none => (e.setRec { r with pre := [] }).reportMove o.tag o.seq o.kvLen (if r.resPages = 0 then src else 2) 1
  | some (tier, t, ext, all, e) =>
    let len := if all then 0 else if tier = 3 then r.t2Len else r.t3Len
    let first := len / 16 * e.pages16 r.model
    e.startMove { order := o, tier := tier, target := t, ext := ext, before := len }
      { op := 1, dst := tier, src := src, count := 0, tag := o.tag, first := 0, high := false, freeSrc := true,
        last := false, target := t, ext := ext, seq := o.seq } first (pages - first)

/-- Brings a session's pages back into T1 from its fastest far copy (R228, R237). -/
def Eng.copyIn (e : Eng) (o : Order) : Eng :=
  let e := e.reserveFrames o.tag (e.orderModel o.tag) (max o.resEnd o.kvLen)
  let r := e.chipRec o.tag
  let have1 := r.t1Len / 16
  let src := if o.kvLen ≤ r.t2Len then 3 else if o.kvLen ≤ r.t3Len then 4 else if r.t3Len < r.t2Len then 3 else 4
  let srcLen := min o.kvLen (if src = 3 then r.t2Len else r.t3Len)
  let first := have1 * e.pages16 r.model
  let lost := if max srcLen r.t1Len < o.kvLen then some (max srcLen r.t1Len) else none
  e.startMove { order := o, tier := 2, before := r.t1Len, lostAt := lost }
    { op := 1, dst := 2, src := src, count := 0, tag := o.tag, first := 0, high := true, freeSrc := false, last := false,
      target := if src = 3 then r.t2Target else r.t3Target, ext := if src = 3 then r.t2Ext else r.t3Ext, seq := o.seq }
    first (e.pagesFor r srcLen - first)

/-- Stops a session's move after the page in hand (R229). -/
def Eng.cancelMove (e : Eng) (tag : Nat) : Eng :=
  let e := { e with pln := { e.pln with held := e.pln.held.filter fun h => h.2.tag ≠ tag } }
  match Tab.get? e.pln.moves tag with
  | none => e
  | some m =>
    let strip (l : List MDesc) := l.filter fun d => d.tag ≠ tag
    let e := { e with mov := { channels := Tab.mapVals e.mov.channels fun _ c =>
                                { c with high := strip c.high, low := strip c.low } }
                      pln := { e.pln with undealt := strip e.pln.undealt } }
    let busy := (List.range 64).filter fun n => match (e.chan n).cur with | some (d, _) => d.tag == tag | none => false
    let m := { m with cancelled := true, left := busy.length }
    let e := if busy.isEmpty then e.finishMove tag m
      else { e with pln := { e.pln with moves := Tab.put e.pln.moves tag m } }
    e.redeal

/-- Asks the engine of this rank in the other flutter for a session (R234). -/
def Eng.askMigration (e : Eng) (o : Order) : Eng :=
  let e := e.reserveFrames o.tag (e.orderModel o.tag) (max o.resEnd o.kvLen)
  let e := { e with pln := { e.pln with moves := Tab.put e.pln.moves o.tag { order := o, tier := 2, started := e.now } } }
  e.send (.twin (layout 64 [(0, 1, 0x30), (4, 4, o.tag), (8, 4, e.twm.term), (12, 4, e.img.rank)]))

/-- Copies the first groups of a session into shared frames: T0 while the prefix part has room, else T1 (R232). The order
counts the prefix's groups, each of PAGES16 pages on this chip (log entry 130). -/
def Eng.copyPrefix (e : Eng) (o : Order) : Eng :=
  let id := o.prefixId % 65536
  let n := o.prefixId / 65536 * e.pages16 (e.orderModel o.tag)
  let e := { e with pln := { e.pln with shared := Tab.del e.pln.shared id, sharedT0 := Tab.del e.pln.sharedT0 id } }
  let room := e.img.layout.t0Prefix - sumN (Tab.vals e.pln.sharedT0)
  let t0 := decide (n ≤ room)
  let e := if t0 then { e with pln := { e.pln with sharedT0 := Tab.put e.pln.sharedT0 id n } }
    else { e with pln := { e.pln with shared := Tab.put e.pln.shared id (e.takeFrames n) } }
  e.startMove { order := o, tier := if t0 then 1 else 2 }
    { op := 1, dst := if t0 then 1 else 2, src := 2, count := 0, tag := o.tag, first := 0, high := false, freeSrc := false,
      last := false, target := 0xFFFF, ext := 0, seq := o.seq } 0 n

/-- Issues an order on this chip. KIND and TIER are those of Table 9-6. -/
def Eng.issueOrder (e : Eng) (o : Order) : Eng :=
  let r := e.chipRec o.tag
  match o.kind with
  | 1 | 4 => e.copyOut o (if o.tier = 3 then [3, 4] else [4]) 2
  | 2 | 5 => e.copyIn o
  | 3 =>
    match o.tier with
    | 2 => (e.setRec { r with t0Pages := 0, dec := none }).reportMove o.tag o.seq o.kvLen 2 0
    | 0 =>
      let e := if r.t2Len ≠ 0 then e.freeExtent r.t2Target r.t2Ext else e
      let e := if r.t3Len ≠ 0 then e.freeExtent r.t3Target r.t3Ext else e
      let e := (e.setRec { r with t2Len := 0, t3Len := 0, t1Len := 0, base := 0 }).freeFrames o.tag
      (e.bump Reg.PLN_MOVES 15 0 1).reportMove o.tag o.seq 0 0 0
    | t => e.copyOut o (if t = 3 then [3, 4] else [4]) (if r.resPages = 0 then 3 else 2)
  | 6 => e.freeSession o.tag
  | 7 => e.cancelMove o.tag
  | 8 => (e.shrinkFrames o.tag o.resEnd).reserveFrames o.tag (e.orderModel o.tag) o.resEnd
  | 9 => e.copyPrefix o
  | 10 => e.askMigration o
  | _ => e

/-- Holds a time of an order: the held times stay in time order (R228). -/
def Eng.holdOrder (e : Eng) (at_ : Nat) (o : Order) : Eng :=
  let held := insertBy (fun a b => decide (a.1 < b.1)) (at_, o) e.pln.held
  { e with pln := { e.pln with held := held, onDie := min held.length (max e.pln.onDie 4096) } }

def Eng.resTokens (e : Eng) : Nat := e.param 0x0801
def Eng.chunkMax (e : Eng) : Nat := e.param 0x0600
def Eng.rank16 (e : Eng) (m r : Nat) : Nat := (e.model m).pages16.getD r 0

/-- The growth reserve of rank `r`: that of the resident model with the most shards there (log entry 39). -/
def Eng.growthOf (e : Eng) (r : Nat) : Nat :=
  (16384 + e.chunkMax / 16) * max0 ((Tab.keys e.img.models).map fun m => e.rank16 m r)

/-- The reservation end that a predicted eclosion takes (R216): the POSITION of a YIELDED session is its KV_LENGTH + 1. -/
def Eng.eclEnd (e : Eng) (o : Order) : Nat := min (o.kvLen + 1 + e.resTokens) (e.model (e.orderModel o.tag)).context

/-- This chip can reserve frames for positions up to `r` without falling below its growth reserve (R216). -/
def Eng.chipRoom (e : Eng) (tag r : Nat) : Bool :=
  let held := (e.chipRec tag).resPages
  decide (groups r * e.rank16 (e.orderModel tag) e.img.rank + e.growthOf e.img.rank ≤ e.framesFree + held)

/-- Takes a held time from the list. -/
def Eng.unhold (e : Eng) (h : Nat × Order) : Eng :=
  { e with pln := { e.pln with held := e.pln.held.erase h, onDie := e.pln.onDie - 1 } }

/-- This chip issues the order of a held time; a predicted eclosion that finds T1 full is left to the Lead, which orders it
when frames come free (R216; log entry 78). -/
def Eng.issueDue (e : Eng) (h : Nat × Order) : Eng :=
  let e := e.unhold h
  if h.2.kind = 2 then
    let o := { h.2 with resEnd := e.eclEnd h.2 }
    if e.chipRoom o.tag o.resEnd then e.issueOrder o else e
  else e.issueOrder h.2

/-- An engine accepts an order: it issues it at once or at AT, and holds ECL_AT (R227, R228). -/
def Eng.acceptOrder (e : Eng) (o : Order) : Eng :=
  let e := e.clampRec o.tag (if o.kind = 6 ∨ o.kind = 7 ∨ o.kind = 9 ∨ o.kind = 10 then 2 ^ 32 else o.kvLen)
  let e := if o.kind ≠ 2 then e else { e with pln := { e.pln with held := e.pln.held.filter fun h => h.2.tag ≠ o.tag } }
  let e := if o.at_ ≤ e.now then e.issueOrder o else e.holdOrder o.at_ o
  if o.kind = 1 ∧ o.eclAt ≠ 0 then e.holdOrder o.eclAt { o with kind := 2, tier := 2, at_ := o.eclAt, eclAt := 0 } else e

/-- The bytes of an order (Table 9-6), and back. -/
def Order.bytes (o : Order) : Bytes :=
  withCrc (layout 60 [(0, 1, o.kind), (1, 1, o.tier), (4, 4, o.tag), (8, 4, o.kvLen), (12, 4, o.resEnd), (16, 8, o.at_),
    (24, 8, o.eclAt), (32, 4, o.seq), (36, 4, o.prefixId)])

def Order.parse (b : Bytes) : Option Order :=
  if b.length = 64 ∧ crcOk b 64 = true then
    some { kind := u8 b 0, tier := u8 b 1, tag := u32 b 4, kvLen := u32 b 8, resEnd := u32 b 12, at_ := u64 b 16,
           eclAt := u64 b 24, seq := u32 b 32, prefixId := u32 b 36 }
  else none

/-- An order of kind `k` reaches this engine: it is handed on and accepted (R227). -/
def Eng.orderIn (e : Eng) (k : Nat) (b : Bytes) : Eng :=
  match Order.parse b with
  | none => e
  | some o => if o.kind = k then (e.down 0x20 b).acceptOrder o else e

/-- The earliest time in the HBM calendar is loaded on die (R228). -/
def Eng.loadCalendar (e : Eng) : Eng :=
  if e.pln.onDie < e.pln.held.length ∧ e.pln.onDie < 4096 then { e with pln := { e.pln with onDie := e.pln.onDie + 1 } } else e

/-! ## Failures on this chip (R236, R237) -/

/-- The last T2 target is gone: the pins to T2 are overruled (R231; cause 1). -/
def Eng.lostTier (e : Eng) : Eng :=
  if !e.isLead || e.img.targets.any fun t => t.2.tier == 3 && (e.tgt t.1).up then e
  else (Tab.vals e.pln.chrys).foldl (fun e c =>
    if c.pinTier = some 2 ∧ ((e.find c.tag).map Entry.pin).getD false = true
    then (e.bump Reg.PLN_PINS 31 16 1).raise 0x83 0 c.tag [(16, 1, 2), (17, 1, 1)] else e) e

/-- Takes a session's move off the channels. -/
def Eng.stripMove (e : Eng) (tag : Nat) : Eng :=
  let strip (l : List MDesc) := l.filter fun d => d.tag ≠ tag
  let drop_ (c : Channel) : Channel :=
    { c with high := strip c.high, low := strip c.low, cur := c.cur.filter fun x => x.1.tag != tag }
  let e := { e with mov := { channels := Tab.mapVals e.mov.channels fun _ c => drop_ c } }
  { e with pln := { e.pln with moves := Tab.del e.pln.moves tag, undealt := strip e.pln.undealt } }

/-- The lengths that a session held on target `t` are 0 now (R236). A move that read from it ends, with what stays valid; a
session with no move in flight whose valid length fell reports it, with the tier that was lost. -/
def Eng.loseCopies (e : Eng) (t : Nat) (r : ChipRec) : Eng :=
  let r' := { r with t2Len := if r.t2Target = t then 0 else r.t2Len, t3Len := if r.t3Target = t then 0 else r.t3Len }
  if r' = r then e
  else
    let lost := if r.t2Target = t ∧ r.t2Len ≠ 0 then 3 else 4
    let kv := max r.t1Len (max r.t2Len r.t3Len)
    let e := e.setRec r'
    match Tab.get? e.pln.moves r.tag with
    | none => if (r'.valid kv).1 < kv then e.reportMove r.tag 0xFFFFFFFF (r'.valid kv).1 lost 2 else e
    | some m =>
      if m.tier = 4 ∧ r.resPages = 0 ∧ lost = 3 ∧ m.order.kind = 3 then
        (e.stripMove r.tag).finishMove r.tag { m with lostAt := some 0 }
      else e

/-- A far target fails: it leaves R220, and every length held on it becomes 0. `cause`: 0 legs, 1 connection, 2 NVMe. -/
def Eng.failTarget (e : Eng) (t cause : Nat) : Eng :=
  if !(e.tgt t).up then e
  else
    let e := (e.setTgt t { e.tgt t with up := false }).noteRetired.raise 0x80 2 0 [(16, 2, t), (18, 1, cause)]
    let e := if ((Tab.get? e.img.targets t).map (·.tier)).getD 0 = 3 then e.lostTier else e
    (Tab.vals e.pln.recs).foldl (fun e r => e.loseCopies t r) e

/-- A leg of a target fails; the fourth within 1 s fails the target. -/
def Eng.legFailed (e : Eng) (t : Nat) : Eng :=
  if t = 0xFFFF then e
  else
    let x := e.tgt t
    let fails := (e.now :: x.fails).filter fun a => decide (e.now < a + 1000000000)
    let e := (e.setTgt t { x with fails := fails }).bump (Reg.PLN_TGT_STATE t) 15 0 1
    if 4 ≤ fails.length then e.failTarget t 0 else e

/-- A move on a failed target starts again on the target R220 then chooses (R229). -/
def Eng.restartMoves (e : Eng) (t : Nat) : Eng :=
  ((e.pln.moves.filter fun m => m.2.target == t && m.2.order.kind ≠ 2 && m.2.order.kind ≠ 5)).foldl (fun e (tag, m) =>
    (List.range 64).foldl Eng.pump ((e.stripMove tag).issueOrder m.order)) e

/-- Page `i` of a session's move is lost (R237, R241): another far copy that covers it serves it, else the length ends at
its group. -/
def Eng.pageLost (e : Eng) (tag i : Nat) (d : MDesc) : Eng :=
  let r := e.chipRec tag
  let start := e.pageStart r i
  match Tab.get? e.pln.moves tag with
  | none => e
  | some m =>
    if d.dst = 2 ∧ d.src = 3 ∧ min (start + 16) m.order.kvLen ≤ r.t3Len then
      let e := e.setRec { r with t2Len := min r.t2Len start }
      let m := { m with left := m.left + 1 }
      { e with pln := { e.pln with moves := Tab.put e.pln.moves tag m } }.deal
        { d with src := 4, first := i, count := 1, target := r.t3Target, ext := r.t3Ext }
    else
      let r := if d.src = 3 then { r with t2Len := min r.t2Len start }
        else if d.dst = 2 ∧ d.src = 4 then { r with t3Len := min r.t3Len start } else r
      let m := { m with lostAt := some (minO start m.lostAt) }
      { e.setRec r with pln := { (e.setRec r).pln with moves := Tab.put e.pln.moves tag m } }

/-- The page in hand of channel `n` is finished: the next one starts, or the descriptor, or the move, ends. A descriptor's
end leaves a MOVE trace record (13 R366; log entry 73). -/
def Eng.nextPage (e : Eng) (n : Nat) (d : MDesc) (k : Nat) : Eng :=
  let c := e.chan n
  match Tab.get? e.pln.moves d.tag with
  | none => (e.setChan n { c with cur := none }).pump n
  | some m =>
    if k + 1 < d.count ∧ !m.cancelled then
      (e.setChan n { c with cur := some (d, k + 1), retriedLeg := false }).startLeg n d (k + 1)
    else
      let e := e.setChan n { c with cur := none, retriedLeg := false }
      let e := e.trace 8 11 [(8, 4, d.tag), (12, 1, min 10 m.order.kind), (13, 1, n), (14, 2, d.count)]
      let m := { m with left := m.left - 1 }
      let e := { e with pln := { e.pln with moves := Tab.put e.pln.moves d.tag m } }
      ((if m.left = 0 then e.finishMove d.tag m else e).pump n).redeal

/-- The current page of channel `n` is invalid: `cause` 0 CRC, 1 leg. -/
def Eng.pageInvalid (e : Eng) (n : Nat) (d : MDesc) (k cause : Nat) : Eng :=
  let e := (e.bump (Reg.MOV_CH_ERRORS n) 15 0 1).raise 0x91 1 d.tag [(16, 1, n), (17, 1, cause), (18, 2, d.target)]
  let e := e.pageLost d.tag (d.first + k) d
  let e := if cause = 1 then e.legFailed d.target else e
  let e := match (e.chan n).cur with
    | some _ => e.nextPage n d k
    | none => e
  if d.target ≠ 0xFFFF ∧ !(e.tgt d.target).up then e.restartMoves d.target else e

/-- A channel fails its own checks: it is retired and its work is dealt to the others (R242, R27). -/
def Eng.retireChannel (e : Eng) (n : Nat) : Eng :=
  let c := e.chan n
  if c.retired then e
  else
    let cur := match c.cur with
      | some (d, k) => [{ d with first := d.first + k, count := d.count - k }]
      | none => []
    let e := (e.setChan n { c with retired := true, cur := none, high := [], low := [] }).noteRetired
    let left := e.workingChannels.length
    let e := e.raise 0x90 2 0 [(16, 1, n), (17, 1, left)]
    let e := (cur ++ c.high ++ c.low).foldl Eng.deal e
    if left = 0 then e.declareFailed else e

/-- A page leg of channel `n` completes (R241, R242): whether the leg succeeded, the page's CRC as it passed, and how the
checks of the channel and of its descriptor went. A descriptor that fails CHECK is fetched again once. -/
def Eng.legDone (e : Eng) (n : Nat) (ok : Bool) (crc : Nat) (chk : MovCheck) : Eng :=
  let c := e.chan n
  match c.cur, chk with
  | _, .channel => e.retireChannel n
  | none, _ => e
  | some (d, k), .descriptor =>
    if c.refetched then e.retireChannel n else (e.setChan n { c with refetched := true }).startLeg n d k
  | some (d, k), .held =>
    if !ok then
      if !c.retriedLeg then
        ((e.setChan n { c with retriedLeg := true }).bump (Reg.MOV_CH_ERRORS n) 31 16 1).startLeg n d k
      else e.pageInvalid n d k 1
    else
      let r := e.chipRec d.tag
      let i := d.first + k
      let e := (e.bump64 (Reg.MOV_CH_PAGES_LO n) 1).bump64 Reg.MOV_BYTES_LO 32768
      let e := (e.occur 0x0B 1 { unit := some n }).count 7 1
      let e := if d.op = 1 then e else e.bump Reg.MOV_MIGRATED 31 0 1
      if (d.src = 3 ∨ d.src = 4 ∨ d.op = 3) ∧ (r.moved.getD i {}).crc ≠ crc then
        (e.bump Reg.MOV_CRC_ERRORS 31 0 1).pageInvalid n d k 0
      else if d.dst = 3 ∨ d.dst = 4 ∨ (d.op = 2 ∧ d.src = 2) then
        (e.setRec (r.modPage i fun p => { p with crc := crc })).nextPage n d k
      else e.nextPage n d k

/-! ## Migration between the flutters of a pair (R234, R235) -/

/-- A migration request of the other flutter's engine of this rank: the pages are read from the fastest tier that holds the
longest copy, and the source then has no use for them (log entry 64). -/
def Eng.takeMigReq (e : Eng) (b : Bytes) : Eng :=
  if b.length ≠ 64 ∨ u8 b 0 ≠ 0x30 ∨ u32 b 12 ≠ e.img.rank then e
  else
    let tag := u32 b 4
    let e := (List.range 64).foldl Eng.pump (e.stripMove tag)
    let r := e.withPrefix (e.chipRec tag)
    let len := max r.t1Len (max r.t2Len r.t3Len)
    if len = 0 then (e.sendMig r.joinPrefix 0).freeSession tag
    else
      let src := if r.t1Len = len then 2 else if r.t2Len = len then 3 else 4
      (e.setRec r).startMove { order := { kind := 11, tier := 2, tag := tag, kvLen := len }, tier := 2 }
        { op := 2, dst := 0, src := src, count := 0, tag := tag, first := 0, high := true, freeSrc := true, last := false,
          target := if src = 3 then r.t2Target else if src = 4 then r.t3Target else 0xFFFF,
          ext := if src = 3 then r.t2Ext else if src = 4 then r.t3Ext else 0, seq := 0xFFFFFFFF }
        0 (groups len * e.pages16 r.model)

/-- A migration that this chip asked for and that has not begun. -/
def Eng.awaitedMig (e : Eng) (tag : Nat) : Option ChipMove :=
  (Tab.get? e.pln.moves tag).filter fun m => m.order.kind == 10 && m.left == 0

/-- Bytes of a page, and of a page with its CRC as MIG_DATA carries it. -/
def pageSize : Nat := 32768

/-- Migration data arrives: MOV writes the pages into the reserved frames and checks each CRC. -/
def Eng.takeMigData (e : Eng) (b : Bytes) : Eng :=
  let tag := u32 b 4
  match e.awaitedMig tag with
  | none => e
  | some m =>
    if u8 b 0 ≠ 0x31 ∨ u32 b 12 ≠ e.img.rank then e
    else
      let r := e.chipRec tag
      let c := slice b 64 64
      let sent := min (u32 b 8) ((b.length - 128) / (pageSize + 4))
      let held := if crcOk c 64 && u32 c 0 == tag then max (u32 c 8) (max (u32 c 12) (u32 c 16)) else 0
      let len := min held (16 * (sent / max 1 (e.pages16 r.model)))
      let n := min (e.pagesFor r len) r.pages.length
      let pages := ((List.range n).map fun i =>
        { r.pages.getD i {} with crc := u32 b (128 + (pageSize + 4) * i + pageSize) }) ++ r.pages.drop n
      (e.setRec { r with pages := pages }).startMove { m with order := { m.order with kvLen := len } }
        { op := 3, dst := 2, src := 0, count := 0, tag := tag, first := 0, high := true, freeSrc := false, last := false,
          target := 0xFFFF, ext := 0, seq := m.order.seq } 0 n

/-- The source has not answered in time: the length received is 0 (R235). -/
def Eng.migLate (e : Eng) (tag : Nat) : Eng :=
  match e.awaitedMig tag with
  | none => e
  | some m => e.finishMove tag { m with order := { m.order with kvLen := 0 } }

/-! ## Stack loss (R237) -/

/-- The runs of consecutive numbers of an ascending list: first and count. -/
def runsOf : List Nat → List (Nat × Nat)
  | [] => []
  | i :: l =>
    match runsOf l with
    | (j, n) :: rs => if j = i + 1 then (i, n + 1) :: rs else (i, 1) :: (j, n) :: rs
    | [] => [(i, 1)]

/-- Deals the pages `t2` from the session's T2 copy and `t3` from its T3 copy as a part of move `m`. -/
def Eng.dealRefill (e : Eng) (m : ChipMove) (t2 t3 : List Nat) : Eng :=
  let r := e.chipRec m.order.tag
  let part (src target ext : Nat) (l : List Nat) : List MDesc :=
    let d : MDesc := { op := 1, dst := 2, src := src, count := 0, tag := r.tag, first := 0, high := true, freeSrc := false,
                       last := false, target := target, ext := ext, list := r.list, seq := m.order.seq }
    (runsOf l).flatMap fun p => splitPages d p.1 (p.2 / 64 + 1) p.2
  let ds := (part 3 r.t2Target r.t2Ext t2 ++ part 4 r.t3Target r.t3Ext t3).map fun d => { d with last := false }
  let ds := ds.modify (ds.length - 1) fun d => { d with last := true }
  ds.foldl Eng.deal { e with pln := { e.pln with moves := Tab.put e.pln.moves r.tag { m with left := m.left + ds.length } } }

/-- The pages `lost` of a session's list have lost their frames, which are taken anew (R237). Those that a far copy covers are
refilled from it, as an eclosion move; the valid length ends at the first group that none covers. A move into T1 in flight
takes the refill over; one out of T1 cannot be whole any more. -/
def Eng.refillLost (e : Eng) (r : ChipRec) (lost : List Nat) : Eng :=
  let mv := Tab.get? e.pln.moves r.tag
  let into := match mv with | some m => m.order.kind == 2 || m.order.kind == 5 || m.order.kind == 10 | none => true
  let kv := match mv with | some m => if into then m.order.kvLen else r.t1Len | none => r.t1Len
  let start (i : Nat) : Nat := e.pageStart r i
  let used := lost.filter fun i => decide (start i < kv)
  let on (len i : Nat) : Bool := decide (min (start i + 16) kv ≤ len)
  let valid := minD kv ((used.filter fun i => !on r.t2Len i && !on r.t3Len i).map start)
  let back := used.filter fun i => decide (start i < valid)
  let e := e.setRec { r with t1Len := min r.t1Len (minD kv (used.map start)) }
  let e := e.reserveFrames r.tag r.model (16 * (r.base + r.pages.length / max 1 (e.pages16 r.model)))
  let t2 := back.filter (on r.t2Len)
  let t3 := back.filter fun i => !on r.t2Len i
  match mv with
  | none =>
    let e := if valid < kv then e.reportMove r.tag 0xFFFFFFFF valid 2 2 else e
    if back.isEmpty then e
    else
      let o : Order := { kind := 5, tier := 2, tag := r.tag, kvLen := valid, resEnd := valid, seq := 0xFFFFFFFF }
      e.dealRefill { order := o, tier := 2, before := (e.chipRec r.tag).t1Len, started := e.now } t2 t3
  | some m =>
    if into then e.dealRefill { m with lostAt := if valid < kv then some (minO valid m.lostAt) else m.lostAt } t2 t3
    else if used.isEmpty then e
    else
      let m := { m with lostAt := some (minO (minD kv (used.map start)) m.lostAt) }
      { e with pln := { e.pln with moves := Tab.put e.pln.moves r.tag m } }

/-- The first position of a learned prefix whose shared frame on this chip is lost; none where all are there. -/
def Eng.prefixLost (e : Eng) (r : ChipRec) : Option Nat :=
  if r.base = 0 then none
  else ((Tab.getD e.pln.shared r.prefixId []).findIdx? fun f => !e.frameUp f).map fun j => 16 * (j / max 1 (e.pages16 r.model))

/-- A session lost T1 pages with a stack. A page of its attached prefix has no far copy (log entry 131). -/
def Eng.loseFrames (e : Eng) (r : ChipRec) : Eng :=
  let gone (p : Page) : Bool := match p.frame with | some f => !e.frameUp f | none => false
  match e.prefixLost r with
  | some v =>
    if r.t1Len ≤ v then e else (e.setRec { r with t1Len := v }).reportMove r.tag 0xFFFFFFFF v 2 2
  | none =>
    let lost := (List.range r.pages.length).filter fun i => gone (r.pages.getD i {})
    if lost.isEmpty then e
    else
      let pages := r.pages.map fun p => if gone p then { p with frame := none } else p
      e.refillLost { r with pages := pages } lost

/-- A stack fails: its frames are retired, a copy of the placement tables on it is lost (R210; log entry 132), and each
session with a lost page is refilled from a far copy that covers it or has its length lowered (R237). -/
def Eng.loseStack (e : Eng) (s : Nat) : Eng :=
  if e.pln.deadStacks.contains s then e
  else
    let e := { e with pln := { e.pln with deadStacks := s :: e.pln.deadStacks
                                          plcAOk := e.pln.plcAOk && decide (s ≠ e.img.layout.plcA)
                                          plcBOk := e.pln.plcBOk && decide (s ≠ e.img.layout.plcB) } }
    let e := (Tab.vals e.pln.recs).foldl Eng.loseFrames e
    let gone := (e.pln.shared.filter fun p => p.2.any fun f => !e.frameUp f).map Prod.fst
    let e := { e with pln := { e.pln with
      shared := e.pln.shared.filter fun p => !gone.contains p.1
      library := e.pln.library.map fun (p : Nat × Prefix) => if gone.contains p.1 then (p.1, { p.2 with resident := false }) else p } }
    e.noteRetired.reportMove 0 0xFFFFFFFF 0 2 0

end Sys2Proof.Machine
end

