-- ==== Sys2Proof/Machine/PlaceLead.lean ====
section
/-! DEFINITION. The Lead's placement decisions: composition keys, TTLs, reservations, orders and their completion, pressure
and spills, wait records and the decision at a yield, pins, learned prefixes (09 R212 to R218, R221 to R237). -/

namespace Sys2Proof.Machine

/-! ## Composition keys (05 R105) -/

/-- The key's LS component [65,536 ns]. -/
def lsUnits : Option Int → Nat
  | none => 2 ^ 48 - 1
  | some l => if l < 0 then 0 else min (l.toNat / 65536) (2 ^ 48 - 1)

/-- The composition key of a candidate. -/
def Eng.keyOf (e : Eng) (x : Entry) : Key :=
  { kind := 2 - e.kindOf x.dclass, ls := lsUnits (e.latest x), share := (e.tst x.tenant).share,
    tIn := (e.turnOf x).tIn, tag := x.tag }

/-- `a` comes before `b` (Table 5-1). -/
def Key.lt (a b : Key) : Bool :=
  if a.kind ≠ b.kind then decide (a.kind < b.kind)
  else if a.ls ≠ b.ls then decide (a.ls < b.ls)
  else if a.share ≠ b.share then decide (a.share < b.share)
  else if a.tIn ≠ b.tIn then decide (a.tIn < b.tIn)
  else decide (a.tag < b.tag)

/-- Entries in key order. -/
def Eng.inKeyOrder (e : Eng) (l : List Entry) : List Entry :=
  (sortBy (fun a b => !(Key.lt b.1 a.1)) (l.map fun x => (e.keyOf x, x))).map Prod.snd

/-! ## Chrysalis descriptors (R212) -/

def Eng.chr (e : Eng) (tag : Nat) : Chrys := (Tab.get? e.pln.chrys tag).getD { tag := tag }
/-- Changes a session's chrysalis descriptor, if it has one. -/
def Eng.modChr (e : Eng) (tag : Nat) (f : Chrys → Chrys) : Eng :=
  if (Tab.get? e.pln.chrys tag).isSome then { e with pln := { e.pln with chrys := Tab.put e.pln.chrys tag (f (e.chr tag)) } }
  else e
/-- Gives a session a chrysalis descriptor at its first entry into T1 (R212; the address is log entry 37). -/
def Eng.makeChr (e : Eng) (tag : Nat) : Eng :=
  if (e.chr tag).made then e
  else
    let e := { e with pln := { e.pln with chrys := Tab.put e.pln.chrys tag { e.chr tag with made := true } } }
    e.modEntry tag fun x => { x with chrys := e.img.layout.plcA / 64 + 1 + tagIndex tag }

/-! ## TTLs (R214) -/

/-- The TTL of a session in tier code `res` [ns]; 0 never expires. -/
def Eng.ttlNs (e : Eng) (x : Entry) (res : Nat) : Nat :=
  if res = 0 then 0 else e.paramAt 0x0800 ((e.tcfg x.tenant).tclass * 4 + (res - 1)) * 1000000

/-- The entry with TTL_EXP from now on; a predicted pupation keeps its own times (R226). -/
def Eng.withTtl (e : Eng) (x : Entry) : Entry :=
  let ttl := e.ttlNs x x.residency
  if x.eclStart ≠ 0 then x else { x with ttlExp := if ttl = 0 then 0 else actTime (e.now + ttl) }

/-- LAST_ACT is now (03 R59). -/
def Eng.touched (e : Eng) (x : Entry) : Entry := e.withTtl { x with lastAct := actTime e.now }

/-! ## The Lead's accounting (R216, R217) -/

/-- T1 frame total of rank `r` as last reported; until a report, as this chip's own (log entry 38). -/
def Eng.totalOf (e : Eng) (r : Nat) : Nat :=
  if r = e.img.rank then e.framesTotal else Tab.getD e.pln.chipTotal r e.framesTotal

/-- Pages of a learned prefix: its groups of 16 positions. -/
def Eng.prefixPages (e : Eng) (id : Nat) : Nat := ((Tab.get? e.pln.library id).map Prefix.pages).getD 0

/-- Frames of rank `r` that a session's reservation up to `resEnd` takes: those of an attached prefix are shared (R209). -/
def Eng.framesOf (e : Eng) (x : Entry) (resEnd r : Nat) : Nat :=
  (groups resEnd - (if x.prefixOn then e.prefixPages x.prefixId else 0)) * e.rank16 x.model r

/-- Frames of rank `r` that learned prefixes share: this chip's, or, for another, those of the prefixes that it reported in
T1. -/
def Eng.sharedOf (e : Eng) (r : Nat) : Nat :=
  if r = e.img.rank then ((Tab.vals e.pln.shared).flatten.filter e.frameUp).length
  else sumN ((Tab.vals e.pln.library).map fun p => if p.inT1.contains r then p.pages * e.rank16 p.model r else 0)

/-- Frames that rank `r` holds for sessions and shared prefixes (R216). -/
def Eng.usedOf (e : Eng) (r : Nat) : Nat :=
  sumN ((Tab.vals e.pln.chrys).map fun c =>
    match e.find c.tag with
    | some x => e.framesOf x c.resEnd r
    | none => 0) + e.sharedOf r

def Eng.freeOf (e : Eng) (r : Nat) : Nat := e.totalOf r - e.usedOf r

def Eng.ranks (e : Eng) : List Nat := List.range e.img.n

/-- Sessions resident in T0 or T1. -/
def Eng.residents (e : Eng) : Nat := (e.live.filter fun x => x.residency == 1 || x.residency == 2).length

def Eng.resEndOf (e : Eng) (x : Entry) : Nat := min (x.position + e.resTokens) (e.model x.model).context

/-- The session may enter T1 (R216). -/
def Eng.canEnter (e : Eng) (x : Entry) : Bool :=
  decide (e.residents < 262144) &&
    e.ranks.all fun r => decide (e.framesOf x (e.resEndOf x) r + e.growthOf r ≤ e.freeOf r)

/-! ## Orders -/

/-- The Lead sends an order down the tree and takes it itself (R227). -/
def Eng.order (e : Eng) (kind tier tag : Nat) (resEnd : Nat := 0) (at_ : Nat := 0) (eclAt : Nat := 0)
    (prefixId : Nat := 0) : Eng :=
  let o : Order := { kind := kind, tier := tier, tag := tag, kvLen := ((e.find tag).map Entry.kvLen).getD 0,
                     resEnd := resEnd, at_ := at_, eclAt := eclAt, seq := e.pln.seq, prefixId := prefixId }
  let tracked := [1, 2, 3, 4, 5, 9, 10].contains kind
  let moves := if tracked then e.pln.leadMoves ++ [{ order := o, since := e.now }] else e.pln.leadMoves
  let e := { e with pln := { e.pln with seq := (e.pln.seq + 1) % 2 ^ 32, leadMoves := moves } }
  let e := if tracked && kind != 9 && decide (at_ ≤ e.now) then e.modEntry tag fun x => { x with moving := true } else e
  (e.down 0x20 o.bytes).acceptOrder o

/-- The move of a session at the Lead, if one is tracked. -/
def Eng.leadMove (e : Eng) (tag : Nat) : Option LeadMove :=
  e.pln.leadMoves.find? fun m => m.order.tag == tag && m.order.kind != 9

/-- Drops the Lead's track of a session's moves. -/
def Eng.dropLeadMove (e : Eng) (tag : Nat) : Eng :=
  { e with pln := { e.pln with leadMoves := e.pln.leadMoves.filter fun m => m.order.tag ≠ tag || m.order.kind == 9 } }

/-- Brings a session with RESIDENCY NONE into T1 by reservation alone (R216). -/
def Eng.reserveNow (e : Eng) (x : Entry) : Eng :=
  let r := e.resEndOf x
  let e := (e.makeChr x.tag).modChr x.tag fun c => { c with resEnd := r }
  let e := e.order 8 2 x.tag r
  e.modEntry x.tag fun x => e.withTtl { x with residency := 2, tierCopy := if x.kvLen = 0 then x.tierCopy else x.tierCopy ||| 2 }

/-- Starts a session's eclosion at once. -/
def Eng.eclose (e : Eng) (x : Entry) (kind : Nat) : Eng :=
  let r := e.resEndOf x
  let e := e.modChr x.tag fun c => { c with resEnd := r, eclWaits := false }
  e.order kind 2 x.tag r

/-- A held time has come (R228). The Lead follows the move that its own chip begins: MOVE_IN_FLIGHT is set from the issue,
and a predicted eclosion that finds T1 full waits (R216). -/
def Eng.leadIssue (e : Eng) (h : Nat × Order) : Eng :=
  let o := h.2
  match if e.isLead then e.find o.tag else none with
  | none => e.issueDue h
  | some x =>
    let set (e : Eng) : Eng := e.modEntry x.tag fun x => { x with moving := true }
    if o.kind ≠ 2 then (if (e.leadMove o.tag).isSome then set e else e).issueDue h
    else if e.canEnter x then
      let r := e.resEndOf x
      let e := e.modChr x.tag fun c => { c with resEnd := r }
      let m : LeadMove := { order := { o with resEnd := r }, since := e.now }
      (set { e with pln := { e.pln with leadMoves := e.pln.leadMoves ++ [m] } }).issueDue h
    else (e.unhold h).modChr x.tag fun c => { c with eclWaits := true }

/-- The held time of a session on die is reached (R228). An eclosion follows the move of the session that still runs. -/
def Eng.orderDue (e : Eng) (tag : Nat) : Eng :=
  match (e.pln.held.take e.pln.onDie).find? fun h => h.2.tag == tag with
  | none => e
  | some h =>
    if e.now < h.1 then e
    else if h.2.kind = 2 ∧ ((Tab.get? e.pln.moves tag).isSome ∨ (e.leadMove tag).isSome) then
      { e with pln := { e.pln with due := tag :: e.pln.due.filter (· ≠ tag) } }
    else e.leadIssue h

/-- Eclosions whose time came during a move begin when it has ended. -/
def Eng.settleDue (e : Eng) : Eng :=
  let go := e.pln.due.filter fun t => (Tab.get? e.pln.moves t).isNone && (e.leadMove t).isNone
  go.foldl Eng.orderDue { e with pln := { e.pln with due := e.pln.due.filter fun t => !go.contains t } }

/-- Brings the sessions that wait for T1 in, first composition key first (R216, R218). A session there whose frames beyond its
KV_LENGTH a rebuild freed reserves them anew for its next turn (log entry 135). -/
def Eng.placeWaiting (e : Eng) : Eng :=
  let waits (x : Entry) : Bool := !x.moving && x.state == .queued && x.residency != 1 && x.residency != 2
  let spilled (x : Entry) : Bool :=
    (e.chr x.tag).spilled && (e.leadMove x.tag).isNone && x.state != .closing && x.state != .held
  let late (x : Entry) : Bool := !x.moving && x.state == .yielded && (e.chr x.tag).eclWaits
  let cut (x : Entry) : Bool := !x.moving && x.state == .queued && (x.residency == 1 || x.residency == 2)
    && (e.chr x.tag).made && decide ((e.chr x.tag).resEnd ≤ x.kvLen)
  let byStart := sortBy (fun (a b : Entry) => decide (a.eclStart ≤ b.eclStart)) (e.live.filter late)
  (e.inKeyOrder (e.live.filter fun x => waits x || spilled x || cut x) ++ byStart).foldl (fun e x =>
    if !e.canEnter x then e
    else if (e.chr x.tag).spilled then e.eclose x 5
    else if x.residency = 1 ∨ x.residency = 2 then
      (e.modChr x.tag fun c => { c with resEnd := e.resEndOf x }).order 8 2 x.tag (e.resEndOf x)
    else if x.residency = 0 then e.reserveNow x
    else e.eclose x 2) e

/-! ## Pins (R230, R231) -/

def Eng.pinsOf (e : Eng) (t : Nat) : Nat := (e.live.filter fun x => x.pin && x.tenant == t).length
def Eng.pinsInForce (e : Eng) : Nat := (e.live.filter Entry.pin).length

/-- Ends a session's pin. -/
def Eng.unpin (e : Eng) (tag : Nat) : Eng :=
  (e.modEntry tag fun x => { x with pin := false }).modChr tag fun c => { c with pinTier := none, pinExp := 0 }

/-- Overrules a pin: `cause` 0 pressure, 1 no target, 2 stack loss. -/
def Eng.overrule (e : Eng) (x : Entry) (cause : Nat) : Eng :=
  if !x.pin then e
  else (e.bump Reg.PLN_PINS 31 16 1).raise 0x83 0 x.tag [(16, 1, (e.chr x.tag).pinTier.getD 0xFF), (17, 1, cause)]

/-- A tier (code 3 T2, 4 T3) has a target that is UP. -/
def Eng.hasTarget (e : Eng) (tier : Nat) : Bool :=
  e.img.targets.any fun t => t.2.tier == tier && (e.tgt t.1).up

/-- The tier code that a demotion step from `res` reaches: tiers without a target are skipped (R214). -/
def Eng.stepDown (e : Eng) (res : Nat) : Nat :=
  if res = 1 then 2
  else if res = 2 ∧ e.hasTarget 3 = true then 3
  else if res ≤ 3 ∧ e.hasTarget 4 = true then 4
  else 0

/-- A step to tier code `down` passes below the pin in force. -/
def Eng.belowPin (e : Eng) (x : Entry) (down : Nat) : Bool :=
  x.pin && match (e.chr x.tag).pinTier with
    | some p => decide (down = 0 ∨ p + 1 < down)
    | none => false

/-! ## Pressure and spills (R217, R218) -/

/-- A session whose pages are leaving T1 on order. -/
def Eng.leaving (e : Eng) (tag : Nat) : Bool :=
  e.pln.leadMoves.any fun m => m.order.tag == tag && (m.order.kind == 4 || (m.order.kind == 3 && m.order.tier != 2))

/-- Free frames of rank `r` once the demotions and spills under way are done. -/
def Eng.freeSoon (e : Eng) (r : Nat) : Nat :=
  e.freeOf r + sumN ((Tab.vals e.pln.chrys).map fun c =>
    if e.leaving c.tag then match e.find c.tag with
      | some x => e.framesOf x c.resEnd r
      | none => 0
    else 0)

/-- Free frames outside the growth reserve are below `total / d`. -/
def Eng.shortOf (e : Eng) (free r d : Nat) : Bool := decide ((free - e.growthOf r) * d < e.totalOf r)

/-- The session is YIELDED on a local tool: PLN does not pupate it (08 R201). -/
def Eng.waitsLocal (e : Eng) (x : Entry) : Bool :=
  x.state == .yielded && (Tab.vals e.img.tools).any fun l => u16 l.raw 0 == x.toolId && bit (u8 l.raw 3) 0

/-- The victims of R217, in order. -/
def Eng.victims (e : Eng) : List Entry :=
  let t1 := e.live.filter fun x => (x.residency == 1 || x.residency == 2) && !x.moving && !e.isStaged x.tag && !e.waitsLocal x
  let byAct := sortBy (fun (a b : Entry) => decide (a.lastAct < b.lastAct ∨ (a.lastAct = b.lastAct ∧ a.tag ≤ b.tag)))
  let idle := t1.filter fun x => x.state == .idle || x.state == .yielded
  byAct (idle.filter fun x => !x.pin) ++ byAct (idle.filter Entry.pin)
    ++ (e.inKeyOrder (t1.filter fun x => x.state == .queued)).reverse

/-- Spills a session (R218); a pin on it is overruled (R231). -/
def Eng.spill (e : Eng) (x : Entry) : Eng :=
  let e := e.overrule x 0
  let tier := if e.hasTarget 3 then 3 else 4
  let n := e.pln.spillEpoch + 1
  let e := { e with pln := { e.pln with spillEpoch := n } }
  let e := (e.bump Reg.PLN_SPILLS 31 0 1).raiseOnce 0x8400 0x84 1 x.tag [(16, 4, n)]
  (e.modChr x.tag fun c => { c with spilled := true }).order 4 tier x.tag

/-- The sessions that may be spilled, last composition key first. -/
def Eng.spillable (e : Eng) : List Entry :=
  (e.inKeyOrder (e.live.filter fun x => (x.state == .prefill || x.state == .decode) && !x.moving && !e.isStaged x.tag)).reverse

/-- Demotes and spills until every chip will have 1/8 of its frames free. -/
def Eng.relieve (e : Eng) : Eng :=
  let short (e : Eng) : Bool := e.ranks.any fun r => e.shortOf (e.freeSoon r) r 8
  let e := e.victims.foldl (fun e x =>
    if !short e then e
    else
      let down := e.stepDown 2
      (e.overrule x 0).order 3 down x.tag) e
  if e.hasTarget 3 || e.hasTarget 4 then e.spillable.foldl (fun e x => if short e then e.spill x else e) e else e

/-- Notes the chips that enter and leave pressure, and relieves them until every chip has 1/8 of its frames free (R217). -/
def Eng.checkPressure (e : Eng) : Eng :=
  let e := e.ranks.foldl (fun e r =>
    let was := e.pln.pressured.contains r
    if !was && e.shortOf (e.freeOf r) r 16 then
      Eng.raise { e with pln := { e.pln with pressured := r :: e.pln.pressured } } 0x82 1 0
        [(16, 1, r), (17, 1, 1), (20, 4, e.freeOf r)]
    else if was && !e.shortOf (e.freeOf r) r 16 then
      Eng.raise { e with pln := { e.pln with pressured := e.pln.pressured.filter (· ≠ r) } } 0x82 1 0
        [(16, 1, r), (17, 1, 0), (20, 4, e.freeOf r)]
    else e) e
  let on := !e.pln.pressured.isEmpty || (e.pln.relieving && e.ranks.any fun r => e.shortOf (e.freeOf r) r 8)
  let e := { e with pln := { e.pln with relieving := on } }
  if on then e.relieve else e

/-- Extends a session's reservation after a commit, or spills a session where the extension fails (R216, R218). -/
def Eng.extend (e : Eng) (tag : Nat) : Eng :=
  match e.find tag with
  | none => e
  | some x =>
    let c := e.chr tag
    let want := min (c.resEnd + e.resTokens) (e.model x.model).context
    if x.kvLen + e.chunkMax + 8 ≤ c.resEnd ∨ want ≤ c.resEnd ∨ (x.residency ≠ 1 ∧ x.residency ≠ 2) then e
    else if e.ranks.all fun r => decide ((groups want - groups c.resEnd) * e.rank16 x.model r ≤ e.freeOf r) then
      (e.modChr tag fun c => { c with resEnd := want }).order 8 2 tag want
    else match e.spillable with
      | v :: _ => e.spill v
      | [] => e

/-! ## Wait records (R221 to R223) -/

def waitKey (tenant tool : Nat) : Nat := tenant * 65536 + tool
def Eng.waitRec (e : Eng) (k : Nat) : Option WaitRec := Tab.get? e.pln.waits k

/-- The set of a per-tool record: bits [11:0] of the SipHash (log entry 40). -/
def Eng.waitSet (e : Eng) (k : Nat) : Nat :=
  (siphash (BitVec.ofNat 64 e.img.keys.hk0) (BitVec.ofNat 64 e.img.keys.hk1)
    (leBytes 2 (k / 65536) ++ leBytes 2 (k % 65536))).toNat % 4096

/-- The bin of a wait [µs] (R222). -/
def waitBin (us : Nat) : Nat :=
  ((List.range 64).reverse.find? fun b => decide (binEdge b ≤ us)).getD 0

/-- Makes room for a new per-tool record: in a full set the way with the smallest N, then the least recently updated,
gives way. -/
def Eng.waitRoom (e : Eng) (k : Nat) : Eng :=
  if k % 65536 = 0 then e
  else
    let ways := e.pln.waits.filter fun w => decide (w.1 % 65536 ≠ 0) && e.waitSet w.1 == e.waitSet k
    if ways.length < 16 then e
    else
      let better (a b : Nat × WaitRec) : Bool :=
        decide (a.2.n < b.2.n ∨ (a.2.n = b.2.n ∧ (a.2.last < b.2.last ∨
          (a.2.last = b.2.last ∧ Config.wayTie a.1 < Config.wayTie b.1))))
      match ways with
      | [] => e
      | w :: l =>
        let v := l.foldl (fun v a => if better a v then a else v) w
        { e with pln := { e.pln with waits := Tab.del e.pln.waits v.1 } }

/-- Adds an observed wait to a record. -/
def Eng.observeIn (e : Eng) (k us : Nat) : Eng :=
  let e := if (e.waitRec k).isSome then e else e.waitRoom k
  let r := (e.waitRec k).getD {}
  let b := waitBin us
  let r := { r with bins := Tab.put r.bins b (Tab.getD r.bins b 0 + 1), n := r.n + 1, last := e.now }
  { e with pln := { e.pln with waits := Tab.put e.pln.waits k r } }

/-- A record whose N has reached DECAY_N is halved. -/
def Eng.decay (e : Eng) (k : Nat) : Eng :=
  match e.waitRec k with
  | none => e
  | some r =>
    if r.n < e.param 0x0802 then e
    else
      let bins := (Tab.mapVals r.bins fun _ c => c / 2).filter fun p => decide (p.2 ≠ 0)
      { e with pln := { e.pln with waits := Tab.put e.pln.waits k { r with bins := bins, n := sumN (Tab.vals bins) } } }

/-- The first bin at which the cumulative count reaches `t`, and the count before it. -/
def reachBin (bins : Tab Nat) (t : Nat) : Nat → Nat → Nat → Nat × Nat
  | 0, b, before => (b, before)
  | fuel + 1, b, before =>
    let c := Tab.getD bins b 0
    if t ≤ before + c then (b, before) else reachBin bins t fuel (b + 1) (before + c)

/-- q20 of a record (R223). -/
def q20 (r : WaitRec) : Nat :=
  let t := ceilDiv r.n 5
  let (b, before) := reachBin r.bins t 63 0 0
  let c := Tab.getD r.bins b 0
  binEdge b + (binEdge (b + 1) - binEdge b) * (2 * (t - before) - 1) / (2 * max 1 c)

def Eng.ready (e : Eng) (k : Nat) : Option Nat :=
  match e.waitRec k with
  | some r => if e.param 0x0803 ≤ r.n ∧ r.n ≠ 0 then some (q20 r) else none
  | none => none

/-- The record is on die: it becomes the most recently used of 1,024. -/
def Eng.waitTouch (e : Eng) (k : Nat) : Eng :=
  { e with pln := { e.pln with waitCache := (k :: e.pln.waitCache.filter (· ≠ k)).take 1024 } }

/-! ## Revival time and cost (R224, R225) -/

/-- P of R224. -/
def Eng.pagesP (e : Eng) (x : Entry) : Nat := groups x.kvLen * max0 (e.ranks.map (e.rank16 x.model))
def Eng.bwEst (e : Eng) (tier : Nat) : Nat := Tab.getD e.pln.bw tier (e.paramAt 0x0808 tier)
/-- R of a far tier (code 3 T2, 4 T3, which are the INDEX values of the image's parameters). -/
def Eng.revival (e : Eng) (tier p : Nat) : Nat := e.paramAt 0x0807 tier + ceilDiv (p * 32768) (max 1 (e.bwEst tier))

def Eng.priceT1 (e : Eng) : Nat :=
  let r := e.ranks.foldl (fun b r => if e.freeOf r < e.freeOf b then r else b) (e.ranks.headD 0)
  let total := e.totalOf r
  let x := 4 * e.usedOf r - 3 * total
  if total = 0 then 1024 else min 1024 (256 + 768 * x / total)

/-- cost of R225 for a tier code; `none` is INELIGIBLE. -/
def Eng.cost (e : Eng) (tier p q dclass : Nat) : Option Nat :=
  let p1 := e.priceT1
  if tier = 2 then some (p * q * p1 / 256)
  else
    let hold := e.param 0x0804
    let r := e.revival tier p
    if q ≤ r + hold ∨ e.hasTarget tier = false then none
    else some (p * (hold * p1 + (q - r - hold) * e.paramAt 0x0805 tier + 2 * r * p1) / 256 + e.stallW dclass * r / 5)

/-- Chooses a tier at a yield with a prediction, and orders it (R225, R226). -/
def Eng.placeYield (e : Eng) (x : Entry) (q : Option Nat) : Eng :=
  let c := e.chr x.tag
  let p := e.pagesP x
  match q with
  | none =>
    let e := e.modChr x.tag fun c => { c with q20 := none, chosen := 2 }
    e.modEntry x.tag e.withTtl
  | some q =>
    let tiers := [2, 3, 4].filter fun t => !e.belowPin x t
    let best := tiers.foldl (fun (b : Option (Nat × Nat)) t =>
      match e.cost t p q x.dclass, b with
      | some k, some (bk, bt) => if k < bk then some (k, t) else some (bk, bt)
      | some k, none => some (k, t)
      | none, b => b) none
    match best with
    | none => e
    | some (_, 2) =>
      let e := e.modChr x.tag fun c => { c with q20 := some q, chosen := 2 }
      let ttl := e.ttlNs x 2
      e.modEntry x.tag fun x =>
        { x with ttlExp := if ttl = 0 then 0 else actTime (c.tYield + max (q * 1000) ttl) }
    | some (_, t) =>
      let r := e.revival t p
      let ecl := c.tYield + (q - r) * 1000
      let e := e.modChr x.tag fun c =>
        { c with q20 := some q, chosen := t, reviveUs := r, eclPredicted := true, pupatePending := true }
      let e := e.modEntry x.tag fun x => { x with eclStart := actTime ecl, ttlExp := 0 }
      e.order 1 t x.tag 0 (c.tYield + e.param 0x0804 * 1000) ecl

/-- The decision at a yield, as far as the wait records on die allow it; a record that is not there is read first. -/
def Eng.decideYield (e : Eng) (tag : Nat) : Eng :=
  match e.find tag with
  | none => e
  | some x =>
    if x.state != .yielded then e
    else
      let k := waitKey x.tenant x.toolId
      let agg := waitKey x.tenant 0
      let want (e : Eng) (k : Nat) : Eng :=
        { e with pln := { e.pln with waitUses := e.pln.waitUses ++ [(k, .decide tag, e.now)] } }
      if !e.pln.waitCache.contains k then want e k
      else
        let e := e.waitTouch k
        match e.ready k with
        | some q => e.placeYield x (some q)
        | none =>
          if !e.pln.waitCache.contains agg then want e agg
          else (e.waitTouch agg).placeYield x (e.ready agg)

/-- An observed wait enters a record, once the record is on die. -/
def Eng.observe (e : Eng) (k us : Nat) : Eng :=
  if e.pln.waitCache.contains k then (e.waitTouch k).observeIn k us
  else { e with pln := { e.pln with waitUses := e.pln.waitUses ++ [(k, .observe us, e.now)] } }

/-- A wait record has been read from HBM: what waited for it goes on (R221, wait code 13). -/
def Eng.waitFilled (e : Eng) (k : Nat) : Eng :=
  let uses := e.pln.waitUses.filter fun u => u.1 == k
  let e := { e with pln := { e.pln with waitUses := e.pln.waitUses.filter fun u => u.1 ≠ k } }
  if uses.isEmpty then e
  else uses.foldl (fun e u =>
    let e := e.waitEnd 13 10 0 u.2.2
    match u.2.1 with
    | .observe us => e.observeIn k us
    | .decide tag => e.decideYield tag) (e.waitTouch k)

/-! ## Records that meet a session's placement (R229) -/

/-- A RESUME that ING read at `at_` is admitted for session `x`: the wait for a client tool, up to that time, is observed
(R222), and its pages come back. -/
def Eng.resumePlace (e : Eng) (x : Entry) (tool : Nat) (isLocal : Bool) (at_ : Nat) : Eng :=
  let c := e.chr x.tag
  let e := if isLocal || c.tYield = 0 then e
    else
      let us := (at_ - c.tYield) / 1000
      (e.observe (waitKey x.tenant tool) us).observe (waitKey x.tenant 0) us
  let far := x.residency = 3 ∨ x.residency = 4
  let mv := e.leadMove x.tag
  let ecl := match mv with | some m => m.order.kind == 2 | none => false
  let late := (decide far && x.eclStart != 0) || (ecl && c.eclPredicted)
  let e := if late then
      let n := e.pln.lateEpoch + 1
      let e := { e with pln := { e.pln with lateEpoch := n } }
      ((e.bump Reg.PLN_LATE 15 0 1).occur 0x0C 1).raiseOnce 0x8100 0x81 1 x.tag [(16, 4, n)]
    else if far ∧ !c.eclPredicted then e.bump Reg.PLN_LATE 31 16 1 else e
  let out := match mv with | some m => m.order.kind == 1 || m.order.kind == 3 | none => false
  let pending := out && !x.moving
  let e := (e.modChr x.tag fun c => { c with tYield := 0, pupatePending := false, eclPredicted := false, eclWaits := false }).modEntry x.tag
    fun x => { x with eclStart := 0 }
  let e := if out then e.order 7 0 x.tag else { e with pln := { e.pln with held := e.pln.held.filter fun h => h.2.tag ≠ x.tag } }
  if pending then e.dropLeadMove x.tag else e

/-- A CLOSE is admitted: a move is cancelled (R229), and T_YIELD is 0 from then on (R212); the frames go after the CLOSE is
acknowledged. -/
def Eng.closePlace (e : Eng) (x : Entry) : Eng :=
  let e := e.modChr x.tag fun c => { c with tYield := 0 }
  match e.leadMove x.tag with
  | none => e
  | some m =>
    let e := e.order 7 0 x.tag
    if x.moving then e else if m.order.at_ > e.now then e.dropLeadMove x.tag else e

/-- A session becomes FREE: every chip frees what it holds (Table 3-2). -/
def Eng.freePlace (e : Eng) (tag : Nat) : Eng :=
  let e := e.order 6 0 tag
  let e := e.dropLeadMove tag
  { e with pln := { e.pln with chrys := Tab.del e.pln.chrys tag, toLearn := e.pln.toLearn.filter (·.1 ≠ tag),
                               pinLater := e.pln.pinLater.filter (·.1 ≠ tag),
                               waitUses := e.pln.waitUses.filter fun u => u.2.1 ≠ .decide tag } }

/-! ## Completion at the Lead (R228, R235) -/

/-- The lengths of far copies of a session never exceed its KV_LENGTH (R213). -/
def Eng.clampFar (e : Eng) (tag len : Nat) : Eng :=
  (e.clampRec tag len).modChr tag fun c => { c with t2Len := min c.t2Len len, t3Len := min c.t3Len len }

/-- The entry with KV_LENGTH lowered to `kv` (R213): with no position left no tier holds a copy, and a prefix that is no
longer covered is attached no more (log entry 131). -/
def Eng.lowered (e : Eng) (x : Entry) (kv : Nat) : Entry :=
  { x with kvLen := kv, tierCopy := if kv = 0 then 0 else x.tierCopy,
           prefixOn := x.prefixOn && decide (16 * e.prefixPages x.prefixId ≤ kv) }

/-- RESIDENCY's TIER_COPY bit. -/
def tierBit (res : Nat) : Nat := if res = 0 then 0 else 2 ^ (res - 1)

/-- RESIDENCY and TIER_COPY once a length was lowered, for a session with no frame reserved (R213). -/
def Eng.reframe (e : Eng) (x : Entry) : Entry :=
  let c := e.chr x.tag
  if x.state == .prefill || x.state == .decode || c.resEnd ≠ 0 then x
  else if x.kvLen = 0 then { x with residency := 0, tierCopy := 0, ttlExp := 0, eclStart := 0 }
  else { x with residency := if x.kvLen ≤ c.t2Len then 3 else 4,
                tierCopy := (if c.t2Len ≠ 0 then 4 else 0) + (if c.t3Len ≠ 0 then 8 else 0) }

/-- Measures the bandwidth of a tier after an eclosion of at least 64 pages per chip (R224). -/
def Eng.measureBw (e : Eng) (x : Entry) (tier since : Nat) : Eng :=
  let p := e.pagesP x
  let us := (e.now - since) / 1000
  let fix := e.paramAt 0x0807 tier
  if p < 64 ∨ us ≤ fix then e
  else
    let m := p * 32768 / (us - fix)
    let bw := e.bwEst tier
    let bw' := if bw ≤ m then bw + (m - bw) / 8 else bw - (bw - m) / 8
    { e with pln := { e.pln with bw := Tab.put e.pln.bw tier (max 1 bw') } }

/-- A learned prefix is resident once every chip has reported (R232). -/
def Eng.prefixReported (e : Eng) (id rank tier : Nat) : Eng :=
  match Tab.get? e.pln.library id with
  | none => e
  | some p =>
    let p := { p with reports := rank :: p.reports.filter (· ≠ rank)
                      inT1 := (if tier = 2 then [rank] else []) ++ p.inT1.filter (· ≠ rank) }
    let all := p.reports.length = e.img.n ∧ !p.resident
    let e := { e with pln := { e.pln with library := Tab.put e.pln.library id { p with resident := p.resident || decide all } } }
    if all then (e.bump Reg.PLN_PREFIX 14 0 1).raise 0x87 0 0 [(16, 2, id), (18, 1, if p.replaced then 1 else 0), (20, 2, p.pages)]
    else e

/-- A tracked move has all its reports. -/
def Eng.completeMove (e : Eng) (m : LeadMove) : Eng :=
  let o := m.order
  let e := { e with pln := { e.pln with leadMoves := e.pln.leadMoves.filter fun k => k.order.seq ≠ o.seq } }
  match e.find o.tag with
  | none => e
  | some x =>
    let least := minD x.kvLen (m.reports.map fun r => r.2.1)
    let tierMax := max0 (m.reports.map fun r => r.2.2.1)
    let done := m.reports.all fun r => r.2.2.2 == 0
    let all (t : Nat) : Bool := m.reports.all fun r => r.2.2.1 == t
    let e := if o.kind = 2 then e.measureBw x (if x.residency = 3 then 3 else 4) m.since else e
    let run := x.state == .prefill || x.state == .decode
    let kv := min x.kvLen least
    let lost (e : Eng) : Eng := match m.reports.find? fun r => r.2.1 == least with
      | some r => if least < x.kvLen then (e.clampFar x.tag kv).raise 0x85 2 x.tag [(16, 1, 1), (17, 1, r.1), (20, 4, 1)] else e
      | none => e
    match o.kind with
    | 2 | 5 =>
      if m.reports.any fun r => r.2.2.2 == 1 then e.putEntry { x with moving := false }
      else
        let e := (lost e).modChr x.tag fun c =>
          { c with spilled := false, eclPredicted := false, pupatePending := false, eclWaits := false }
        let x := e.lowered x kv
        let x := { x with residency := 2, tierCopy := if kv = 0 then 0 else x.tierCopy ||| 2, moving := false,
                          eclStart := if x.state == .yielded then 0 else x.eclStart }
        e.putEntry (e.withTtl x)
    | 10 =>
      let gone := m.reports.any fun r => r.2.2.2 == 1
      let kv := if x.position = 0 ∨ gone = true then 0 else min (minD 0 (m.reports.map fun r => r.2.1)) (x.position - 1)
      let short := decide (kv < x.position - 1)
      let left := e.pln.migrating.filter (· ≠ x.tag)
      let e := { e with pln := { e.pln with migrating := left, migShort := e.pln.migShort + b2n short } }
      let e := (e.clampFar x.tag kv).putEntry
        (e.withTtl { x with kvLen := kv, residency := 2, tierCopy := if kv = 0 then 0 else 2, moving := false, prefixOn := false })
      if left.isEmpty then e.raise 0x86 1 0 [(16, 1, 1), (20, 4, e.pln.migCount), (24, 4, e.pln.migShort)] else e
    | _ =>
      if o.kind = 3 ∧ o.tier = 0 then
        let e := e.modChr x.tag fun c => { c with resEnd := 0, t2Len := 0, t3Len := 0 }
        e.putEntry { e.lowered x 0 with residency := 0, moving := false, ttlExp := 0, eclStart := 0 }
      else if o.kind = 3 ∧ o.tier = 2 then
        e.putEntry (e.withTtl { x with residency := 2, tierCopy := x.tierCopy &&& 0xE, moving := false })
      else if tierMax ≤ 2 then
        let e := (lost e).modChr x.tag fun c => { c with pupatePending := false, spilled := false }
        e.putEntry (e.reframe { e.lowered x kv with moving := false })
      else
        let e := lost e
        let x := e.lowered x kv
        let fromT2 := o.kind = 3 ∧ o.tier = 4 ∧ x.residency = 3
        let e := e.modChr x.tag fun c =>
          { c with resEnd := if done then 0 else c.resEnd, pupatePending := false,
                   t2Len := if all 3 then least else if fromT2 && done then 0 else c.t2Len,
                   t3Len := if all 4 then least else c.t3Len,
                   prefixCopied := c.prefixCopied || x.prefixOn }
        let c := e.chr x.tag
        let far := (if c.t2Len ≠ 0 then 4 else 0) + (if c.t3Len ≠ 0 then 8 else 0)
        if o.kind = 4 ∧ run then e.putEntry { x with tierCopy := far, prefixOn := false }
        else
          let e := e.modChr x.tag fun c => { c with spilled := false }
          let res := if kv = 0 ∧ done then 0 else tierMax
          e.putEntry (e.withTtl { x with residency := res, tierCopy := far, moving := false, prefixOn := false })

/-- The Lead takes a move-end report (R228): `none` for bytes that fail their CRC. -/
def Eng.takeReport (e : Eng) (b : Bytes) : Eng :=
  if b.length ≠ 32 ∨ crcOk b 32 = false then e
  else
    let tag := u32 b 0
    let seq := u32 b 4
    let len := u32 b 8
    let rank := u8 b 12
    let tier := u8 b 13
    let status := u8 b 14
    let e := if rank = e.img.rank then e
      else { e with pln := { e.pln with chipTotal := Tab.put e.pln.chipTotal rank (u32 b 16) } }
    match e.pln.leadMoves.find? fun m => m.order.seq == seq && m.order.tag == tag with
    | some m =>
      if m.order.kind = 9 then
        let e := e.prefixReported (m.order.prefixId % 65536) rank tier
        let m := { m with reports := (rank, len, tier, status) :: m.reports.filter fun r => r.1 ≠ rank }
        let left := e.pln.leadMoves.filter fun k => k.order.seq ≠ seq
        { e with pln := { e.pln with leadMoves := if m.reports.length = e.img.n then left else m :: left } }
      else
        let m := { m with reports := (rank, len, tier, status) :: m.reports.filter fun r => r.1 ≠ rank }
        if m.reports.length = e.img.n then e.completeMove m
        else { e with pln := { e.pln with
                leadMoves := e.pln.leadMoves.map fun k => if k.order.seq = seq ∧ k.order.tag = tag then m else k } }
    | none =>
      match e.find tag with
      | none => e
      | some x =>
        if seq ≠ 0xFFFFFFFF then e
        else if status = 2 ∧ len < x.kvLen then
          let e := if tier = 2 then e.overrule x 2 else e
          let e := e.clampFar tag len
          let e := e.putEntry (e.reframe (e.lowered x len))
          e.raise 0x85 2 tag [(16, 1, if tier = 2 then 0 else 1), (17, 1, rank), (20, 4, 1)]
        else if status = 0 ∧ (e.leadMove tag).isNone ∧ !(e.chr tag).spilled then e.putEntry { x with moving := false } else e

/-- The Lead's PLN takes its own chip's reports, and those they give rise to. -/
def Eng.drainReports : Nat → Eng → Eng
  | 0, e => e
  | fuel + 1, e =>
    match e.pln.ownReports with
    | [] => e
    | b :: l => Eng.drainReports fuel (Eng.takeReport { e with pln := { e.pln with ownReports := l } } b)

/-- A PIN takes effect: the tier in force afterwards, 0xFF for none (R230). The pin of a session that has no chrysalis
descriptor yet is kept for it (log entry 128). -/
def Eng.applyPin (e : Eng) (x : Entry) (tier ms : Nat) : Nat × Eng :=
  if tier = 0xFF then (0xFF, e.unpin x.tag)
  else
    let full := !x.pin && decide (e.param 0x080A ≤ e.pinsOf x.tenant)
    if full || x.state == .closing || x.state == .held || (tier == 2 && !e.hasTarget 3) || decide (2 < tier) then (0xFF, e)
    else
      let cap := e.param 0x0809
      let ms := if ms = 0 then cap else min ms cap
      let e := if (Tab.get? e.pln.chrys x.tag).isSome then e
        else { e with pln := { e.pln with chrys := Tab.put e.pln.chrys x.tag { tag := x.tag } } }
      let e := e.modChr x.tag fun c => { c with pinTier := some tier, pinExp := e.now + ms * 1000000 }
      let e := e.modEntry x.tag fun x => { x with pin := true }
      let idle := x.state == .idle || (x.state == .yielded && !e.waitsLocal x)
      let e := if tier = 2 ∧ idle ∧ !x.moving ∧ (x.residency = 1 ∨ x.residency = 2) then e.order 3 3 x.tag else e
      (tier, e)

/-- A PIN is noted. One that meets a move is tested now and applies from the move's completion (R229). -/
def Eng.setPin (e : Eng) (x : Entry) (tier ms : Nat) : Nat × Eng :=
  if !x.moving then e.applyPin x tier ms
  else
    let p := (e.applyPin x tier ms).1
    if tier ≠ 0xFF ∧ p = 0xFF then (0xFF, e)
    else (p, { e with pln := { e.pln with pinLater := e.pln.pinLater ++ [(x.tag, tier, ms)] } })

/-- The PINs whose session's move is complete. -/
def Eng.applyPins (e : Eng) : Eng :=
  e.pln.pinLater.foldl (fun e p =>
    let drop (e : Eng) : Eng := { e with pln := { e.pln with pinLater := e.pln.pinLater.filter (· ≠ p) } }
    match e.find p.1 with
    | none => drop e
    | some x => if x.moving then e else ((drop e).applyPin x p.2.1 p.2.2).2) e

/-! ## Copies that are gone (R213) and T0 (R215, R230) -/

/-- The far lengths of a session fall where this chip holds less of them, as after the loss of a target (R213, R236): other
chips' are not reported while their valid length stands (log entry 133). -/
def Eng.noteCopies (e : Eng) : Eng :=
  (Tab.vals e.pln.chrys).foldl (fun e c =>
    match e.find c.tag, Tab.get? e.pln.recs c.tag with
    | some x, some r =>
      if x.moving || (e.leadMove c.tag).isSome || (decide (c.t2Len ≤ r.t2Len) && decide (c.t3Len ≤ r.t3Len)) then e
      else
        let c := { c with t2Len := min c.t2Len r.t2Len, t3Len := min c.t3Len r.t3Len }
        let e := e.modChr c.tag fun _ => c
        let far := (if c.t2Len ≠ 0 then 4 else 0) + (if c.t3Len ≠ 0 then 8 else 0)
        e.putEntry (e.reframe { x with tierCopy := x.tierCopy &&& (3 + far) })
    | _, _ => e) e

/-- A claim on the T0 frames outside the prefix part, lowest first (R215, R230): STRICT, then sessions with a T0 pin, which
hold their newest group there while STRICT claims leave room, then FIRM, then BEST. At the Lead, the directory says whether a
session is in DECODE; a pin is known there only (log entry 134). -/
def Eng.t0Claim (e : Eng) (r : ChipRec) : Option Nat :=
  let x := e.find r.tag
  let dec := match x with | some x => if x.state == .decode then r.dec else none | none => r.dec
  let pinned := match x with
    | some x => x.pin && (e.chr r.tag).pinTier == some 0 && (x.residency == 1 || x.residency == 2)
    | none => false
  if r.resPages = 0 ∨ r.t1Len = 0 then none
  else match dec, pinned with
    | some 0, _ => some 0
    | _, true => some 1
    | some k, false => some (k + 1)
    | none, false => none

/-- RESIDENCY of a session in T0 or T1 follows the T0 copies of the Lead's chip (R213). -/
def Eng.noteT0 (e : Eng) (x : Entry) : Eng :=
  let hot := decide ((e.chipRec x.tag).t0Pages ≠ 0)
  if hot && x.residency == 2 then e.putEntry (e.withTtl { x with residency := 1, tierCopy := x.tierCopy ||| 1 })
  else if !hot && x.residency == 1 then e.putEntry (e.withTtl { x with residency := 2, tierCopy := x.tierCopy &&& 0xE })
  else e

/-- Deals the T0 frames to the newest groups of the sessions that claim them; within a kind, lower tags first. -/
def Eng.dealT0 (e : Eng) : Eng :=
  let claims := (Tab.vals e.pln.recs).filterMap fun r => (e.t0Claim r).map fun k => (k, r)
  let claims := sortBy (fun (a b : Nat × ChipRec) => decide (a.1 < b.1 ∨ (a.1 = b.1 ∧ a.2.tag ≤ b.2.tag))) claims
  let e := e.assignT0 (claims.map fun p => (p.2.tag, p.2.model))
  if e.isLead then e.live.foldl Eng.noteT0 e else e

/-- The copies of a session in DECODE are dropped when TTL_T0 has passed since its last commit, at a chip other than the
Lead's since its last descriptor (R215; log entry 134). -/
def Eng.t0Expired (e : Eng) (tag : Nat) : Eng :=
  let r := e.chipRec tag
  let ttl := e.paramAt 0x0800 ((e.tcfg r.tenant).tclass * 4) * 1000000
  let due := match e.find tag with
    | some x => x.ttlExp != 0 && decide (x.ttlExp ≤ actTime e.now)
    | none => ttl != 0 && decide (r.decAt + ttl ≤ e.now)
  if r.dec.isSome && r.t0Pages != 0 && due then (e.setRec { r with dec := none }).dealT0 else e

/-- A session leaves DECODE, as this Tail learns from a SELECT. -/
def Eng.leaveDecode (e : Eng) (tags : List Nat) : Eng :=
  if tags.any fun t => (e.chipRec t).dec.isSome then
    (tags.foldl (fun e t => match Tab.get? e.pln.recs t with | some r => e.setRec { r with dec := none } | none => e) e).dealT0
  else e

/-- What follows every change of the Lead's placement: its own reports, copies, pins, T0, pressure, waiting sessions. -/
def Eng.settlePlace (e : Eng) : Eng :=
  let e := (e.drainReports 64).noteCopies
  let e := (if e.pln.pinLater.isEmpty then e else e.applyPins).dealT0.checkPressure.placeWaiting
  e.drainReports 64

/-! ## TTL expiry, pins and learned prefixes -/

/-- Takes one demotion step of an IDLE or YIELDED session (R214). One that waits on a local tool stays on die (08 R201). -/
def Eng.demoteStep (e : Eng) (x : Entry) : Eng :=
  let down := e.stepDown x.residency
  if x.residency = 0 ∨ e.belowPin x down ∨ e.waitsLocal x then e
  else e.order 3 down x.tag

/-- TTL_EXP is reached (R214): no move may be in flight, and a predicted pupation keeps its own times (R226). -/
def Eng.ttlExpired (e : Eng) (tag : Nat) : Eng :=
  let e := e.t0Expired tag
  match if e.isLead then e.find tag else none with
  | none => e
  | some x =>
    let rests := x.state == .idle || (x.state == .yielded && x.eclStart == 0)
    if rests && !x.moving && x.ttlExp != 0 && decide (x.ttlExp ≤ actTime e.now) then e.demoteStep x else e

/-- A pin's lapse time is reached (R230). -/
def Eng.pinExpired (e : Eng) (tag : Nat) : Eng :=
  match e.find tag with
  | none => e
  | some x => if x.pin && decide ((e.chr tag).pinExp ≤ e.now) then e.unpin tag else e

/-- An HBM stack fails (03 R69, R237, 01 R27): directory backing, frames, and the chip itself where weights were lost. The
chip's refills show as moves at the Lead. -/
def Eng.stackFailed (e : Eng) (s : Nat) (weightsLost : Bool) : Eng :=
  let e := if e.dir.deadStacks.contains s then e else e.loseBacking s
  let e := e.loseStack s
  let e := if !e.isLead then e
    else (e.pln.moves.filter fun m => m.2.order.seq == 0xFFFFFFFF).foldl
      (fun e m => e.modEntry m.1 fun x => { x with moving := true }) e
  if weightsLost then e.declareFailed else e

/-- Chain values of the whole pages of a token log, by number of pages (05 R120). -/
def chainFrom (k0 k1 : Nat) : Nat → Nat → List Nat → List Nat
  | 0, _, _ => []
  | n + 1, h, toks =>
    let h := (siphash (BitVec.ofNat 64 k0) (BitVec.ofNat 64 k1) (leBytes 8 h ++ (toks.take 16).flatMap (leBytes 4))).toNat
    h :: chainFrom k0 k1 n h (toks.drop 16)

/-- The estimate and increment of the count-min sketch: four rows by 16 bits of the chain value each. -/
def sketchKeys (h : Nat) : List Nat := [0, 1, 2, 3].map fun r => r * 65536 + h / 2 ^ (16 * r) % 65536

/-- A first placement that attaches no prefix: its longest chain value is counted, and its prefix may be learned (R232). -/
def Eng.countChain (e : Eng) (x : Entry) (pages h : Nat) : Eng :=
  let sk := (sketchKeys h).foldl (fun s k => Tab.put s k (Tab.getD s k 0 + 1)) e.pln.sketch
  let est := minD 0 ((sketchKeys h).map fun k => Tab.getD sk k 0)
  let known := (Tab.vals e.pln.library).any fun p => p.model == x.model && p.chain == h && p.pages == pages
  let e := { e with pln := { e.pln with sketch := sk, firsts := e.pln.firsts + 1 } }
  if est < e.param 0x080B || known || e.pln.toLearn.any (fun l => l.2.2 == h) then e
  else { e with pln := { e.pln with toLearn := e.pln.toLearn ++ [(x.tag, pages, h)] } }

/-- Halves the sketch after 2^20 first placements. -/
def Eng.halveSketch (e : Eng) : Eng :=
  if e.pln.firsts < 2 ^ 20 then e
  else { e with pln := { e.pln with firsts := 0, sketch :=
    (Tab.mapVals e.pln.sketch fun _ c => c / 2).filter fun p => decide (p.2 ≠ 0) } }

/-- Sessions resident with prefix `id` attached. -/
def Eng.attached (e : Eng) (id : Nat) : Bool :=
  e.live.any fun x => x.prefixOn && x.prefixId == id && (x.residency == 1 || x.residency == 2)

/-- Learns the prefixes of sessions whose KV_LENGTH now covers them (R232): a free slot, else the slot with no attached
resident session that was attached least recently. `log` gives a session's tokens. -/
def Eng.learn (e : Eng) (log : Nat → List Nat) : Eng :=
  e.pln.toLearn.foldl (fun e l =>
    match e.find l.1 with
    | none => e
    | some x =>
      if x.kvLen < 16 * l.2.1 then e
      else
        let e := { e with pln := { e.pln with toLearn := e.pln.toLearn.filter (· ≠ l) } }
        let used := Tab.keys e.pln.library
        let free := if used.length < 65536 then (List.range (used.length + 1)).find? fun i => !used.contains i else none
        let slot := match free with
          | some i => some (i, false)
          | none => (e.pln.library.foldl (fun (b : Option (Nat × Nat)) p =>
              if e.attached p.1 then b
              else match b with
                | some (i, u) => if p.2.lastUse < u then some (p.1, p.2.lastUse) else some (i, u)
                | none => some (p.1, p.2.lastUse)) none).map fun b => (b.1, true)
        match slot with
        | none => e
        | some (id, repl) =>
          let p : Prefix := { model := x.model, pages := l.2.1, chain := l.2.2, tokens := (log x.tag).take (16 * l.2.1),
                              lastUse := e.now, replaced := repl }
          let e := { e with pln := { e.pln with library := Tab.put e.pln.library id p } }
          e.order 9 1 x.tag 0 0 0 (l.2.1 * 65536 + id)) e

end Sys2Proof.Machine
end

