-- ==== Sys2Proof/Machine/Journal.lean ====
section
/-! DEFINITION. The journal (10 R251 to R263): records and their bytes, session summaries and token logs, batches,
durability and what it releases, emission records and acknowledgements. -/

namespace Sys2Proof.Machine

/-! ## Records (R252, Table 10-3) -/

/-- Length of a record in 32-byte units. -/
def JRec.units : JRec → Nat
  | .admitted (tokens := ts) .. => 2 + ceilDiv ts.length 8
  | .commit .. => 2
  | .term (blocks := bs) .. => 1 + ceilDiv bs.length 16
  | _ => 1

/-- The session a record belongs to. -/
def JRec.tag? : JRec → Option Nat
  | .admitted (tag := t) .. => some t
  | .commit (tag := t) .. => some t
  | .release (tag := t) .. => some t
  | .yield (tag := t) .. => some t
  | .close (tag := t) .. => some t
  | _ => none

/-- Bytes padded with zeros to whole units. -/
def padTo (n : Nat) (b : Bytes) : Bytes := b ++ zeros (n - b.length)

def JRec.bytes (r : JRec) : Bytes :=
  let n := 32 * r.units
  match r with
  | .admitted kind part tag pid pseq turn model dclass tenant tIn toolId gid gOn sparam tokens =>
    padTo n (layout 64 [(0, 1, 1), (1, 1, kind + 4 * b2n part), (2, 2, r.units), (4, 4, tag), (8, 4, pid), (12, 8, pseq),
      (20, 4, turn), (24, 4, tokens.length), (28, 1, model + 16 * dclass), (30, 2, tenant), (32, 8, tIn), (40, 2, toolId),
      (42, 1, gid), (43, 1, b2n gOn), (44, 4, sparam)] ++ tokens.flatMap (leBytes 4))
  | .commit tag pos instar gstate turn ids =>
    padTo n (layout 32 [(0, 1, 2), (1, 1, ids.length - 1), (2, 2, 2), (4, 4, tag), (8, 4, pos), (12, 6, instar),
      (18, 2, gstate), (20, 4, turn)] ++ ids.flatMap (leBytes 4))
  | .release reason tag pos instar turn sampled =>
    layout 32 [(0, 1, 3), (1, 1, reason), (2, 2, 1), (4, 4, tag), (8, 4, pos), (12, 6, instar), (20, 4, turn), (24, 4, sampled)]
  | .yield loc tag pos instar toolId turn tYield =>
    layout 32 [(0, 1, 4), (1, 1, b2n loc), (2, 2, 1), (4, 4, tag), (8, 4, pos), (12, 6, instar), (18, 2, toolId),
      (20, 4, turn), (24, 8, tYield)]
  | .close kind tag pid pseq turn =>
    layout 32 [(0, 1, 5), (1, 1, kind), (2, 2, 1), (4, 4, tag), (8, 4, pid), (12, 8, pseq), (20, 4, turn)]
  | .amend rank param index value aseq =>
    layout 32 [(0, 1, 6), (1, 1, rank), (2, 2, 1), (4, 2, param), (8, 4, index), (12, 8, value), (20, 8, aseq)]
  | .term kind newTerm leader granting blocks =>
    padTo n (layout 32 [(0, 1, 7), (1, 1, kind), (2, 2, r.units), (4, 4, newTerm), (8, 1, leader),
      (9, 1, if kind = 1 ∨ kind = 5 then granting else 0),
      (12, 4, blocks.length)] ++ blocks.flatMap (leBytes 2))

/-- The numbers of `size` bytes each that follow one another from byte `i`. -/
def numsAt (b : Bytes) (size : Nat) : Nat → Nat → List Nat
  | 0, _ => []
  | n + 1, i => leAt b i size :: numsAt b size n (i + size)

/-- The record at the head of `b`. -/
def JRec.parse (b : Bytes) : Option JRec :=
  let k := u8 b 1
  match u8 b 0 with
  | 1 => some (.admitted (k % 4) (bit k 2) (u32 b 4) (u32 b 8) (u64 b 12) (u32 b 20) (u8 b 28 % 16) (u8 b 28 / 16 % 8)
      (u16 b 30) (u64 b 32) (u16 b 40) (u8 b 42) (bit (u8 b 43) 0) (u32 b 44) (numsAt b 4 (u32 b 24) 64))
  | 2 => some (.commit (u32 b 4) (u32 b 8) (u48 b 12) (u16 b 18) (u32 b 20) (numsAt b 4 (k % 8 + 1) 32))
  | 3 => some (.release k (u32 b 4) (u32 b 8) (u48 b 12) (u32 b 20) (u32 b 24))
  | 4 => some (.yield (bit k 0) (u32 b 4) (u32 b 8) (u48 b 12) (u16 b 18) (u32 b 20) (u64 b 24))
  | 5 => some (.close k (u32 b 4) (u32 b 8) (u64 b 12) (u32 b 20))
  | 6 => some (.amend k (u16 b 4) (u32 b 8) (u64 b 12) (u64 b 20))
  | 7 => some (.term k (u32 b 4) (u8 b 8) (u8 b 9) (numsAt b 2 (u32 b 12) 32))
  | _ => none

/-- Up to `n` records of a batch body; none where one cannot be read. -/
def parseRecs : Nat → Bytes → Option (List JRec)
  | 0, _ => some []
  | n + 1, b =>
    match JRec.parse b with
    | none => none
    | some r => if u16 b 2 ≠ r.units ∨ b.length < 32 * r.units then none
      else (parseRecs n (b.drop (32 * r.units))).map (r :: ·)

/-! ## Session summaries and token logs (R253) -/

def allOnes44 : Nat := 2 ^ 44 - 1

/-- The 64 bytes of a summary (Table 10-4). -/
def Summary.bytes (s : Summary) : Bytes :=
  withCrc (layout 60 [(0, 4, s.tag), (4, 4, s.position), (8, 4, s.turnSeq), (12, 1, s.lastType),
    (13, 1, s.model + 16 * s.dclass), (14, 2, s.tenant), (16, 2, s.gstate), (18, 1, s.gid),
    (19, 1, b2n s.gOn + 2 * b2n s.localTool + 4 * b2n s.termAcked), (20, 4, s.sparam), (24, 2, s.toolId),
    (28, 4, s.acked.getD 0xFFFFFFFF), (32, 8, s.tIn), (40, 4, s.lastTerm), (44, 8, s.lastIndex), (52, 8, s.logAddr)])

/-- The summaries and logs after a record of (term, index) is applied. -/
def applyRec (term index : Nat) (r : JRec) (st : Tab Summary × Tab (List Nat)) : Tab Summary × Tab (List Nat) :=
  let old (tag : Nat) : Summary := Tab.getD st.1 tag { tag := tag }
  let put (s : Summary) : Tab Summary := Tab.put st.1 s.tag { s with lastTerm := term, lastIndex := index }
  let app (tag : Nat) (l : List Nat) : Tab (List Nat) := Tab.put st.2 tag (Tab.getD st.2 tag [] ++ l)
  match r with
  | .admitted kind _ tag _ _ turn model dclass tenant tIn _ gid gOn sparam tokens =>
    if kind = 0 then
      let keep (t : Nat) : Bool := t == tag || tagIndex t != tagIndex tag
      let s : Summary := { tag := tag, turnSeq := turn, lastType := 1, model := model, dclass := dclass, tenant := tenant,
                           gid := gid, gOn := gOn, sparam := sparam, tIn := tIn, lastTerm := term, lastIndex := index,
                           logAddr := tagIndex tag * 8 }
      (Tab.put (st.1.filter fun p => keep p.1) tag s, Tab.put (st.2.filter fun p => keep p.1) tag [])
    else
      let s := old tag
      let mark := if kind = 1 then 0 else allOnes44
      (put { s with position := s.position + tokens.length, turnSeq := turn, lastType := 1, model := model,
                    dclass := dclass, tenant := tenant, tIn := tIn, toolId := 0, localTool := false, termAcked := false,
                    gstate := if kind = 1 then 0 else s.gstate },
       app tag (tokens.map fun t => t % 2 ^ 20 + mark * 2 ^ 20))
  | .commit tag pos instar gstate turn ids =>
    let s := old tag
    (put { s with position := pos + ids.length, turnSeq := turn, lastType := 2, gstate := gstate },
     app tag (ids.map fun t => t % 2 ^ 20 + instar % 2 ^ 44 * 2 ^ 20))
  | .release _ tag _ _ _ _ => (put { old tag with lastType := 3 }, st.2)
  | .yield loc tag _ _ toolId _ _ => (put { old tag with lastType := 4, toolId := toolId, localTool := loc }, st.2)
  | .close _ tag _ _ _ => (put { old tag with lastType := 5 }, st.2)
  | .amend .. => st
  | .term .. => st

/-- A session's summary in the own store. -/
def Eng.sum (e : Eng) (tag : Nat) : Summary := Tab.getD e.twm.sums tag { tag := tag }
/-- Token ids of a session's log. -/
def Eng.logIds (e : Eng) (tag : Nat) : List Nat := (Tab.getD e.twm.logs tag []).map (· % 2 ^ 20)

/-! ## Ring space (R251, R258) -/

def Eng.ringBytes (e : Eng) : Nat := e.param 0x0C00 * 2 ^ 20
def ringUsed (l : List (Nat × Nat × JRec)) : Nat := sumN (l.map fun r => 32 * r.2.2.units)
/-- The fuller ring's use in bytes. -/
def Eng.ringFull (e : Eng) : Nat := max (ringUsed e.twm.journal) (ringUsed e.twm.mirrorRecs)
/-- Free space of the fuller ring is below 1/d. -/
def Eng.ringBelow (e : Eng) (d : Nat) : Bool := decide ((e.ringBytes - e.ringFull) * d < e.ringBytes)

/-! ## Batches (R251, R254) -/

def Batch.body (b : Batch) : Bytes := b.recs.flatMap JRec.bytes

/-- A batch as it leaves (Table 10-2). -/
def Eng.batchBytes (e : Eng) (b : Batch) : Bytes :=
  let h := layout 56 [(0, 1, b.kind), (1, 1, 1), (2, 1, e.img.wing), (3, 1, b.leader), (4, 4, b.term), (8, 8, b.first),
    (16, 4, b.recs.length), (20, 4, sumN (b.recs.map JRec.units)), (24, 6, b.instar), (32, 8, b.launch)]
  withCrc (h ++ leBytes 4 b.crc) ++ b.body

/-- A Member or Tail writes single copy to T3 once it has lost its twin (R269); a Lead when SOLO (Table 10-10). -/
def Eng.toT3 (e : Eng) : Bool := if e.isLead then e.twm.wing == .solo else e.twm.twinLost
/-- Batches go to the twin. -/
def Eng.toTwin (e : Eng) : Bool := if e.isLead then e.twm.wing == .paired else !e.twm.twinLost

/-- Launches a batch to whichever makes it durable, and to a twin that is returning (R276). -/
def Eng.launchBatch (e : Eng) (b : Batch) : Eng :=
  let e := if e.toTwin || (e.toT3 && e.isLead && e.twm.feed) then e.send (.twin (e.batchBytes b)) else e
  if e.toT3 then e.send (.far (.journal e.img.layout.t3Journal b.first (b.first + b.recs.length - 1) (64 + b.body.length)))
  else e

/-- Launches the batches that have not left, in order, as far as the wing's state allows. -/
def Eng.pumpJournal (e : Eng) : Eng :=
  if !(e.toTwin || e.toT3) then e
  else
    let launch (b : Batch) : Batch := if b.sent then b else { b with sent := true, launch := e.now }
    let go := (e.twm.batches.filter fun b => !b.sent).map launch
    let e := { e with twm := { e.twm with batches := e.twm.batches.map launch } }
    go.foldl Eng.launchBatch e

/-- Writes the log pages that the logs `new` have filled since `old` through to T3 (R253), for the sessions of `recs`. -/
def Eng.writeLogPages (e : Eng) (recs : List JRec) (old new : Tab (List Nat)) : Eng :=
  (recs.filterMap JRec.tag?).dedup.foldl (fun e tag =>
    let a := (Tab.getD old tag []).length / 512
    let b := (Tab.getD new tag []).length / 512
    (List.range (b - a)).foldl (fun e k => e.send (.far (.logPage e.img.layout.t3Journal tag (a + k)))) e) e

/-- Appends records to the own journal as one batch, applies them and launches it (R253, R254). -/
def Eng.append (e : Eng) (kind instar : Nat) (recs : List JRec) : Eng :=
  if recs.isEmpty then e
  else
    let first := e.twm.appended + 1
    let n := recs.length
    let numbered := (List.range n).zip recs |>.map fun p => (e.twm.term, first + p.1, p.2)
    let st := numbered.foldl (fun st r => applyRec r.1 r.2.1 r.2.2 st) (e.twm.sums, e.twm.logs)
    let b : Batch := { kind := kind, term := e.twm.term, leader := e.twm.leader, first := first, recs := recs,
                       instar := instar, launch := e.now, crc := crc32c (recs.flatMap JRec.bytes) }
    let e := e.writeLogPages recs e.twm.logs st.2
    Eng.pumpJournal { e with twm := { e.twm with
      appended := e.twm.appended + n, batches := e.twm.batches ++ [b], journal := e.twm.journal ++ numbered,
      heads := e.twm.heads ++ [(first, kind, instar, e.twm.leader)],
      sums := st.1, logs := st.2 } }

/-- An admission is journaled (R254): an ADMIT, CLOSE or AMEND record, with what waits for its durability. -/
def Eng.admitNow (e : Eng) (a : Admission) : Eng :=
  let e := e.append 0 e.cmp.last [a.record]
  let i := e.twm.appended
  let e := match a.answer with
    | some r => { e with twm := { e.twm with answers := e.twm.answers ++ [{ r with index := i }] } }
    | none => e
  let e := match a.pos with
    | some p => { e with twm := { e.twm with commits := e.twm.commits ++ [{ index := i, pos := p }] } }
    | none => e
  match a.record with
  | .amend .. =>
    match e.ing.amends.findIdx? fun (p : PendAmend) => p.jindex == 0 with
    | some k => { e with ing := { e.ing with amends := e.ing.amends.modify k fun p => { p with jindex := i } } }
    | none => e
  | _ => e

/-- The ADMIT launch: while the free space of either ring is below 1/64, admissions wait at it, in order (R258). -/
def Eng.launchAdmit (e : Eng) (a : Admission) : Eng :=
  if e.ringBelow 64 || !e.twm.admits.isEmpty then { e with twm := { e.twm with admits := e.twm.admits ++ [a] } }
  else e.admitNow a

/-- The admissions that wait are launched once there is space again. -/
def Eng.launchWaiting (e : Eng) : Eng :=
  if e.ringBelow 64 then e
  else e.twm.admits.foldl Eng.admitNow { e with twm := { e.twm with admits := [] } }

/-! ## Emission records (04 R82, R260, 14 R392) -/

/-- The label at which a producer's TOKEN, YIELD and END records leave. -/
def Eng.labelOf (e : Eng) (pid : Nat) : Option Nat :=
  match Tab.get? e.img.producers (pid % 65536) with
  | some p => if p.valid && p.id == pid then some p.source else none
  | none => none

/-- An ACCEPT, REJECT or STATUS that answers the ingress record `r` (Table 4-4). -/
def answerBytes (typ code flags : Nat) (r : Bytes) (tag value : Nat) (body : List (Nat × Nat × Nat)) : Bytes :=
  layout (if typ = 6 then 64 else 32) ([(0, 1, typ), (1, 1, code), (2, 1, u8 r 0), (3, 1, flags), (4, 4, u32 r 4),
    (8, 8, u64 r 8), (16, 4, tag), (20, 4, u32 r 20), (24, 4, value)] ++ body)

def tokenBytes (tag pos id flags instar turn : Nat) : Bytes :=
  layout 32 [(0, 1, 3), (1, 1, flags), (4, 4, tag), (8, 4, pos), (12, 4, id), (16, 6, instar), (24, 4, turn)]
def yieldBytes (loc : Bool) (tool tag pos instar turn : Nat) : Bytes :=
  layout 32 [(0, 1, 4), (1, 1, b2n loc), (2, 2, tool), (4, 4, tag), (8, 4, pos), (16, 6, instar), (24, 4, turn)]
def endBytes (reason tag pos sampled instar turn : Nat) : Bytes :=
  layout 32 [(0, 1, 5), (2, 1, reason), (4, 4, tag), (8, 4, pos), (12, 4, sampled), (16, 6, instar), (24, 4, turn)]

/-- The same record with AGAIN set. -/
def again (b : Bytes) : Bytes := b.modify 1 (· ||| 2)

def Eng.emitOf (e : Eng) (tag : Nat) : Emit := (Tab.get? e.twm.emits tag).getD { pid := 0 }
def Eng.setEmit (e : Eng) (tag : Nat) (x : Emit) : Eng := { e with twm := { e.twm with emits := Tab.put e.twm.emits tag x } }

/-- The session is held because its copies differ: it releases nothing (R278). -/
def Eng.differs (e : Eng) (tag : Nat) : Bool := ((e.find tag).map fun y => y.state == .held && y.hold == 2).getD false

/-- Hands records of a session to the NIC; where its producer's slot does not bind it, or its copies differ (R278), they
stay unacknowledged. -/
def Eng.handOver (e : Eng) (tag : Nat) (recs : List Bytes) : Eng :=
  let x := e.emitOf tag
  match if e.differs tag then none else e.labelOf x.pid with
  | none => e.setEmit tag { x with stuck := true, lastSent := e.now }
  | some l => (e.sendAll (recs.map (.emission l))).setEmit tag { x with lastSent := e.now, stuck := false }

/-! ## Durability (R256, R257) -/

/-- The outcome word's place (04 R80). -/
def outcomeKey (slot seq : Nat) : Nat := slot * 4096 + seq % 4096

/-- ACCEPT of a record whose ADMIT or CLOSE of journal index `index` is durable (R80, R82). A session whose copies differ
releases none (R278). -/
def Eng.acceptDurable (e : Eng) (index : Nat) : Eng :=
  match e.twm.answers.find? fun a => a.index == index with
  | none => e
  | some a =>
    if e.differs a.tag then e
    else
    let slot := u32 a.raw 4 % 65536
    let seq := u64 a.raw 8
    let w := Tab.getD e.ing.windows slot {}
    let w := { w with pending := w.pending.filter (· ≠ seq) }
    let out := if u8 a.raw 0 = 1 then a.tag else a.turn
    let e := { e with
      twm := { e.twm with answers := e.twm.answers.filter fun b => b.index ≠ index }
      ing := { e.ing with windows := Tab.put e.ing.windows slot w, outcomes := Tab.put e.ing.outcomes (outcomeKey slot seq) out } }
    let e := (e.count 2 1).occur 0x03 1 { tenant := some a.tenant }
    let e := e.setPage a.tenant fun p => { p with admitted := (p.admitted + 1) % 2 ^ 64 }
    e.send (.emission a.src (answerBytes 1 0 0 a.raw a.tag a.turn []))

/-- The tokens of a session released at consecutive positions from `pos`. -/
def Eng.releaseTokens (e : Eng) (tag pos instar turn : Nat) (ids flags : List Nat) : Eng :=
  let toks := (List.range ids.length).map fun i => (pos + i, ids.getD i 0, flags.getD i 0, instar, turn)
  let x := e.emitOf tag
  let e := e.setEmit tag { x with toks := x.toks ++ toks, lastPos := some (pos + ids.length - 1) }
  let e := e.handOver tag (toks.map fun k => tokenBytes tag k.1 k.2.1 k.2.2.1 k.2.2.2.1 k.2.2.2.2)
  if (e.emitOf tag).stuck then e
  else (e.count 4 ids.length).trace 6 1 [(8, 4, tag), (12, 4, pos + ids.length - 1)]

/-- The turn's YIELD or END is released. -/
def Eng.releaseTerminal (e : Eng) (tag pos turn : Nat) (b : Bytes) : Eng :=
  let x := e.emitOf tag
  let e := e.setEmit tag { x with terminals := x.terminals ++ [(pos, b)], lastTerm := some pos }
  (e.handOver tag [b]).dropTurn tag turn

/-- INSTAR of a tool-result TOKEN: as a rebuilt one has it (R253, R262; log entry 43). -/
def Eng.toolInstar (e : Eng) : Nat := allOnes44 + e.cmp.last / 2 ^ 44 % 16 * 2 ^ 44

/-- A grant to the partner becomes durable after this wing has taken over all blocks (03 R50): the blocks stay here, and
are among those that a give-back returns. -/
def Eng.giveLater (e : Eng) (o : Nat × List Nat × List Nat) (bs : List Nat) : Eng :=
  let o' := (o.1, o.2.1.filter (fun b => !bs.contains b), o.2.2 ++ bs.filter fun b => !o.2.1.contains b)
  let back := bs.filter e.dir.granting.contains
  { e with
    twm := { e.twm with ownBefore := some o' }
    dir := { e.dir with granting := e.dir.granting.filter (fun b => !bs.contains b)
                        free := e.dir.free ++ back.map fun b => .blocks b 0 1 0 } }

/-- What one own record releases when it becomes durable. -/
def Eng.released (e : Eng) (index : Nat) (r : JRec) : Eng :=
  match r with
  | .admitted kind _ tag pid _ turn _ _ _ _ _ _ _ _ tokens =>
    let e := if kind = 0 then e.setEmit tag { pid := pid } else e
    let e := e.acceptDurable index
    if kind = 3 then
      let info := e.twm.commits.find? fun c => c.index == index
      let e := { e with twm := { e.twm with commits := e.twm.commits.filter fun c => c.index ≠ index } }
      e.releaseTokens tag ((info.map CommitInfo.pos).getD 0) e.toolInstar turn tokens (List.replicate tokens.length 1)
    else e
  | .commit tag pos instar _ turn ids =>
    let info := e.twm.commits.find? fun c => c.index == index
    let e := { e with twm := { e.twm with commits := e.twm.commits.filter fun c => c.index ≠ index } }
    let e := e.releaseTokens tag pos instar turn ids ((info.map CommitInfo.flags).getD [])
    e.noteTokens tag turn (!(e.emitOf tag).stuck)
  | .release reason tag pos instar turn sampled =>
    e.releaseTerminal tag pos turn (endBytes reason tag pos sampled instar turn)
  | .yield loc tag pos instar toolId turn _ => e.releaseTerminal tag pos turn (yieldBytes loc toolId tag pos instar turn)
  | .close kind tag _ _ turn =>
    let e := e.acceptDurable index
    let e := { e with twm := { e.twm with closed := tag :: e.twm.closed } }
    let pos := ((e.find tag).map Entry.position).getD 0
    let sampled := Tab.getD e.smp.turnCount tag 0
    if kind = 1 then e.releaseTerminal tag pos turn (endBytes 6 tag pos sampled 0 turn)
    else if e.twm.endOnClose.contains tag then
      let e := { e with twm := { e.twm with endOnClose := e.twm.endOnClose.filter (· ≠ tag) } }
      e.releaseTerminal tag pos turn (endBytes 7 tag pos sampled e.cmp.last turn)
    else e
  | .amend _ param idx _ _ =>
    let upd (a : PendAmend) : PendAmend := if a.jindex = index then { a with durable := true, answered := a.answered || e.isLead } else a
    let mine := e.ing.amends.find? fun a => a.jindex == index && !a.answered
    let e := { e with ing := { e.ing with amends := e.ing.amends.map upd } }
    match mine with
    | some a =>
      if e.isLead then e.send (.emission a.src (answerBytes 6 4 0 a.raw 0 0
        [(32, 2, param), (36, 4, idx), (40, 8, e.cmp.last + 1)]))
      else e
    | none => e
  | .term kind _ _ granting blocks =>
    if kind = 1 ∨ kind = 5 then
      let mine := granting = e.img.wing
      let e := match decide mine, e.twm.ownBefore with
        | true, some o => e.giveLater o blocks
        | true, none => e.loseBlocks blocks
        | false, _ => e.gainBlocks blocks
      if kind = 1 then e.raise 0x36 0 0 [(16, 1, if mine then 1 else 0), (17, 2, blocks.length)] else e
    else e

/-- The ring keeps what no complete snapshot covers and what is not durable (R251, R281). -/
def Eng.reclaimRing (e : Eng) : Eng :=
  let keep (i : Nat) : Bool := decide (e.twm.covered < i ∨ e.twm.durable < i)
  { e with twm := { e.twm with journal := e.twm.journal.filter (fun r => keep r.2.1)
                               heads := e.twm.heads.filter fun h => keep h.1 } }

/-- What durable records release leaves, in journal order (R257). A pair stopped by R277 releases nothing, and neither does
one whose shapes differ, until they match (01 R23). -/
def Eng.releaseDurable (e : Eng) : Eng :=
  if e.twm.dual ∨ e.ing.mismatch then e
  else e.twm.unreleased.foldl (fun e r => e.released r.1 r.2) { e with twm := { e.twm with unreleased := [] } }

/-- Every own record up to `index` is durable (R256), and what it releases leaves. Records that a complete snapshot covers
are reclaimed once they are durable (R281). -/
def Eng.makeDurable (e : Eng) (index : Nat) : Eng :=
  if index ≤ e.twm.durable then e
  else
    let now := e.twm.journal.filter fun r => decide (e.twm.durable < r.2.1 ∧ r.2.1 ≤ index)
    let st := now.foldl (fun st r => applyRec r.1 r.2.1 r.2.2 st) (e.twm.durSums, e.twm.durLogs)
    let e := { e with twm := { e.twm with
      durable := min index e.twm.appended
      durSums := st.1
      durLogs := st.2
      batches := e.twm.batches.filter fun b => decide (index < b.first + b.recs.length - 1)
      unreleased := e.twm.unreleased ++ now.map Prod.snd } }
    (e.count 8 now.length).reclaimRing.releaseDurable.pumpJournal

/-- Commit batches that are not durable (R258). -/
def Eng.ahead (e : Eng) : Nat := (e.twm.batches.filter fun b => b.kind == 1).length

/-- A record of the session is still waiting for durability. -/
def Eng.undurable (e : Eng) (tag : Nat) : Bool :=
  (e.twm.batches.any fun b => b.recs.any fun r => r.tag? == some tag) || e.twm.admits.any fun a => a.record.tag? == some tag

/-! ## Freeing a session (03 Table 3-2) -/

/-- A CLOSING session becomes FREE. -/
def Eng.freeSessionEntry (e : Eng) (x : Entry) : Eng :=
  let e := e.freePlace x.tag
  let em := e.emitOf x.tag
  let lost := em.toks.length + em.terminals.length
  let st := e.tst x.tenant
  let e := e.setTst x.tenant { st with live := st.live - 1 }
  let e := e.putEntry { tag := x.tag }
  { e with
    dir := { e.dir with free := e.dir.free ++ [.one (tagIndex x.tag)], heldRun := e.dir.heldRun.filter (· ≠ x.tag) }
    twm := { e.twm with closed := e.twm.closed.filter (· ≠ x.tag), dropped := e.twm.dropped + lost,
                        emits := Tab.del e.twm.emits x.tag, sums := Tab.del e.twm.sums x.tag,
                        logs := Tab.del e.twm.logs x.tag, durSums := Tab.del e.twm.durSums x.tag,
                        durLogs := Tab.del e.twm.durLogs x.tag, ackDirty := e.twm.ackDirty.filter (· ≠ x.tag) }
    smp := { e.smp with master := Tab.del e.smp.master x.tag, turnCount := Tab.del e.smp.turnCount x.tag }
    pln := { e.pln with matched := e.pln.matched.filter (· ≠ x.tag), matching := e.pln.matching.filter (· ≠ x.tag) } }

/-- Frees the CLOSING sessions whose CLOSE is durable and that have no token to come. -/
def Eng.freeClosed (e : Eng) : Eng :=
  e.twm.closed.foldl (fun e tag =>
    match e.find tag with
    | some x => if x.state == .closing && !e.isStaged tag && !e.undurable tag then e.freeSessionEntry x else e
    | none => { e with twm := { e.twm with closed := e.twm.closed.filter (· ≠ tag) } }) e

/-! ## Acknowledgements and emission again (R261, R262) -/

/-- The label is bound to a producer of the tenant. -/
def Eng.labelFits (e : Eng) (src tenant : Nat) : Bool :=
  e.img.producers.any fun p => p.2.valid && p.2.source == src && p.2.tenant == tenant

/-- A consumer's acknowledgement. -/
def Eng.consumerAck (e : Eng) (tag pos : Nat) (terminal : Bool) (src : Nat) : Eng :=
  let ignored (e : Eng) : Eng := e.bump Reg.TWM_EMIT 15 0 1
  match e.find tag with
  | none => ignored e
  | some x =>
    let em := e.emitOf tag
    let s := e.sum tag
    let up (p : Option Nat) : Nat := match p with | some q => q + 1 | none => 0
    let p1 := (pos + 1) % 2 ^ 32
    let last := max (up em.lastPos) (em.lastTerm.getD 0)
    let term := terminal && em.terminals.any fun k => k.1 == p1
    let raises := decide (up s.acked < p1)
    let sets := term && p1 == up s.acked && !s.termAcked
    if !e.labelFits src x.tenant || decide (last < p1) || !(raises || sets) then ignored e
    else
      let s := { s with acked := if raises then some pos else s.acked, termAcked := term || (s.termAcked && !raises) }
      let em := { em with toks := em.toks.filter (fun k => decide (p1 ≤ k.1)),
                          terminals := em.terminals.filter (fun k => decide (p1 < k.1 ∨ (p1 = k.1 ∧ ¬ term))) }
      let dirty := tag :: e.twm.ackDirty.filter (· ≠ tag)
      let e := { e with twm := { e.twm with sums := Tab.put e.twm.sums tag s, ackDirty := dirty } }
      e.setEmit tag em

/-- Puts a record into a list in position order, after those of the same key. -/
def insertKey (k : Nat × Bytes) : List (Nat × Bytes) → List (Nat × Bytes)
  | [] => [k]
  | a :: l => if k.1 < a.1 then k :: a :: l else a :: insertKey k l

/-- Emits a session's released records that are not acknowledged again, at most 1,024 (R262). A rebuilt TOKEN takes bits
47:44 of INSTAR from the Lead's current instar, and its DRAFT and TURN_FIRST bits are 0 (log entry 42). -/
def Eng.emitAgainNow (e : Eng) (tag : Nat) : Eng :=
  let em := e.emitOf tag
  let hi := e.cmp.last / 2 ^ 44 % 16
  let toks := (em.toks.take 1024).map fun k =>
    let low := (Tab.getD e.twm.logs tag []).getD k.1 0 / 2 ^ 20
    (2 * k.1 + 1, again (tokenBytes tag k.1 k.2.1 (k.2.2.1 % 2) (low + hi * 2 ^ 44) k.2.2.2.2))
  -- a YIELD or END stands before the token at its POSITION
  let all := em.terminals.foldl (fun l k => insertKey (2 * k.1, again k.2) l) toks
  let out := (all.take 1024).map Prod.snd
  let n := out.length
  if n = 0 then e
  else
    let e := e.handOver tag out
    if (e.emitOf tag).stuck then e else (e.bump Reg.TWM_EMIT 31 16 n).occur 0x0D n

end Sys2Proof.Machine
end

