-- ==== Sys2Proof/Machine/Power.lean ====
section
/-! DEFINITION. PGV (11): the fast loop and the skip limits, operating points and their sequencer, the energy models, the
allowance records, the ladder, protective inputs and energy attribution. -/

namespace Sys2Proof.Machine

/-- Positions an entry samples: 1 + DRAFTS for decode, 1 for a final chunk, else 0 (05 R111). -/
def DEntry.samples (x : DEntry) : Nat := if x.kind = 2 then 1 + x.drafts else if x.kind = 1 then 1 else 0

/-- ctx_units of 05 R108. -/
def DEntry.ctxUnits (x : DEntry) : Nat := ceilDiv (x.kvStart + x.feed) 1024

/-! ## Tables of the image (R290, R291, R297) -/

/-- The factory operating points (Table 11-2). -/
def factoryOps : List OpPoint :=
  [⟨2100, 880, 920, 4096⟩, ⟨1950, 840, 900, 3620⟩, ⟨1800, 800, 880, 3200⟩, ⟨1650, 765, 860, 2840⟩,
   ⟨1500, 730, 840, 2520⟩, ⟨1350, 700, 820, 2250⟩, ⟨1200, 670, 800, 2010⟩, ⟨1000, 640, 780, 1800⟩]

/-- The factory preferred points (Table 11-3). -/
def factoryPhases : List (Nat × Nat) :=
  [(2, 48), (0, 64), (0, 64), (1, 64), (2, 56), (4, 32), (3, 40), (0, 64), (0, 64), (0, 64), (0, 64), (0, 64), (0, 64),
   (0, 64), (0, 64), (0, 64)]

def Eng.op (e : Eng) (i : Nat) : OpPoint := (if e.img.ops.isEmpty then factoryOps else e.img.ops).getD i {}
def Eng.phaseOf (e : Eng) (p : Nat) : Nat × Nat :=
  (if e.img.phases.isEmpty then factoryPhases else e.img.phases).getD p (0, 64)
def Eng.rail (e : Eng) (r : Nat) : RailCfg := e.img.rails.getD r {}
def Eng.depth (e : Eng) : Nat := e.param 0x0B03
def Eng.kSlew (e : Eng) : Nat := e.param 0x0B07
def Eng.policy (e : Eng) : Nat := e.param 0x0B15

def Eng.modPgv (e : Eng) (f : Pgv → Pgv) : Eng := { e with pgv := f e.pgv }

/-! ## Skip limits (R293, R314) -/

/-- A kernel of the job runs on its groups now. -/
def Job.kernelRuns (j : Job) : Bool := j.kern.isSome && j.moving.isEmpty && (j.st == .running || j.st == .halting)

/-- Pulses of every 64 that a cluster keeps while a kernel of phase `p` runs on it (R293, R315). -/
def Eng.busySkip (e : Eng) (p : Nat) : Nat := if e.pgv.fixed then e.pgv.kLim else min (e.phaseOf p).2 e.pgv.kLim
/-- Pulses that an idle cluster keeps: K_IDLE, within k_lim (log entry 148). -/
def Eng.idleSkip (e : Eng) : Nat := if e.pgv.fixed then e.pgv.kLim else min (e.param 0x0B06) e.pgv.kLim

/-- Every busy cluster's pulses: the least over the kernels on its groups (log entry 148). -/
def Eng.busySkips (e : Eng) : Tab Nat :=
  let ks := (Tab.vals e.dsq.parts).flatMap fun p => p.jobs.filterMap fun j => if j.kernelRuns then j.kern else none
  ks.foldl (fun m k => k.groups.foldl (fun m g => Tab.put m (g / 8) (min (Tab.getD m (g / 8) 64) (e.busySkip k.phase))) m) []

/-- Presents every cluster's k where one has changed. -/
def Eng.presentSkips (e : Eng) : Eng :=
  let b := e.busySkips
  let i := e.idleSkip
  if b = e.pgv.skips ∧ i = e.pgv.idleK then e
  else (e.modPgv fun g => { g with skips := b, idleK := i }).send (.cluster (.skip i b))

/-- The limits of Table 11-4. -/
def Pgv.limits (g : Pgv) : List Nat := [g.kFast, g.kLadder, g.kPhase, g.kAlert, g.kCool, g.kTherm, if g.fixed then 64 else g.kStretch]

/-- The least of the limits; 1 until the engine has started up (R297) and in power-down (12 R344). In fixed-frequency mode
k_stretch limits nothing (R315). -/
def Eng.leastLimit (e : Eng) : Nat := if !e.up || e.iml.hold == 4 then 1 else max 1 (minD 64 e.pgv.limits)

def Eng.setLim (e : Eng) (k : Nat) : Eng := if k = e.pgv.kLim then e else (e.modPgv fun g => { g with kLim := k }).presentSkips

/-- A limit that has fallen takes effect at once. -/
def Eng.limFall (e : Eng) : Eng := e.setLim (min e.pgv.kLim e.leastLimit)

/-- One µs of release: k_lim rises by at most K_SLEW, and not where a limit has fallen since they stood at `old` (R314). -/
def Eng.limStep (e : Eng) (old : List Nat) : Eng :=
  let fell := (old.zip e.pgv.limits).any fun p => decide (p.2 < p.1)
  e.setLim (min e.leastLimit (if fell then e.pgv.kLim else e.pgv.kLim + e.kSlew))

/-! ## The operating-point sequencer (R298 to R300, Table 11-5) -/

def Eng.setSeq (e : Eng) (f : SeqSt → SeqSt) : Eng := e.modPgv fun g => { g with seq := f g.seq }

/-- Writes a rail's voltage, or holds the write back while REG_ALERT_N is low. -/
def Eng.writeRail (e : Eng) (r mv : Nat) : Eng :=
  if e.pgv.alertLow.isSome then e.setSeq fun q => { q with blocked := some (r, mv), wait := none }
  else
    let e := ((e.bump Reg.PGV_SLEW 15 0 1).send (.avs r mv)).send (.avsRead r .status)
    e.setSeq fun q => { q with blocked := none, wait := some (r, mv, e.now),
                               vcore := if r = 0 then mv else q.vcore, vsram := if r = 1 then mv else q.vsram }

/-- Starts the sequence to operating point `t` from IDLE. -/
def Eng.beginOp (e : Eng) (t : Nat) : Eng :=
  let q := e.pgv.seq
  let o := e.op t
  if t = q.cur then e.setSeq fun q => { q with target := t }
  else if t < q.cur then
    let e := e.setSeq fun q => { q with st := 1, target := t, second := false }
    if o.vsram ≠ q.vsram then e.writeRail 1 o.vsram else e.writeRail 0 o.vcore
  else (e.setSeq fun q => { q with st := 3, target := t, second := false }).send (.cluster (.clock o.mhz))

/-- A new target: taken in IDLE, kept otherwise, and while REG_ALERT_N is low (R300). -/
def Eng.newTarget (e : Eng) (t : Nat) : Eng :=
  let q := e.pgv.seq
  if q.held then e
  else if q.st = 0 then
    if e.pgv.alertLow.isSome then e.setSeq fun q => { q with kept := some t } else e.beginOp t
  else if q.kept.getD q.target = t then e
  else e.setSeq fun q => { q with kept := some t }

/-- The target is reached; the kept one is taken. -/
def Eng.opReached (e : Eng) : Eng :=
  let k := e.pgv.seq.kept
  let e := e.setSeq fun q => { q with st := 0, cur := q.target, kept := none, wait := none, second := false }
  match k with
  | some t => e.newTarget t
  | none => e

/-- VDone on a rail, with the voltage read back. -/
def Eng.railDone (e : Eng) (r mv : Nat) : Eng :=
  let q := e.pgv.seq
  match q.wait with
  | none => e
  | some (w, _, _) =>
    if w ≠ r then e
    else
      let e := e.modPgv fun g => { g with railV := g.railV.set r mv }
      let e := e.setSeq fun q => { q with wait := none, second := false }
      let o := e.op q.target
      if q.st = 1 then
        if r = 1 then e.writeRail 0 o.vcore
        else (e.setSeq fun q => { q with st := 2 }).send (.cluster (.clock o.mhz))
      else if q.st = 4 then
        if r = 0 && o.vsram != q.vsram then e.writeRail 1 o.vsram else e.opReached
      else e

/-- The cluster clock change is acknowledged. -/
def Eng.clockDone (e : Eng) : Eng :=
  let q := e.pgv.seq
  if q.st = 2 then e.opReached
  else if q.st = 3 then (e.setSeq fun q => { q with st := 4 }).writeRail 0 (e.op q.target).vcore
  else e

/-- VoutTransRate is written from SLEW_MV_US, or the write is held back while REG_ALERT_N is low (R289, R297, R300). -/
def Eng.writeRate (e : Eng) : Eng :=
  if e.pgv.alertLow.isSome then e.modPgv fun g => { g with rateDue := true }
  else [0, 1].foldl (fun e r => e.send (.avsRate r (e.param 0x0B05))) (e.modPgv fun g => { g with rateDue := false })

/-- VDone has not been read in time (R299): the voltage read back counts, or the write is repeated, or the sequencer is
held. While REG_ALERT_N is low nothing is read back (R300). -/
def Eng.slewLate (e : Eng) (r mv : Nat) : Eng :=
  let q := e.pgv.seq
  match q.wait with
  | none => e
  | some (w, target, since) =>
    if w ≠ r ∨ e.now < since + 1000 * e.param 0x0B0A ∨ e.pgv.alertLow.isSome then e
    else if mv ≤ target + 10 && target ≤ mv + 10 then (e.send (.avsRead r .voltage)).railDone r mv
    else
      let e := (e.send (.avsRead r .voltage)).modPgv fun g => { g with railV := g.railV.set r mv }
      let e := (e.bump Reg.PGV_SLEW 31 16 1).raise 0xB7 1 0 [(16, 1, r), (17, 1, b2n q.second), (18, 2, target), (20, 2, mv)]
      if !q.second then (e.writeRail r target).setSeq fun q => { q with second := true }
      else (e.setSeq fun q => { q with st := 0, target := q.cur, kept := none, wait := none, held := true }).modPgv
        fun g => { g with ceilSlew := max g.ceilSlew q.cur }

/-! ## OP_CEIL and the target (R292, R295, R315) -/

/-- OP_CEIL: the highest index among its holders. -/
def Eng.opCeil (e : Eng) : Nat :=
  let g := e.pgv
  let a := max g.ceil g.ceilSlew
  if (g.ladder ≠ 0 ∧ !g.fixed) ∨ g.coolAct then 7 else a

def Eng.opTarget (e : Eng) : Nat :=
  if e.pgv.fixed then max e.pgv.fixedOp e.pgv.ceilSlew else max e.opCeil e.pgv.leastOp

/-- Takes the target that the ceiling and the phases present now give. -/
def Eng.retarget (e : Eng) : Eng := if e.up then e.newTarget e.opTarget else e

/-- The phases of the KERNEL commands of a model's step program. -/
def programPhases (b : Bytes) : List Nat :=
  ((List.range (b.length / 32)).filter fun i => u8 b (32 * i) == 1).map fun i => u8 b (32 * i + 1) / 16

/-- A tool job is resident on a partition. -/
def Eng.toolsResident (e : Eng) : Bool := e.dsq.parts.any fun p => p.2.jobs.any fun j => j.tool.isSome

/-- The least OP_p over the phases present (R292); OP7 when there is none. -/
def Eng.leastOpOf (e : Eng) (ents : List DEntry) : Nat :=
  let ms := (List.range 16).filter fun m => ents.any fun x => x.model == m
  let ps := (ms.flatMap fun m => programPhases (Tab.getD e.img.programs m [])) ++ (if e.toolsResident then [6] else [])
  minD 7 (ps.map fun p => (e.phaseOf p).1)

/-- The end of an instar on this chip moves OP_CEIL (R295), by the samples taken while its shard ran; before the first of them
k_fast is the one in force at its start. -/
def Eng.pgvShardEnd (e : Eng) (num : Nat) : Eng :=
  let g := e.pgv
  let k := Tab.getD g.kRuns num { all := g.kFast == 64 }
  let low := decide (k.cnt ≠ 0 ∧ k.sum < e.param 0x0B08 * k.cnt)
  let high := k.all && decide ((e.depth / 2 : Nat) ≤ g.level)
  let c := if low then min 7 (g.ceil + 1) else if high then g.ceil - 1 else g.ceil
  (e.modPgv fun g => { g with ceil := c, kRuns := Tab.del g.kRuns num }).retarget

/-! ## The energy models (R301 to R303) -/

def fNat (n : Nat) : Word := fOfInt n
def dotF (a b : List Word) : Word := Config.sumF32 (List.zipWith fMul a b)
def addRow (a b : List Word) : List Word := List.zipWith fAdd a b
def subRow (a b : List Word) : List Word := List.zipWith fSub a b
def scaleRow (k : Word) (a : List Word) : List Word := a.map (fMul k)
def outerF (a b : List Word) : List (List Word) := a.map fun x => b.map (fMul x)

/-- rls_update of R302. -/
def Model.update (m : Model) (lam : Word) (x : List Word) (y : Word) : Model :=
  let r := List.zipWith (fun a b => addRow (scaleRow lam a) b) m.r (outerF x x)
  let b := List.zipWith (fun a c => fAdd (fMul lam a) (fMul c y)) m.b x
  let m := { m with r := r, b := b }
  if m.hold then m
  else
    let px := m.p.map fun row => dotF row x
    let g := fAdd lam (dotF x px)
    let err := fSub y (dotF x m.theta)
    let theta := addRow m.theta (scaleRow (fDiv err g) px)
    let p := List.zipWith (fun row o => (subRow row (o.map fun v => fDiv v g)).map fun v => fDiv v lam) m.p (outerF px px)
    { m with theta := theta, p := p }

/-- λ = 1 − 2^−LAMBDA_SH. -/
def Eng.lambda (e : Eng) : Word := fSub f32One (fDiv f32One (fNat (2 ^ e.param 0x0B0B)))

def traceF (m : List (List Word)) : Word := Config.sumF32 ((List.range m.length).map fun i => (m.getD i []).getD i 0)

/-- The test of R302 on an information matrix: it cannot separate its coefficients. -/
def Eng.illConditioned (e : Eng) (r : List (List Word)) : Bool :=
  let d := fNat (r.length * r.length)
  let kappa := fDiv (fMul (traceF r) (traceF (Config.inverseF32 r))) d
  Config.singularF32 r || fLt (BitVec.ofNat 32 (e.param 0x0B0C)) kappa

/-- excitation_test of R302. While a sense has failed, the hold of R311 goes on. -/
def Eng.exciteModel (e : Eng) (m : Model) : Model :=
  if !e.pgv.senseBad.isEmpty || e.illConditioned m.r then { m with hold := true }
  else if m.hold then { m with p := Config.inverseF32 m.r, hold := false }
  else m

/-- A change of a model's hold is reported. -/
def Eng.noteHold (e : Eng) (i : Nat) (old new : Bool) : Eng :=
  if old = new then e
  else e.raise 0xB8 1 0 [(16, 1, if new then 0 else 1), (17, 1, i), (20, 4, e.pgv.sinceRef)]

/-- Both models are tested. -/
def Eng.exciteBoth (e : Eng) : Eng :=
  let a := e.exciteModel e.pgv.entryM
  let b := e.exciteModel e.pgv.phaseM
  let oa := e.pgv.entryM.hold
  let ob := e.pgv.phaseM.hold
  ((e.modPgv fun g => { g with entryM := a, phaseM := b }).noteHold 0 oa a.hold).noteHold 1 ob b.hold

/-- A model takes θ_0 = s from a clean reference, and its other coefficients follow where they can be solved (R303). -/
def Eng.reference (e : Eng) (m : Model) (s : Word) : Model :=
  let rest := (m.r.drop 1).map fun row => row.drop 1
  if e.illConditioned rest then { m with theta := s :: m.theta.drop 1 }
  else
    let rhs := List.zipWith (fun b row => fSub b (fMul (row.headD 0) s)) (m.b.drop 1) (m.r.drop 1)
    { m with theta := s :: (Config.inverseF32 rest).map fun row => dotF row rhs }

/-- A clean reference is taken. -/
def Eng.cleanReference (e : Eng) : Eng :=
  let g := e.pgv
  let s := fDiv (fNat g.refEnergy) (fDiv (fNat g.refStatic) (fNat 4096))
  let a := e.reference g.entryM s
  let b := e.reference g.phaseM s
  let e := e.modPgv fun g => { g with entryM := a, phaseM := b, sinceRef := 0, quietReq := false, refTaken := true,
                                      quietWait := 0, forbidTold := false }
  (e.raise 0xB8 1 0 [(16, 1, 2), (17, 1, 0)]).raise 0xB8 1 0 [(16, 1, 2), (17, 1, 1)]

/-- The integer `v` below `top` that a computation takes from its binary32 result `x`; where `x` is not finite or `v` lies
outside, the spec states none (log entry 54). `k` names the integer. -/
def wholeOf (k top : Nat) (x : Word) (v : Int) : Nat :=
  if fFinite x && decide (0 ≤ v ∧ v < (top : Int)) then v.toNat else Config.outOfRange k x % top

/-- Weighted pulses [mV² × pulses] as 2^20 pulses at 880 mV. -/
def pulseTerm (w : Nat) : Word := fDiv (fNat w) (fNat (880 * 880 * 2 ^ 20))

/-- The phase model's regressors. -/
def phaseRegs (leak : Nat) (ps : List Nat) : List Word :=
  fDiv (fNat leak) (fNat 4096) :: (((List.range 7).map fun i => pulseTerm (ps.getD i 0)) ++ [pulseTerm (sumN (ps.drop 7))])

/-- The phase model's estimate for weighted pulses of one phase [µJ], as binary32 and truncated. -/
def Eng.phaseTerm (e : Eng) (ph w : Nat) : Word := fMul (e.pgv.phaseM.theta.getD (min (ph + 1) 8) 0) (pulseTerm w)
def Eng.phaseUj (e : Eng) (ph w : Nat) : Nat := wholeOf 4 (2 ^ 64) (e.phaseTerm ph w) (fFloor (e.phaseTerm ph w))

/-- Both models are updated with the interval that ends at a shard start (R301, R302). -/
def Eng.updateModels (e : Eng) : Eng :=
  let g := e.pgv
  if g.ivInstar.isNone then e
  else
    let ents := g.ivEntries
    let xs := phaseRegs g.ivStatic g.ivPulses
    let xe := [fDiv (fNat g.ivStatic) (fNat 4096), fNat (sumN (ents.map DEntry.feed)), fNat (sumN (ents.map DEntry.samples)),
      fNat (sumN (ents.map fun x => x.feed * x.ctxUnits))]
    let work := fAdd (e.phaseTerm 5 (g.ivPulses.getD 5 0)) (e.phaseTerm 6 (g.ivPulses.getD 6 0))
    let a := g.entryM.update e.lambda xe (fSub (fNat g.ivCompute) work)
    let b := g.phaseM.update e.lambda xs (fNat g.ivCompute)
    e.modPgv fun g => { g with entryM := a, phaseM := b }

/-! ## Attribution (R316) -/

/-- v_e of an entry under a record. -/
def entryShare (a : Allow) (width : Nat) (x : DEntry) : Nat :=
  a.eTok * x.feed + a.eSmp * x.samples + a.eCtx * x.feed * x.ctxUnits + ceilDiv (256 * a.e0) width

def Eng.chargeEnergy (e : Eng) (t n : Nat) : Eng := e.setPage t fun p => { p with energyUj := (p.energyUj + n) % 2 ^ 64 }

/-- The energy of the interval that ends at a shard start is attributed. -/
def Eng.attribute (e : Eng) : Eng :=
  let g := e.pgv
  let jobs := e.dsq.parts.flatMap fun p => p.2.jobs
  let tool (st : Eng × Nat × Nat) (p : Nat × Nat) : Eng × Nat × Nat :=
    let n := min (e.phaseUj 6 p.2) st.2.1
    match ((jobs.find? fun j => j.id == p.1).bind Job.tool).bind ToolJob.tenant with
    | some t => (st.1.chargeEnergy t n, st.2.1 - n, st.2.2)
    | none => (st.1, st.2.1 - n, st.2.2 + n)
  let (e, left, un) := g.ivTools.foldl tool (e, g.ivChip, 0)
  let five := min (e.phaseUj 5 (g.ivPulses.getD 5 0)) left
  let er := left - five
  let rec_ := g.ivRecord.getD { instar := 0 }
  let w := g.ivEntries.length
  let vs := g.ivEntries.map (entryShare rec_ w)
  let total := sumN vs
  let give (st : Eng × Nat) (p : DEntry × Nat) : Eng × Nat :=
    let n := if total = 0 then 0 else er * p.2 / total
    (st.1.chargeEnergy p.1.tenant n, st.2 - n)
  let (e, rest) := (g.ivEntries.zip vs).foldl give (e, er)
  e.modPgv fun g => { g with unattr := (g.unattr + un + five + rest) % 2 ^ 64 }

/-! ## Allowance records (R305, R306) -/

/-- P_EDC less the headroom lost to failed phases (R310). -/
def Eng.railCeil (e : Eng) (r : Nat) : Nat :=
  let n := (e.rail r).phases
  if n = 0 then (e.rail r).rated else (n - (Tab.getD e.pgv.failedPh r []).length) * (e.rail r).rated / n
def Eng.edc (e : Eng) : Nat :=
  e.param 0x0B02 - (((e.rail 0).rated - e.railCeil 0) + ((e.rail 1).rated - e.railCeil 1))

/-- C in force: the cap, lowered by the coolant policy (R305, R312). -/
def Eng.capEff (e : Eng) : Nat := if e.pgv.coolCap then min e.pgv.cap (e.param 0x0B16) else e.pgv.cap

/-- The mean of a rail's last ten polls (Table 11-1). -/
def Eng.railMean (e : Eng) (r : Nat) : Nat :=
  let l := e.pgv.railHist.getD r []
  if l.isEmpty then 0 else sumN l / l.length

/-- The draws of domains 1 to 4. -/
def Eng.otherDraw (e : Eng) : Nat := 46 + e.railMean 5 + e.railMean 4 + e.railMean 2 + e.railMean 3

def Eng.rThermal (e : Eng) : Word := BitVec.ofNat 32 (e.param (if e.pgv.coolLost.isSome then 0x0B12 else 0x0B10))
def Eng.tauThermal (e : Eng) : Word := fNat (e.param (if e.pgv.coolLost.isSome then 0x0B13 else 0x0B11))

def Eng.lowConfidence (e : Eng) : Bool := e.pgv.entryM.hold || e.pgv.phaseM.hold || !e.pgv.senseBad.isEmpty

/-- A coefficient as a field of the record. -/
def coefField (k : Nat) (v : Word) : Nat :=
  let y := fMul (fNat 256) v
  wholeOf k (2 ^ 32) y (fCeil y)

/-- A request for idle instars is in force: the ladder's, the coolant policy's or that of the critical temperature. -/
def Eng.wantsIdle (e : Eng) : Bool := e.pgv.idleReq || e.pgv.coolAct || e.pgv.critSince.isSome

/-- IDLE_US of a record: the ladder's, 1,000 for a request of another source (log entry 55), 200 for a quiet one. -/
def Eng.idleField (e : Eng) : Nat :=
  if e.wantsIdle then (if e.pgv.idleUs = 0 then 1000 else e.pgv.idleUs) else if e.pgv.quietReq then 200 else 0

/-- build_allowance of R305 for instar `i` + 2. -/
def Eng.buildAllowance (e : Eng) (i : Nat) : Allow :=
  let g := e.pgv
  let T := max 1 (ceilDiv g.lastPeriod 1000)
  let low := e.lowConfidence
  let guards := (if g.senseBad.isEmpty then 0 else 410) + (if low then 205 else 0)
  let eEnergy : Int := min (max g.level 0 / 2 + (e.capEff * T : Nat)) (e.edc * T : Nat)
  let a := Config.expF32 (fNeg (fDiv (fNat T) e.tauThermal))
  let tHot := fDiv (fNat g.tHot) (fNat 16)
  let pHeat := fAdd g.pFilt (fDiv (fSub (fNat (e.param 0x0B0F)) tHot) (fMul e.rThermal (fSub f32One a)))
  let heat := fMul (fMax pHeat 0) (fNat T)
  let eHeat : Int := wholeOf 6 (2 ^ 63) heat (fFloor heat)
  let en := min eEnergy eHeat
  let leak := (e.op e.opTarget).leak
  let others := e.otherDraw * T
  let e0 := fAdd (fMul (fDiv (fMul (g.entryM.theta.getD 0 0) (fNat leak)) (fNat 4096)) (fNat T)) (fNat others)
  { instar := (i + 2) % 2 ^ 32
    eAllow := min (en.toNat * 4096 / (4096 + guards)) 0xFFFFFFFF
    e0 := wholeOf 0 (2 ^ 32) e0 (fCeil e0)
    eTok := coefField 1 (g.entryM.theta.getD 1 0)
    eSmp := coefField 2 (g.entryM.theta.getD 2 0)
    eCtx := coefField 3 (g.entryM.theta.getD 3 0)
    widthCap := g.widthCap
    idleUs := e.idleField
    flags := b2n g.noPrefill + 2 * b2n e.wantsIdle + 4 * b2n g.quietReq + 8 * b2n (decide (eHeat < eEnergy)) + 16 * b2n low
    rank := e.img.rank }

/-- The record that the report of instar `i` carries: it applies to instar i + 2. -/
def Eng.pgvRecord (e : Eng) (instar : Nat) : Allow :=
  (Tab.get? e.pgv.records instar).getD (e.buildAllowance instar)

/-! ## A descriptor is checked (R292, R302, R304, R305, R315, R316) -/

/-- The end of a quiet instar without a reference: PGV asks again later (R304). -/
def Eng.quietEnded (e : Eng) : Eng :=
  let g := e.pgv
  if g.ivQuiet && !g.refTaken then
    e.modPgv fun g => { g with quietReq := false, quietWait := e.param 0x0B0D }
  else e

/-- Selectable event 0x12: the phase model's energy of the interval, by phase (13 Table 13-3). -/
def Eng.countPhases (e : Eng) : Eng :=
  (List.range 16).foldl (fun e i =>
    let w := e.pgv.ivPulses.getD i 0
    if w = 0 then e else e.occur 0x12 (e.phaseUj i w) { phase := some i }) e

/-- A shard starts: the interval before it ends, and the record for instar `num` + 2 is built. -/
def Eng.pgvShardStart (e : Eng) (num width flags : Nat) (launch period : Nat) (ents : List DEntry) : Eng :=
  let e := (e.countPhases.attribute.updateModels).quietEnded
  let quiet := bit flags 1
  let fixed := bit (e.reg Reg.PGV_CTRL).toNat 31
  let inForce := (Tab.get? e.pgv.records (num - 2)).orElse fun _ => e.pgv.startRecord
  let e := e.modPgv fun g => { g with
    ivStatic := 0, ivCompute := 0, ivChip := 0, ivPulses := List.replicate 16 0, ivTools := [], ivInstar := some num
    ivEntries := ents, ivQuiet := quiet, ivRecord := inForce, refTaken := false
    sinceRef := min (g.sinceRef + 1) (2 ^ 25 - 1)
    lastWidth := if width = 0 then g.lastWidth else width
    lastPeriod := if width = 0 then g.lastPeriod else period
    quietUntil := if quiet then some (launch + period) else none
    quietWait := g.quietWait - 1
    fixed := fixed, fixedOp := e.fld Reg.PGV_CTRL 26 24, kRuns := Tab.put g.kRuns num { all := g.kFast == 64 }
    kLadder := if fixed ∨ g.ladder = 0 then 64 else 1
    leastOp := e.leastOpOf ents }
  let e := e.retarget.limFall.presentSkips
  let a := e.buildAllowance num
  Eng.modPgv { e with free := e.free + 1 } fun g => { g with records := Tab.put (g.records.filter fun p => decide (num ≤ p.1 + 8)) num a }

/-- A quiet instar runs: no KERNEL is issued (R304). -/
def Eng.quietRuns (e : Eng) : Bool := match e.pgv.quietUntil with | some t => decide (e.now < t) | none => false

/-! ## The ladder (R307, R308) -/

/-- A move of the ladder is reported. -/
def Eng.noteLadder (e : Eng) : Eng :=
  (e.raise 0xB2 1 0 [(16, 1, e.pgv.ladder), (18, 2, e.pgv.widthCap), (20, 2, e.pgv.idleUs)]).limFall.retarget

/-- A deficit millisecond (Table 11-8). -/
def Eng.deficit (e : Eng) : Eng :=
  let g := e.pgv
  match g.ladder with
  | 0 => (e.modPgv fun g => { g with ladder := 1, kLadder := if g.fixed then 64 else 1 }).noteLadder
  | 1 => (e.modPgv fun g => { g with ladder := 2, widthCap := max 16 (ceilDiv g.lastWidth 2) }).noteLadder
  | 2 =>
    if 16 < g.widthCap then (e.modPgv fun g => { g with widthCap := max 16 (ceilDiv g.widthCap 2) }).noteLadder
    else (e.modPgv fun g => { g with ladder := 3, noPrefill := true }).noteLadder
  | 3 => (e.modPgv fun g => { g with ladder := 4, idleReq := true, idleUs := 1000, idleSince := e.now }).noteLadder
  | 4 => (e.modPgv fun g => { g with idleUs := min 65535 (2 * g.idleUs) }).noteLadder
  | _ => e

/-- The deficit millisecond that began last is over. -/
def Eng.deficitMs (e : Eng) : Eng :=
  match e.pgv.defSince with
  | some t => if e.now < t + 1000000 then e else (e.modPgv fun g => { g with defSince := some e.now }).deficit
  | none => e

/-- A surplus (Table 11-8). -/
def Eng.surplusStep (e : Eng) : Eng :=
  let g := e.pgv
  match g.ladder with
  | 1 => (e.modPgv fun g => { g with ladder := 0, kLadder := 64 }).noteLadder
  | 2 =>
    if 16384 ≤ 2 * g.widthCap then (e.modPgv fun g => { g with ladder := 1, widthCap := 0 }).noteLadder
    else (e.modPgv fun g => { g with widthCap := 2 * g.widthCap }).noteLadder
  | 3 => (e.modPgv fun g => { g with ladder := 2, noPrefill := false }).noteLadder
  | 4 =>
    if g.idleUs / 2 < 1000 then (e.modPgv fun g => { g with ladder := 3, idleReq := false, idleUs := 0 }).noteLadder
    else (e.modPgv fun g => { g with idleUs := g.idleUs / 2 }).noteLadder
  | _ => e

/-- Ten milliseconds of surplus are over. -/
def Eng.surplusMs (e : Eng) : Eng :=
  match e.pgv.surSince with
  | some t => if e.now < t + 10000000 then e else (e.modPgv fun g => { g with surSince := some e.now }).surplusStep
  | none => e

/-- The mean power over the 50 ms since the entry to IDLE is above C (R308). -/
def Eng.unattainable (e : Eng) (meanW : Nat) : Eng :=
  let g := e.pgv
  if g.ladder ≠ 4 ∨ e.now < g.idleSince + 50000000 ∨ meanW ≤ e.capEff then e
  else
    let e := (e.modPgv fun g => { g with ladder := 5 }).noteLadder
    (e.raise 0xB1 3 0 [(16, 2, e.capEff), (18, 2, meanW), (20, 1, 1)]).send (.capFail true)

/-- UNATTAINABLE is left: the report is withdrawn and CAP_FAIL_N released (R307, R308). -/
def Eng.leaveUnattainable (e : Eng) (meanW : Nat) : Eng :=
  let e := (e.modPgv fun g => { g with ladder := 4, idleSince := e.now }).noteLadder
  (e.raise 0xB1 3 0 [(16, 2, e.capEff), (18, 2, meanW), (20, 1, 0)]).send (.capFail false)

/-- The mean power over 100 ms is at most C. -/
def Eng.attainable (e : Eng) (meanW : Nat) : Eng :=
  if e.pgv.ladder ≠ 5 ∨ e.capEff < meanW then e else e.leaveUnattainable meanW

/-- Mean chip power over the last 1 ms [W] (Table 11-18). -/
def Pgv.meanPower (g : Pgv) : Nat := if g.powerHist.isEmpty then 0 else sumN (g.powerHist.map Prod.fst) / g.powerHist.length

/-- C changes as `f` has it; raised, it ends UNATTAINABLE (R307). The mean power that the event then names is the one of
RYV_PGV_POWER (DESIGN CHOICE, log entry 150). -/
def Eng.changeCap (e : Eng) (f : Pgv → Pgv) : Eng :=
  let n := e.modPgv f
  if n.pgv.ladder = 5 ∧ e.capEff < n.capEff then n.leaveUnattainable n.pgv.meanPower else n

/-! ## Faults and protective inputs (R310 to R313) -/

/-- A regulator phase of VCORE or VSRAM has failed (R310). -/
def Eng.phaseFailed (e : Eng) (r ph : Nat) : Eng :=
  let old := Tab.getD e.pgv.failedPh r []
  let n := (e.rail r).phases
  if 2 ≤ r ∨ n ≤ ph ∨ old.contains ph then e
  else
    let f := old.length + 1
    let e := e.modPgv fun g => { g with failedPh := Tab.put g.failedPh r (ph :: old), kPhase := max 1 (64 * (n - f) / n) }
    (e.noteRetired.raise 0xB5 2 0 [(16, 1, r), (17, 1, ph), (18, 1, n - f), (20, 4, e.railCeil r)]).limFall

/-- A current sense has failed (R311): both models hold from now on, until engine reset. -/
def Eng.senseFailed (e : Eng) (r cause : Nat) : Eng :=
  if e.pgv.senseBad.contains r then e
  else
    let a := e.pgv.entryM.hold
    let b := e.pgv.phaseM.hold
    let e := (e.modPgv fun g => { g with senseBad := r :: g.senseBad, entryM := { g.entryM with hold := true },
                                         phaseM := { g.phaseM with hold := true } }).raise 0xB6 2 0 [(16, 1, r), (17, 1, cause)]
    (e.noteHold 0 a true).noteHold 1 b true

/-- The readings of a PMBus poll of a rail are applied (R288, R310, R311). -/
def Eng.polled (e : Eng) (r pout : Nat) (failed : List Nat) : Eng :=
  let e := e.modPgv fun g => { g with railW := g.railW.set r pout, pmbBusy := g.pmbBusy.filter (· ≠ r)
                                      railHist := g.railHist.set r ((pout :: g.railHist.getD r []).take 10) }
  let e := failed.foldl (fun e ph => e.phaseFailed r ph) e
  if 2 ≤ r then e
  else
    let f := e.pgv.fastW.getD r 0
    let off := decide (15 * pout < 100 * (f - pout).natAbs)
    let n := if off then e.pgv.badPolls.getD r 0 + 1 else 0
    let e := e.modPgv fun g => { g with badPolls := g.badPolls.set r n }
    if 3 ≤ n then e.senseFailed r 0 else e

/-- PGV polls every regulator (R288), and reads the currents of VCORE and VSRAM over AVSBus (R289) unless REG_ALERT_N is low. -/
def Eng.pollAll (e : Eng) : Eng :=
  let e := if e.pgv.alertLow.isSome then e else e.sendAll [.avsRead 0 .current, .avsRead 1 .current]
  let e := e.modPgv fun g => { g with pmbBusy := List.range 6 }
  (List.range 6).foldl (fun e r =>
    let c := e.rail r
    let cmds := [PmCmd.readPout, .readIout, .readTemperature, .statusWord] ++ (List.range c.phases).map PmCmd.phaseIout
    e.sendAll (cmds.map fun k => .pmbus c.addr k)) e

/-- REG_ALERT_N is sampled low (R312). -/
def Eng.alert (e : Eng) (r addr status ph : Nat) : Eng :=
  let e := (e.modPgv fun g => { g with kAlert := 1, alertLow := some (g.alertLow.getD e.now), alertInfo := (r, addr, status),
                                       alertHold := none, alertSlow := none }).limFall
  let e := e.sendAll [.pmbus addr .alertResponse, .pmbus addr .statusWord]
  (e.raise 0xB3 3 0 [(16, 1, r), (17, 1, addr), (18, 2, status), (20, 1, 1)]).phaseFailed r ph

/-- REG_ALERT_N is high again (Table 11-10). A write that was held back goes out (R300). -/
def Eng.alertClear (e : Eng) : Eng :=
  match e.pgv.alertLow with
  | none => e
  | some _ =>
    let (r, addr, status) := e.pgv.alertInfo
    let e := e.raise 0xB3 3 0 [(16, 1, r), (17, 1, addr), (18, 2, status), (20, 1, 0)]
    let e := e.modPgv fun g => { g with
      alertLow := none, alertTicks := 0
      kAlert := if e.policy = 2 then 64 else 1
      alertHold := if e.policy = 0 then some (e.now + 10000000) else if e.policy = 1 then some (e.now + 1000000) else none }
    let e := if e.pgv.rateDue then e.writeRate else e
    match e.pgv.seq.blocked with
    | some (r, mv) => e.writeRail r mv
    | none => match e.pgv.seq.st, e.pgv.seq.kept with
      | 0, some t => (e.setSeq fun q => { q with kept := none }).newTarget t
      | _, _ => e

/-- REG_ALERT_N has been low for 100 ms: the engine fails, or in class 2 it is counted. -/
def Eng.alertLong (e : Eng) : Eng :=
  match e.pgv.alertLow with
  | none => e
  | some t =>
    if e.now < t + 100000000 * (e.pgv.alertTicks + 1) then e
    else
      let e := e.modPgv fun g => { g with alertTicks := g.alertTicks + 1 }
      if e.policy = 2 then e else e.declareFailed

/-- The hold of k_alert is over: it is raised by 1 per 16 µs in class 0, and released in class 1. -/
def Eng.alertHeld (e : Eng) : Eng :=
  match e.pgv.alertHold with
  | none => e
  | some t =>
    if e.now < t then e
    else if e.policy = 0 then e.modPgv fun g => { g with alertHold := none, alertSlow := some e.now }
    else e.modPgv fun g => { g with alertHold := none, kAlert := 64 }

/-- The class 0 coolant actions. -/
def Eng.coolActions (e : Eng) : Eng := (e.modPgv fun g => { g with coolAct := true, kCool := 1 }).limFall.retarget

/-- COOL_FLOW_OK is low after its debounce (Table 11-10). -/
def Eng.coolantLost (e : Eng) : Eng :=
  if e.pgv.coolLost.isSome then e.modPgv fun g => { g with coolHigh := none }
  else
    let e := (e.modPgv fun g => { g with coolLost := some e.now, coolHigh := none }).raise 0xB4 3 0
      [(16, 1, 1), (17, 1, e.policy)]
    if e.policy = 0 then e.coolActions
    else if e.policy = 1 then e.changeCap fun g => { g with coolCap := true }
    else e

/-- Flow has been lost for 2 s in class 1. -/
def Eng.coolantEscalate (e : Eng) : Eng :=
  match e.pgv.coolLost with
  | some t => if e.policy = 1 && decide (t + 2000000000 ≤ e.now) then e.coolActions else e
  | none => e

/-- COOL_FLOW_OK is high. -/
def Eng.coolantHigh (e : Eng) : Eng :=
  if e.pgv.coolLost.isSome && e.pgv.coolHigh.isNone then e.modPgv fun g => { g with coolHigh := some e.now } else e

/-- COOL_FLOW_OK has been high for 1 s: the limits are released. -/
def Eng.coolantBack (e : Eng) : Eng :=
  match e.pgv.coolHigh with
  | some t =>
    if e.now < t + 1000000000 then e
    else
      let e := e.changeCap fun g => { g with coolLost := none, coolHigh := none, coolAct := false, coolCap := false, kCool := 64 }
      (e.raise 0xB4 3 0 [(16, 1, 0), (17, 1, e.policy)]).retarget
  | none => e

/-- The hottest sensor has reached T_CRIT (R313). Temperatures are in 1/16 °C. -/
def Eng.tooHot (e : Eng) (temp sensor : Nat) : Eng :=
  if temp < 16 * e.param 0x0B17 ∨ e.pgv.critSince.isSome then e
  else
    let e := (e.modPgv fun g => { g with kTherm := 1, critSince := some e.now, tHot := temp, hotSensor := sensor }).limFall
    e.raise 0xB9 3 0 [(16, 2, temp), (18, 1, sensor)]

/-- 10 ms later: the engine fails, or its limit is released (log entry 56). -/
def Eng.stillHot (e : Eng) (temp : Nat) : Eng :=
  match e.pgv.critSince with
  | some t =>
    if e.now < t + 10000000 then e
    else if 16 * (e.param 0x0B17 - 2) < temp then e.declareFailed
    else e.modPgv fun g => { g with kTherm := 64, critSince := none }
  | none => e

/-- A quiet instar is asked for (R304). -/
def Eng.askQuiet (e : Eng) : Eng :=
  let g := e.pgv
  if g.sinceRef < 2 ^ 24 ∨ g.quietWait ≠ 0 ∨ g.quietReq then e
  else if e.param 0x0B0E ≠ 0 then
    if g.forbidTold then e
    else (e.modPgv fun g => { g with forbidTold := true }).raise 0xB8 1 0 [(16, 1, 4), (20, 4, g.sinceRef)]
  else (e.modPgv fun g => { g with quietReq := true }).raise 0xB8 1 0 [(16, 1, 3), (20, 4, g.sinceRef)]

/-! ## Throttle reasons (R317) -/

/-- The reasons of Table 11-11 active now. -/
def Eng.activeReasons (e : Eng) : Nat :=
  let g := e.pgv
  let heat := match g.ivRecord.orElse fun _ => g.startRecord with | some a => bit a.flags 3 | none => false
  let l := [decide (g.kFast < 64) && !g.overEdc, g.overEdc, decide (g.leastOp < g.seq.target), heat, g.ladder != 0,
    g.ladder == 5, decide (g.kAlert < 64), g.coolLost.isSome, decide (g.kTherm < 64), decide (g.kPhase < 64),
    !g.senseBad.isEmpty, decide (g.kStretch < 64), e.quietRuns, g.fixed]
  maskOf 14 fun i => l.getD i false

/-- One µs of the active reasons; a newly active one is reported, once an epoch. -/
def Eng.noteReasons (e : Eng) : Eng :=
  let now := e.activeReasons
  let gained := (List.range 14).filter fun i => bit now i && !bit e.pgv.reasons i && !e.tel.once.contains (0xB000 + i)
  let e := (List.range 14).foldl (fun e i => if bit now i then e.bump64 (Reg.PGV_THR_US_LO i) 1 else e) e
  let e := e.modPgv fun g => { g with reasons := now }
  if gained.isEmpty then e
  else
    let e := { e with tel := { e.tel with once := gained.map (0xB000 + ·) ++ e.tel.once } }
    e.raise 0xB0 1 0 [(16, 2, now), (18, 2, sumN (gained.map (2 ^ ·)))]

/-! ## The fast loop (R287, R288, R293, R296, R310, R311) -/

/-- The sum of the currents that a rail's phases read. -/
def sumI (l : List Int) : Int := l.foldl (· + ·) 0

/-- A rail's sample [W]: its phases' currents [mA] times its voltage [mV]. A converter may read below 0 (R311). -/
def Eng.railSample (e : Eng) (r : Nat) (ma : List Int) : Int := sumI ma * (e.pgv.railV.getD r 0 : Nat) / 1000000

/-- Phases of a rail that have sensed low for 100 µs fail (R310). -/
def Eng.watchPhases (e : Eng) (r : Nat) (ma : List Int) : Eng :=
  let lim : Int := (1000 * e.paramAt 0x0B18 r : Nat)
  let n := (e.rail r).phases
  if lim = 0 then e
  else
    let loaded := decide ((n : Int) * lim < sumI ma)
    (List.range n).foldl (fun e ph =>
      let k := r * 256 + ph
      let c := if loaded && decide (ma.getD ph 0 < lim) then Tab.getD e.pgv.lowPh k 0 + 1 else 0
      let e := e.modPgv fun g => { g with lowPh := Tab.write g.lowPh 0 k c }
      if 100 ≤ c then e.phaseFailed r ph else e) e

/-- k_phase after a sample: it falls by 8 while a rail is above its ceiling, and rises while every lessened rail is below
7/8 of its own. -/
def Eng.phaseLimit (e : Eng) (w : List Nat) : Nat :=
  let rs := Tab.keys e.pgv.failedPh
  if rs.isEmpty then e.pgv.kPhase
  else if rs.any fun r => decide (e.railCeil r < w.getD r 0) then max 1 (e.pgv.kPhase - 8)
  else if rs.all fun r => decide (8 * w.getD r 0 < 7 * e.railCeil r) then min 64 (e.pgv.kPhase + e.kSlew)
  else e.pgv.kPhase

/-- k_fast and the level after a chip sample `p` (R287, R315). -/
def Eng.fastStep (e : Eng) (p : Nat) : Eng :=
  let g := e.pgv
  let d : Int := e.depth
  let level := max (-d) (min d (g.level + e.capEff - p))
  let above := decide (e.edc < p)
  let k := if above || (decide (level < 0) && !g.fixed) then max 1 (g.kFast - 8)
    else if g.fixed || decide (d / 2 ≤ level) then min 64 (g.kFast + e.kSlew)
    else g.kFast
  e.modPgv fun g => { g with
    level := level, kFast := k, overEdc := above
    kRuns := Tab.mapVals g.kRuns fun _ r => { sum := r.sum + k, cnt := r.cnt + 1, all := r.all && k == 64 }
    defSince := if level < 0 then some (g.defSince.getD e.now) else none
    surSince := if d / 2 ≤ level then some (g.surSince.getD e.now) else none }

/-- k_stretch after a reading of the mean cluster stretch (R296). -/
def Eng.stretchStep (e : Eng) (s : Nat) : Eng :=
  e.modPgv fun g => { g with kStretch := if e.param 0x0B09 < s then max 1 (g.kStretch - 4) else min 64 (g.kStretch + e.kSlew) }

/-- k_alert of class 0 while it is raised by 1 per 16 µs. -/
def Eng.alertStep (e : Eng) : Eng :=
  match e.pgv.alertSlow with
  | none => e
  | some t =>
    let k := min 64 (1 + (e.now - t) / 16000)
    e.modPgv fun g => { g with kAlert := k, alertSlow := if k = 64 then none else g.alertSlow }

/-- The pulses of one µs enter the interval's sums; a run of 100 µs without any is a clean reference (R301, R303). -/
def Eng.takePulses (e : Eng) (compute chip : Nat) (pulses : List Nat) (tools : List (Nat × Nat)) : Eng :=
  let v := e.pgv.railV.getD 0 0
  let leak := (e.op e.pgv.seq.cur).leak
  let w (n : Nat) : Nat := n * v * v
  let none_ := pulses.all (· == 0)
  let e := e.modPgv fun g => { g with
    ivStatic := g.ivStatic + leak, ivCompute := g.ivCompute + compute, ivChip := g.ivChip + chip
    ivPulses := (List.range 16).map fun i => g.ivPulses.getD i 0 + w (pulses.getD i 0)
    ivTools := tools.foldl (fun m p => Tab.put m p.1 (Tab.getD m p.1 0 + w p.2)) g.ivTools
    refUs := if none_ then g.refUs + 1 else 0
    refEnergy := if none_ then g.refEnergy + compute else 0
    refStatic := if none_ then g.refStatic + leak else 0 }
  if e.pgv.refUs = 100 then e.cleanReference else e

/-- One µs of PGV: the chip sample, the level, the limits, the counts. `running` names the phases of running kernels. -/
def Eng.fastLoop (e : Eng) (vcoreMa vsramMa : List Int) (mv : List Nat) (stretch tHot sensor kMean : Nat) (pulses : List Nat)
    (tools : List (Nat × Nat)) (running : List Nat) : Eng :=
  let old := e.pgv.limits
  let e := if e.pgv.alertLow.isSome then e
    else (e.sendAll [.avsRead 0 .voltage, .avsRead 1 .voltage]).modPgv fun g => { g with railV := [mv.getD 0 0, mv.getD 1 0] }
  let raw : List Int := [e.railSample 0 vcoreMa, e.railSample 1 vsramMa]
  let e := (e.watchPhases 0 vcoreMa).watchPhases 1 vsramMa
  let range (e : Eng) (r : Nat) : Eng :=
    if decide (raw.getD r 0 < 0) || (0 < (e.rail r).rated && decide ((3 * (e.rail r).rated : Nat) < 2 * raw.getD r 0)) then e.senseFailed r 1
    else e
  let e := range (range e 0) 1
  let v := mv.getD 0 0
  let draw := dotF e.pgv.phaseM.theta (phaseRegs (e.op e.pgv.seq.cur).leak (pulses.map fun n => n * v * v))
  let est := wholeOf 5 (2 ^ 64) draw (fFloor draw) * 4506 / 4096
  let w := [0, 1].map fun r => if e.pgv.senseBad.contains r then est else (raw.getD r 0).toNat
  let compute := sumN w
  let p := compute + e.otherDraw
  let kp := e.phaseLimit w
  let e := e.modPgv fun g => { g with
    fastW := raw, kPhase := kp, tHot := tHot, hotSensor := sensor, kMean := kMean
    pFilt := Config.filterF32 g.pFilt (fNat p) e.tauThermal
    powerHist := ((p, compute) :: g.powerHist).take 1000
    energyUj := (g.energyUj + p) % 2 ^ 64 }
  let e := ((e.fastStep p).stretchStep stretch).alertStep
  let e := ((e.takePulses compute p pulses tools).count 9 p).limStep old
  let e := running.foldl (fun e ph => e.occur 0x0A 1 { phase := some ph }) e
  e.noteReasons

/-- A trace record of the power state (13 Table 13-6), sent where the operating point or k_lim changes. -/
def Eng.tracePower (e : Eng) (old : Pgv) : Eng :=
  if old.seq.target = e.pgv.seq.target ∧ old.kLim = e.pgv.kLim ∧ old.reasons = e.pgv.reasons then e
  else e.trace 0x0A 14 [(8, 1, e.pgv.seq.target), (9, 1, e.pgv.kLim), (10, 2, e.pgv.reasons),
    (12, 4, ((e.pgv.powerHist.head?).map Prod.fst).getD 0)]

end Sys2Proof.Machine
end

