-- ==== Sys2Proof/Machine/Ingress.lean ====
section
/-! DEFINITION. Ingress records (04 R75 to R88, R100): the tests in path order, the deduplication window, what an admitted
record does, AMEND and its effect. -/

namespace Sys2Proof.Machine

/-! ## Formats (R75, R76) -/

def recType (r : Bytes) : Nat := u8 r 0

/-- UNITS a record must have (Table 4-2). -/
def recUnits (r : Bytes) : Nat :=
  match recType r with
  | 1 => 2 | 2 => 2 + ceilDiv (u32 r 36) 8 | 3 => 2 + ceilDiv (u32 r 36) 8
  | 5 => 2 | 7 => 3 | _ => 1

/-- The offset of the first non-zero byte among those listed. -/
def firstNonzero (r : Bytes) (l : List Nat) : Option Nat := l.find? fun i => u8 r i ≠ 0

/-- Bytes from `a` to `b` inclusive. -/
def span (a b : Nat) : List Nat := (List.range (b + 1 - a)).map (a + ·)

/-- Reserved bytes and padding of a record. Bits of byte 35 of an OPEN are tested apart. -/
def reservedBytes (r : Bytes) : List Nat :=
  let head := span 28 31
  match recType r with
  | 1 => head ++ span 39 63
  | 2 => head ++ span 40 63 ++ span (64 + 4 * u32 r 36) (32 * recUnits r - 1)
  | 3 => head ++ span 40 63 ++ span (64 + 4 * u32 r 36) (32 * recUnits r - 1)
  | 5 => head ++ span 33 35 ++ span 40 63
  | 7 => head ++ [33] ++ span 56 63 ++ span 80 95
  | _ => head

def reservedFault (r : Bytes) : Option Nat :=
  let plain := firstNonzero r (reservedBytes r)
  if recType r = 1 ∧ u8 r 35 / 2 ≠ 0 then
    match plain with
    | some i => some (min i 35)
    | none => some 35
  else plain

/-- The token words of a TURN or RESUME. -/
def recTokens (r : Bytes) : List Nat := numsAt r 4 (u32 r 36) 64

/-- The byte offset that makes a record MALFORMED, or none (R76). -/
def Eng.malformed (e : Eng) (r : Bytes) (units : Nat) : Option Nat :=
  let t := recType r
  let turn := t = 2 ∨ t = 3
  if t = 0 ∨ 7 < t then some 0
  else if u8 r 1 ≠ 1 then some 1
  else if turn ∧ (u32 r 36 = 0 ∨ 65536 < u32 r 36) then some 36
  else if u16 r 2 ≠ recUnits r ∨ u16 r 2 ≠ units then some 2
  else match reservedFault r with
    | some i => some i
    | none =>
      if (t = 1 ∨ turn) ∧ 15 < u8 r 32 then some 32
      else if (t = 1 ∨ turn) ∧ 7 < u8 r 33 then some 33
      else if turn then
        match Tab.get? e.img.models (u8 r 32) with
        | some m => ((recTokens r).findIdx? fun w => decide (m.vocab ≤ w)).map fun i => 64 + 4 * i
        | none => none
      else none

/-! ## Admission stops (R84) -/

/-- The stop reason in force: the lowest-numbered that holds, 0 while admitting. -/
def Eng.stopReason (e : Eng) : Nat :=
  let lead := e.isLead
  let w := e.twm.wing
  if lead ∧ (w = .seeking ∨ w = .fenced) then 1
  else if e.stopping then 2
  else if e.ing.mismatch then 3
  else if e.up = false ∨ e.twm.term = 0 ∨ (lead ∧ w = .start) then 4
  else if lead ∧ w = .handover then 5
  else if lead ∧ w = .reintegrating then 6
  else if lead ∧ e.twm.dual then 7
  else 0

/-- Raises ING_ADMIT_STOPPED where admission stopped, changed its reason or resumed. -/
def Eng.noteAdmission (e : Eng) : Eng :=
  let r := e.stopReason
  if r = e.ing.reason then e
  else
    let old := e.ing.reason
    Eng.raise { e with ing := { e.ing with reason := r } } 0x23 3 0 [(16, 1, if r = 0 then old else r), (17, 1, b2n (r ≠ 0))]

/-! ## The window (R79, R80) -/

inductive WinVerdict where
  | new | stale | pending | done
  deriving DecidableEq, Repr

/-- window_check of R79. -/
def windowCheck (p : Win) (s : Nat) : WinVerdict × Win :=
  if s = 0 then (.stale, p)
  else if s ≤ p.high ∧ 4096 ≤ p.high - s then (.stale, p)
  else
    let high := max p.high s
    let keep (q : Nat) : Bool := decide (high - q < 4096)
    let p := { p with high := high, seen := p.seen.filter keep, pending := p.pending.filter keep }
    if !p.seen.contains s then (.new, { p with seen := s :: p.seen, pending := s :: p.pending })
    else if p.pending.contains s then (.pending, p)
    else (.done, p)

def Eng.win (e : Eng) (slot : Nat) : Win := Tab.getD e.ing.windows slot {}
def Eng.setWin (e : Eng) (slot : Nat) (w : Win) : Eng := { e with ing := { e.ing with windows := Tab.put e.ing.windows slot w } }

/-- The tenant of a record's producer slot. -/
def Eng.recTenant (e : Eng) (r : Bytes) : Nat := (Tab.getD e.img.producers (u32 r 4 % 65536) {}).tenant

/-! ## Answers -/

/-- The trace of an admission decision (13 Table 13-6): ING island. -/
def Eng.traceAdmit (e : Eng) (tag typ code tenant : Nat) : Eng :=
  e.trace 5 1 [(8, 4, tag), (12, 1, typ), (13, 1, code), (14, 2, tenant)]

/-- REJECT of a record with a code and its detail (R80, R82, R83, R93); `windowed` records were NEW in their window. -/
def Eng.reject (e : Eng) (r : Bytes) (src code value : Nat) (tenant : Option Nat) (windowed : Bool) : Eng :=
  let slot := u32 r 4 % 65536
  let seq := u64 r 8
  let e := if !windowed then e
    else
      let w := e.win slot
      e.setWin slot { w with seen := w.seen.filter (· ≠ seq), pending := w.pending.filter (· ≠ seq) }
  let e := ((e.bump (Reg.ING_REJECT code) 31 0 1).count 3 1).occur 0x04 1 { unit := some code }
  let e := match tenant with
    | some t => e.setPage t fun p => { p with reject := Tab.put p.reject code (sat32 (Tab.getD p.reject code 0 + 1)) }
    | none => e
  let e := e.traceAdmit (u32 r 16) (recType r) code (tenant.getD 0)
  e.send (.emission src (answerBytes 2 code 0 r (u32 r 16) value []))

/-- STATUS of a record. -/
def Eng.status (e : Eng) (r : Bytes) (src code : Nat) (body : List (Nat × Nat × Nat)) : Eng :=
  e.send (.emission src (answerBytes 6 code 0 r (u32 r 16) 0 body))

/-- Drops a record unanswered. -/
def Eng.dropRecord (e : Eng) : Eng := e.bump Reg.ING_DROPPED 31 0 1

/-- MALFORMED, with its event. -/
def Eng.rejectMalformed (e : Eng) (r : Bytes) (src off : Nat) : Eng :=
  (e.raise 0x21 1 0 [(16, 1, recType r), (18, 2, off), (20, 4, u32 r 4)]).reject r src 0x01 off none false

/-- AUTH, with its event: `why` 0 unknown producer, 1 source mismatch, 2 MAC, 3 stale AMEND_SEQ. -/
def Eng.rejectAuth (e : Eng) (r : Bytes) (src why value : Nat) : Eng :=
  (e.raiseOnce 0x2000 0x20 2 0 [(16, 4, u32 r 4), (20, 3, src), (23, 1, recType r), (24, 1, why)]).reject r src 0x02 value
    none false

/-- The AUTH test of R77: none when it passes, else the event's reason. -/
def Eng.authFault (e : Eng) (r : Bytes) (src : Nat) : Option Nat :=
  match Tab.get? e.img.producers (u32 r 4 % 65536) with
  | some p => if !p.valid || p.id != u32 r 4 then some 0 else if p.source ≠ src then some 1 else none
  | none => some 0

/-! ## The ledger's and the directory's tests (Table 4-5) -/

/-- The charge of a record (R91). -/
def Eng.chargeOf (e : Eng) (r : Bytes) : Nat :=
  let c := e.tcfg (e.recTenant r)
  match recType r with
  | 1 => c.openCost
  | 2 => u32 r 36 * c.prefillW
  | 3 => u32 r 36 * c.prefillW
  | _ => 0

/-- LDG's tests of OPEN, TURN and RESUME, after the refill: a code and detail, or none. -/
def Eng.ledgerFault (e : Eng) (r : Bytes) : Option (Nat × Nat) :=
  let t := e.recTenant r
  let c := e.tcfg t
  let s := e.tst t
  let m := u8 r 32
  if recType r = 4 then none
  else if !c.enabled then some (0x06, 0)
  else if (Tab.get? e.img.models m).isNone ∨ bit c.modelMask m = false then some (0x07, 0)
  else if bit c.dclassMask (u8 r 33) = false then some (0x08, 0)
  else if recType r = 1 ∧ c.maxSessions ≠ 0 ∧ c.maxSessions * 256 ≤ s.live then some (0x09, s.live)
  else if s.level < e.chargeOf r then some (0x0A, sat32 ((e.chargeOf r : Int) - s.level).toNat)
  else none

/-- SPARAM and GRAMMAR_ID name valid records (07 R164, 08 R186). -/
def Eng.openParamsOk (e : Eng) (r : Bytes) : Bool :=
  (Tab.get? e.img.sparams (u32 r 36)).isSome &&
    (!bit (u8 r 35) 0 || match Tab.get? e.img.grammars (u8 r 34) with
      | some g => bit (u16 g 2) (u8 r 32)
      | none => false)

/-- DIR's tests of TURN, RESUME and CLOSE against the entry. -/
def Eng.entryFault (e : Eng) (r : Bytes) (x : Entry) : Option (Nat × Nat) :=
  let t := recType r
  let turn := t = 2 ∨ t = 3
  let stateOk := match t with
    | 2 => x.state == .idle
    | 3 => x.state == .yielded
    | _ => x.state != .closing
  let expect := u32 r 24
  if x.tenant ≠ e.recTenant r then some (0x0D, 0)
  else if !stateOk then some (0x0E, x.state.code)
  else if (turn ∧ (u8 r 32 ≠ x.model ∨ u8 r 33 ≠ x.dclass)) ∨ (expect ≠ 0xFFFFFFFF ∧ expect ≠ x.turnSeq) ∨
      (turn ∧ (u16 r 34 ≠ x.toolId ∨ (t = 3 ∧ (e.img.tools.any fun l => u16 l.2.raw 0 == x.toolId && bit (u8 l.2.raw 3) 0)))) then
    some (0x0F, x.turnSeq)
  else if turn ∧ (e.model x.model).context < x.position + u32 r 36 then some (0x10, x.position)
  else none

/-! ## Admission -/

/-- The answer that is owed to a record once its journal record is durable; the tenant is the admitted record's (R93). -/
def Eng.owed (e : Eng) (q : InRec) (tag turn : Nat) : Option Answer :=
  some { index := 0, raw := q.raw, src := q.src, tag := tag, turn := turn, tenant := e.recTenant q.raw }

/-- Debits an admitted record's charge (R91). -/
def Eng.debitRecord (e : Eng) (r : Bytes) : Eng :=
  let t := e.recTenant r
  let s := e.tst t
  e.setTst t { s with level := s.level - e.chargeOf r }

/-- An OPEN is admitted (Table 3-2): the entry is written and ADMIT journaled. -/
def Eng.admitOpen (e : Eng) (q : InRec) (tag : Nat) : Eng :=
  let r := q.raw
  let t := e.recTenant r
  let e := e.debitRecord r
  let s := e.tst t
  let e := e.setTst t { s with live := s.live + 1 }
  let x : Entry := { tag := tag, tenant := t, model := u8 r 32, state := .idle, dclass := u8 r 33,
                     grammarId := if bit (u8 r 35) 0 then u8 r 34 else 0, grammarOn := bit (u8 r 35) 0, sparam := u32 r 36,
                     lastAct := actTime e.now }
  let e := ((e.countInsert tag).putEntry x).traceAdmit tag 1 0 t
  e.launchAdmit { record := .admitted 0 false tag (u32 r 4) (u64 r 8) 0 x.model x.dclass t q.at_ 0 x.grammarId x.grammarOn x.sparam []
                  answer := e.owed q tag 0 }

/-- A TURN or RESUME of session `x` is admitted: kind 1 TURN, 2 RESUME. Its t_in is the time at which ING read it (R98). -/
def Eng.admitTurn (e : Eng) (q : InRec) (kind : Nat) (x : Entry) : Eng :=
  let r := q.raw
  let toks := recTokens r
  let n := toks.length
  let e := e.debitRecord r
  let turn := x.turnSeq + 1
  let tool := x.toolId
  let e := e.startTurn x.tag turn x.dclass x.model x.tenant q.at_ n
  let e := e.resumePlace x tool (kind == 1) q.at_
  let x := (e.find x.tag).getD x
  let e := e.putEntry (e.touched { x with state := .queued, position := x.position + n, turnSeq := turn, toolId := 0,
                                          grammarState := if kind = 1 then 0 else x.grammarState })
  let e := { e with smp := { e.smp with turnCount := Tab.del e.smp.turnCount x.tag }
                    pln := { e.pln with matched := e.pln.matched.filter (· ≠ x.tag) } }
  let e := e.setPage x.tenant fun p => { p with fed := (p.fed + n) % 2 ^ 64 }
  let e := e.traceAdmit x.tag (kind + 1) 0 x.tenant
  e.launchAdmit { record := .admitted kind false x.tag (u32 r 4) (u64 r 8) turn x.model x.dclass x.tenant q.at_ tool x.grammarId
                              x.grammarOn x.sparam toks
                  answer := e.owed q x.tag turn }

/-- Cancels a session's local tool job (08 R205): the cancel message goes down the tree and DSQ is told. -/
def Eng.cancelTool (e : Eng) (tag : Nat) : Eng :=
  (e.smp.tools.filter fun r => r.tag == tag).foldl (fun e r =>
    let e := { e with smp := { e.smp with tools := e.smp.tools.filter (· ≠ r) } }
    if !r.running then e
    else
      let e := { e with smp := { e.smp with cancels := e.smp.cancels ++ [(r.instar, tag)] } }
      e.down 0x08 (layout 64 [(0, 6, r.instar), (8, 4, tag), (12, 4, ((e.find tag).map Entry.position).getD 0), (16, 2, r.tool)])) e

/-- A session's turn is in progress, as its summary shows: it has an ADMIT of a turn or a COMMIT last, or such an ADMIT waits
to be launched. -/
def Eng.turnOpen (e : Eng) (tag : Nat) : Bool :=
  let s := e.sum tag
  s.lastType == 2 || (s.lastType == 1 && s.turnSeq != 0) || e.twm.admits.any fun a => match a.record with
    | .admitted kind _ t .. => t == tag && kind != 0
    | _ => false

/-- A session becomes CLOSING (Table 3-2): kind 0 client, 1 expiry. LAST_ACT is set by a client's record; an expiry is none
(03 R59). DESIGN CHOICE: HOLD_REASON of a HELD session becomes 0, of which Table 3-2 says nothing (log entry 122). -/
def Eng.startClose (e : Eng) (x : Entry) (kind pid pseq : Nat) (answer : Option Answer) : Eng :=
  let e := if kind = 0 && e.turnOpen x.tag then { e with twm := { e.twm with endOnClose := x.tag :: e.twm.endOnClose } } else e
  let e := if x.sticky then { e with smp := { e.smp with drops := e.smp.drops ++ [x.tag] } } else e
  let e := ((e.cancelTool x.tag).closePlace x).endResv x.tag
  let e := e.modEntry x.tag fun x => { x with state := .closing, hold := 0, lastAct := if kind = 0 then actTime e.now else x.lastAct }
  e.launchAdmit { record := .close kind x.tag pid pseq x.turnSeq, answer := answer }

/-- The tests of LDG and DLN on a record that ING admitted, in path order (R83): a code with its detail, or none; and the
engine with the tenant's bucket refilled, at each record of the tenant (R90), and the period computed. -/
def Eng.pathTest (e : Eng) (r : Bytes) : Option (Nat × Nat) × Eng :=
  let t := recType r
  let e := e.refill (e.recTenant r)
  match e.ledgerFault r with
  | some f => (some f, e)
  | none => if t = 2 ∨ t = 3 then e.admissionTest (t == 3) (u8 r 33) (u8 r 32) (u32 r 36) else (none, e)

/-- OPEN, TURN, RESUME or CLOSE that is NEW and admissible at ING: LDG, DLN and DIR in turn (R83, R88). A rejection at a
later stage undoes the debit and the reservation, so they are made once every test has passed. -/
def Eng.decide_ (e : Eng) (q : InRec) : Eng :=
  let r := q.raw
  let t := recType r
  let tenant := e.recTenant r
  let no (e : Eng) (c v : Nat) : Eng := e.reject r q.src c v (some tenant) true
  match e.pathTest r with
  | (some (c, v), e) => no e c v
  | (none, e) =>
    if t = 1 then
      if !e.openParamsOk r then no e 0x11 0
      else match e.allocTag with
        | some (tag, e) => e.admitOpen q tag
        | none =>
          let n := (e.dir.fullSince.getD 0) + 1
          let e := if e.dir.fullSince.isNone ∨ 2 ^ 20 ≤ n then
              Eng.raise { e with dir := { e.dir with fullSince := some 0 } } 0x35 2 0 [(16, 4, e.ownedCount), (20, 4, n)]
            else { e with dir := { e.dir with fullSince := some n } }
          no e 0x12 0
    else
      let found := e.lookup (u32 r 16) (q.fetch == .got)
      let e := found.2
      match found.1 with
      | none => no e 0x0D 0
      | some x =>
        match e.entryFault r x with
        | some (c, v) => no e c v
        | none =>
          if t = 4 then
            let e := e.traceAdmit x.tag 4 0 x.tenant
            e.startClose x 0 (u32 r 4) (u64 r 8) (e.owed q x.tag x.turnSeq)
          else e.admitTurn q (t - 1) x

/-- OPEN, TURN, RESUME or CLOSE whose window is on die: the window, then the wing's stop reasons, then the stages. -/
def Eng.classify (e : Eng) (q : InRec) : Eng :=
  let r := q.raw
  let slot := u32 r 4 % 65536
  let seq := u64 r 8
  let (v, w) := windowCheck (e.win slot) seq
  let e := e.setWin slot w
  match v with
  | .stale => e.reject r q.src 0x03 (w.high % 2 ^ 32) (some (e.recTenant r)) false
  | .pending => e.dropRecord
  | .done => { e with ing := { e.ing with reading := e.ing.reading ++ [{ raw := r, src := q.src, at_ := e.now }] } }
  | .new =>
    let why := e.stopReason
    if why ≠ 0 then e.reject r q.src 0x04 why (some (e.recTenant r)) true else e.decide_ q

/-- The lookup of a TURN, RESUME or CLOSE that has passed ING, LDG and DLN has to wait for its entry (03 R68). The record then
waits with its effects not begun, and every test is made once its entry is there (log entry 34). -/
def Eng.entryMissing (e : Eng) (q : InRec) : Bool :=
  let t := recType q.raw
  (t == 2 || t == 3 || t == 4) && q.fetch == .no && e.misses (u32 q.raw 16) && e.stopReason == 0 &&
    decide ((windowCheck (e.win (u32 q.raw 4 % 65536)) (u64 q.raw 8)).1 = .new) && (e.pathTest q.raw).1.isNone

/-- ING's cached windows: room is made for `slot` among 4,096 (R81). -/
def Eng.cacheWindow (e : Eng) (slot : Nat) : Eng :=
  if e.ing.cached.contains slot then e
  else
    let c := e.ing.cached
    if c.length < 4096 then { e with ing := { e.ing with cached := slot :: c } }
    else
      let (k, e) := e.fresh
      { e with ing := { e.ing with cached := slot :: c.eraseIdx (Config.windowVictim k % c.length) } }

/-- Takes the records that wait, in read order, until one misses its window, which is counted (R81), or its entry, whose fill
it asks for (R87, 03 R68). -/
def Eng.drainIngress : Nat → Eng → Eng
  | 0, e => e
  | fuel + 1, e =>
    match e.ing.waiting with
    | [] => e
    | q :: l =>
      let head (e : Eng) (q : InRec) : Eng := { e with ing := { e.ing with waiting := q :: l } }
      if e.ing.cached.contains (u32 q.raw 4 % 65536) = false then
        if q.missed.isSome then e else (head e { q with missed := some e.now }).bump Reg.ING_WIN_MISSES 31 0 1
      else if q.fetch = .asked then e
      else if e.entryMissing q then
        Eng.drainIngress fuel ((head e { q with fetch := .asked }).request (u32 q.raw 16) 0)
      else Eng.drainIngress fuel (Eng.classify { e with ing := { e.ing with waiting := l } } q)

/-- Takes what can be taken: each record meets at most a fill and its classification. -/
def Eng.drain (e : Eng) : Eng := Eng.drainIngress (2 * e.ing.waiting.length + 1) e

/-! ## PROBE and PIN (R82, R87, 09 R230) -/

def statusBody (x : Entry) : List (Nat × Nat × Nat) :=
  [(32, 1, x.state.code), (33, 1, x.residency), (34, 1, x.dclass), (35, 1, x.hold), (36, 4, x.position), (40, 4, x.kvLen),
   (44, 4, x.turnSeq)]

def Eng.probe (e : Eng) (q : InRec) : Eng :=
  let r := q.raw
  let src := q.src
  let t := e.recTenant r
  if u32 r 16 = 0 then
    let e := e.refill t
    e.status r src 2 [(32, 8, unsigned 64 (e.tst t).level), (40, 4, (e.tst t).live)]
  else
    let found := e.lookup (u32 r 16) (q.fetch == .got)
    match found.1 with
    | some x => if x.tenant = t then found.2.status r src 1 (statusBody x) else found.2.reject r src 0x0D 0 (some t) false
    | none => found.2.reject r src 0x0D 0 (some t) false

def Eng.pinHint (e : Eng) (q : InRec) : Eng :=
  let r := q.raw
  let src := q.src
  let t := e.recTenant r
  if e.stopReason ≠ 0 then e.reject r src 0x04 e.stopReason (some t) false
  else
    let found := e.lookup (u32 r 16) (q.fetch == .got)
    match found.1 with
    | some x =>
      if x.tenant ≠ t then found.2.reject r src 0x0D 0 (some t) false
      else
        let p := found.2.setPin x (u8 r 32) (u32 r 36)
        p.2.status r src 3 [(32, 1, p.1)]
    | none => found.2.reject r src 0x0D 0 (some t) false

/-- A PIN or PROBE whose entry is there. -/
def Eng.look (e : Eng) (q : InRec) : Eng := if recType q.raw = 5 then e.pinHint q else e.probe q

/-- A PIN or PROBE: it waits where its lookup misses (03 R68); a PIN that ING refuses and a tenant PROBE look nothing up. -/
def Eng.lookOrWait (e : Eng) (q : InRec) : Eng :=
  let tag := u32 q.raw 16
  let looks := if recType q.raw = 5 then e.stopReason == 0 else tag != 0
  if looks && e.misses tag then
    Eng.request { e with ing := { e.ing with looking := e.ing.looking ++ [{ q with fetch := .asked }] } } tag 0
  else e.look q

/-- The records whose entries are there now go on. -/
def Eng.takeFetched (e : Eng) : Eng :=
  let go := e.ing.looking.filter fun q => q.fetch == .got
  let e := { e with ing := { e.ing with looking := e.ing.looking.filter fun q => q.fetch != .got } }
  (go.foldl Eng.look e).drain

/-! ## AMEND (R78, R100) -/

/-- PARAM, INDEX and VALUE of an AMEND are ones this engine takes (Table 4-9, 11 R285). -/
def Eng.amendOk (e : Eng) (param index value : Nat) : Bool :=
  match param with
  | 1 => e.isLead && decide (index < 1024 ∧ value ≤ 1)
  | 2 => e.isLead && decide (index < 1024 ∧ value < 2 ^ 32)
  | 3 => e.isLead && decide (index < 1024 ∧ 1 ≤ value ∧ value < 2 ^ 32)
  | 4 => e.isLead && decide (index < 1024 ∧ 1 ≤ value ∧ value ≤ 65535)
  | 5 => e.isLead && decide (index < 1024 ∧ value ≤ 65535)
  | 6 => e.isLead && decide (index < 65536) && !bit value 30
  | 7 => decide (index = 0 ∧ 100 ≤ value ∧ value ≤ e.param 0x0B01)
  | _ => false

/-- An AMEND takes effect (R100). -/
def Eng.applyAmend (e : Eng) (param index value : Nat) : Eng :=
  let cfg (e : Eng) (f : TenantCfg → TenantCfg) : Eng :=
    { e with img := { e.img with tenants := Tab.put e.img.tenants index (f (e.tcfg index)) } }
  match param with
  | 1 => cfg e fun c => { c with enabled := decide (value = 1) }
  | 2 => cfg (e.refill index) fun c => { c with rate := value }
  | 3 =>
    let e := cfg e fun c => { c with depth := value }
    let s := e.tst index
    e.setTst index { s with level := min s.level ((value * 256 : Nat) : Int) }
  | 4 => cfg e fun c => { c with weight := value }
  | 5 => cfg e fun c => { c with maxSessions := value }
  | 6 =>
    let old := Tab.getD e.img.producers index {}
    let p : Producer := { valid := bit value 31, tenant := bitsOf value 29 20, id := value / 2 ^ 32, source := value % 2 ^ 20 }
    let e := { e with img := { e.img with producers := Tab.put e.img.producers index p } }
    if old.id = p.id then e else e.setWin index {}
  | 7 => e.changeCap fun g => { g with cap := value }
  | _ => e

/-- The durable AMENDs take effect: on the Lead at a seal, on another engine at the check of descriptor `instar`, which
its STATUS names. -/
def Eng.amendEffects (e : Eng) (instar : Nat) : Eng :=
  let go := e.ing.amends.filter PendAmend.durable
  let e := { e with ing := { e.ing with amends := e.ing.amends.filter fun a => !a.durable } }
  go.foldl (fun e a =>
    let e := e.applyAmend a.param a.index a.value
    if a.answered then e
    else e.send (.emission a.src (answerBytes 6 4 0 a.raw 0 0 [(32, 2, a.param), (36, 4, a.index), (40, 8, instar)]))) e

/-- The MAC of an AMEND (R78). -/
def Eng.amendMac (e : Eng) (r : Bytes) : Bytes := (hmac e.img.keys.amend (r.take 64)).take 16

def Eng.amend (e : Eng) (r : Bytes) (src units : Nat) : Eng :=
  if 32 < r.length ∧ u8 r 32 ≠ e.img.rank then e.dropRecord
  else match e.malformed r units with
    | some off => e.rejectMalformed r src off
    | none =>
      let aseq := u64 r 48
      if slice r 64 16 ≠ e.amendMac r then e.rejectAuth r src 2 0
      else if aseq ≤ e.ing.amendSeq then e.rejectAuth r src 3 (e.ing.amendSeq % 2 ^ 32)
      else if e.stopReason ≠ 0 then e.reject r src 0x04 e.stopReason none false
      else
        let param := u16 r 34
        let index := u32 r 36
        let value := u64 r 40
        if !e.amendOk param index value then e.reject r src 0x05 param none false
        else
          let e := { e with ing := { e.ing with amendSeq := aseq } }
          let e := e.raise 0x22 1 0 [(16, 2, param), (20, 4, index), (24, 8, value)]
          let a : PendAmend := { param := param, index := index, value := value, jindex := 0, raw := r, src := src }
          let e := { e with ing := { e.ing with amends := e.ing.amends ++ [a] } }
          e.launchAdmit { record := .amend e.img.rank param index value aseq }

/-! ## The record as ING reads it -/

/-- ING reads a record (R22, R76 to R87). -/
def Eng.ingest (e : Eng) (r : Bytes) (src units : Nat) : Eng :=
  let e := e.bump64 Reg.ING_RECORDS_LO 1
  let t := recType r
  if t = 7 then e.amend r src units
  else if !e.isLead then e.dropRecord
  else match e.malformed r units with
    | some off => e.rejectMalformed r src off
    | none =>
      match e.authFault r src with
      | some why => e.rejectAuth r src why 0
      | none =>
        let q : InRec := { raw := r, src := src, at_ := e.now }
        if t = 5 ∨ t = 6 then e.lookOrWait q
        else Eng.drain { e with ing := { e.ing with waiting := e.ing.waiting ++ [q] } }

/-- A producer window has been read from HBM (R81, wait code 12). -/
def Eng.windowFilled (e : Eng) (slot : Nat) : Eng :=
  match e.ing.waiting with
  | [] => e
  | r :: _ =>
    if u32 r.raw 4 % 65536 ≠ slot ∨ e.ing.cached.contains slot then e
    else ((e.waitEnd 12 1 slot (r.missed.getD r.at_)).cacheWindow slot).drain

/-- An outcome word has been read: the DUP_DONE record is answered again (Table 4-3). -/
def Eng.outcomeRead (e : Eng) (slot seq : Nat) : Eng :=
  let mine (r : InRec) : Bool := u32 r.raw 4 % 65536 == slot && u64 r.raw 8 == seq
  match e.ing.reading.find? mine with
  | none => e
  | some r =>
    let w := Tab.getD e.ing.outcomes (outcomeKey slot seq) 0
    let e := { e with ing := { e.ing with reading := e.ing.reading.erase r } }
    let e := e.bump Reg.ING_DUPLICATES 31 0 1
    let isOpen := recType r.raw == 1
    e.send (.emission r.src (answerBytes 1 0 1 r.raw (if isOpen then w else u32 r.raw 16) (if isOpen then 0 else w) []))

/-- The producer-window read of the record at the head has failed twice: the record is dropped unanswered (02 R405). -/
def Eng.windowReadFailed (e : Eng) (slot : Nat) : Eng :=
  match e.ing.waiting with
  | [] => e
  | r :: l =>
    if u32 r.raw 4 % 65536 ≠ slot ∨ e.ing.cached.contains slot then e
    else (Eng.dropRecord { e with ing := { e.ing with waiting := l } }).drain

end Sys2Proof.Machine
end

