-- ==== Sys2Proof/Machine/Barrier.lean ====
section
/-! DEFINITION. Instar descriptors, allowance records and instar-end reports (05 R110, R123 to R128): their bytes, the
gathering of reports up the tree, and the barrier at the Lead. -/

namespace Sys2Proof.Machine

/-! ## Descriptor bytes (R123, R124) -/

/-- The 32 bytes of an entry (Table 5-9). -/
def DEntry.bytes (x : DEntry) : Bytes :=
  let b := layout 30 [(0, 4, x.tag), (4, 4, x.kvStart), (8, 2, x.feed),
    (10, 1, b2n x.turnFirst * 64 + b2n x.prefixNew * 32 + x.drafts * 4 + x.kind),
    (11, 1, b2n x.grammarOn * 128 + x.dclass * 16 + x.model),
    (12, 4, x.grammarId * 2 ^ 24 + x.sparam), (16, 2, x.grammarState), (18, 2, x.prefixId),
    (20, 2, b2n x.prefixOn * 1024 + x.tenant), (24, 4, x.samplePos)]
  b ++ leBytes 2 (crc32c b)

/-- The entry in 32 bytes. -/
def DEntry.parse (b : Bytes) : DEntry :=
  let f := u8 b 10
  { tag := u32 b 0, kvStart := u32 b 4, feed := u16 b 8, turnFirst := bit f 6, prefixNew := bit f 5,
    drafts := bitsOf f 4 2, kind := f % 4, grammarOn := bit (u8 b 11) 7, dclass := bitsOf (u8 b 11) 6 4,
    model := u8 b 11 % 16, grammarId := u8 b 15, sparam := u32 b 12 % 2 ^ 24, grammarState := u16 b 16,
    prefixId := u16 b 18, prefixOn := bit (u16 b 20) 10, tenant := u16 b 20 % 1024, samplePos := u32 b 24 }

/-- Consecutive pieces of `n` bytes, at most `k` of them. -/
def pieces (n : Nat) : Nat → Bytes → List Bytes
  | 0, _ => []
  | k + 1, b => if b.length < n ∨ n = 0 then [] else b.take n :: pieces n k (b.drop n)

/-- The entry bytes of a descriptor, one piece each. -/
def descPieces (raw : Bytes) : List Bytes := pieces 32 (u16 raw 12) (raw.drop 64)
def descEntries (raw : Bytes) : List DEntry := (descPieces raw).map DEntry.parse

/-- HDR_CRC, ENTRY_CRC and every CHECK hold (R126). -/
def descOk (raw : Bytes) : Bool :=
  raw.length == 64 + 32 * u16 raw 12 && crcOk raw 64 && u32 raw 56 == crc32c (raw.drop 64) &&
    (descPieces raw).all fun b => u16 b 30 == crc32c (b.take 30) % 65536

/-- wcet_entry of R108 [ps]. -/
def Eng.wcetEntry (e : Eng) (x : DEntry) : Nat :=
  let m := e.model x.model
  if x.kind = 2 then min m.seqPs (m.seq0Ps + m.ctxPs * x.ctxUnits) + x.drafts * m.tokPs else x.feed * m.tokPs

/-- The weight of an entry in the share clocks: the decode and prefill terms of R95 (04 R92). -/
def Eng.weightOf (e : Eng) (x : DEntry) : Nat :=
  let m := e.model x.model
  if x.kind = 2 then m.seqPs else x.feed * m.tokPs

/-! ## Allowance records (R110) -/

def Allow.bytes (a : Allow) : Bytes :=
  layout 32 [(0, 4, a.instar), (4, 4, a.eAllow), (8, 4, a.e0), (12, 4, a.eTok), (16, 4, a.eSmp), (20, 4, a.eCtx),
    (24, 2, a.widthCap), (26, 2, a.idleUs), (28, 1, a.flags), (29, 1, a.rank)]

def Allow.parse (b : Bytes) : Allow :=
  { instar := u32 b 0, eAllow := u32 b 4, e0 := u32 b 8, eTok := u32 b 12, eSmp := u32 b 16, eCtx := u32 b 20,
    widthCap := u16 b 24, idleUs := u16 b 26, flags := u8 b 28, rank := u8 b 29 }

/-! ## Flights -/

def Eng.modFlight (e : Eng) (num : Nat) (f : Flight → Flight) : Eng :=
  { e with cmp := { e.cmp with flights := updWhere (fun x => x.num == num) f e.cmp.flights } }

/-- The instar sealed at the Lead whose commit is not done. -/
def Eng.inFlight (e : Eng) : Option Flight := e.cmp.flights.find? fun f => !f.done

/-- Drops what the Lead no longer needs of instars that are over: committed, with their barrier complete. -/
def Eng.retireFlights (e : Eng) : Eng :=
  { e with cmp := { e.cmp with flights := e.cmp.flights.filter fun f => !(f.done && decide (f.endTs ≠ 0)) } }

/-! ## The barrier at the Lead (R127, 04 R92, R97) -/

/-- The key of a (instar, rank) in the tables of reports. -/
def repKey (instar rank : Nat) : Nat := instar * 64 + rank

/-- The end of an instar: the share clocks, the durations of R96 and RYV_CMP_BARRIER. -/
def Eng.barrierDone (e : Eng) (instar : Nat) : Eng :=
  let e := { e with cmp := { e.cmp with barrier := instar } }
  match e.cmp.flights.find? fun f => f.num % 2 ^ 32 == instar with
  | none => e
  | some f =>
    let dur := e.now - f.launch
    let ws := f.entries.foldl (fun m x => Tab.put m x.tenant (Tab.getD m x.tenant 0 + e.weightOf x)) ([] : Tab Nat)
    let e := e.shareClocks dur ws
    let e := { e with dln := { e.dln with durations := (dur :: e.dln.durations).take 64 } }
    let e := e.traceInstar 8 4 f.num
    (e.modFlight f.num fun x => { x with endTs := max e.now 1 }).retireFlights

/-- The Lead takes one report: sigma, the allowance record and the barrier. -/
def Eng.leadReport (e : Eng) (r : Bytes) : Eng :=
  let rank := u8 r 11
  let instar := u32 r 0
  let a := Allow.parse (slice r 32 32)
  if e.img.n ≤ rank then e
  else
    let e := { e with cmp := { e.cmp with newest := Tab.put e.cmp.newest rank a } }
    if instar = 0xFFFFFFFF then
      { e with cmp := { e.cmp with started := if e.cmp.started.contains rank then e.cmp.started else rank :: e.cmp.started } }
    else
      let k := repKey instar rank
      let e := { e with cmp := { e.cmp with byBarrier := Tab.put e.cmp.byBarrier k a
                                            reported := if e.cmp.reported.contains k then e.cmp.reported else k :: e.cmp.reported } }
      let all := (List.range e.img.n).all fun q => e.cmp.reported.contains (repKey instar q)
      if !all then e
      else
        let e := { e with cmp := { e.cmp with
          reported := e.cmp.reported.filter fun k => k / 64 ≠ instar
          byBarrier := e.cmp.byBarrier.filter fun p => decide (instar ≤ p.1 / 64 + 2) } }
        e.barrierDone instar

/-- Notes a chip's sigma; a change is reported (04 R97). -/
def Eng.takeSigma (e : Eng) (rank sigma instar : Nat) : Eng :=
  let rs := Tab.put e.cmp.sigmas rank sigma
  let s := max0 (Tab.vals rs)
  let e := { e with cmp := { e.cmp with sigmas := rs } }
  if s = e.dln.sigma ∨ instar = 0xFFFFFFFF ∧ s ≤ e.dln.sigma then e
  else
    Eng.raise { e with dln := { e.dln with sigma := s } } 0x51 1 0 [(16, 2, s)]

/-! ## Gathering reports (R127) -/

/-- The ranks of the subtree rooted at `r` (R125). -/
def subtree (n : Nat) : Nat → Nat → List Nat
  | 0, _ => []
  | d + 1, r => if n ≤ r then [] else r :: ([1, 2, 3, 4].flatMap fun i => subtree n d (4 * r + i))

/-- A report of this chip or of its subtree is in: the reports of the subtree go up together. -/
def Eng.gatherReport (e : Eng) (r : Bytes) (own : Bool) : Eng :=
  if e.isLead then (e.leadReport r).takeSigma (u8 r 11) (u16 r 8) (u32 r 0)
  else
    let k := u32 r 0
    let g := Tab.getD e.cmp.gather k {}
    let g := { g with reports := if g.reports.contains r then g.reports else g.reports ++ [r], own := g.own || own }
    let need := subtree e.img.n 4 e.img.rank
    if g.own && need.all fun q => g.reports.any fun b => u8 b 11 == q then
      let e := { e with cmp := { e.cmp with gather := Tab.del e.cmp.gather k } }
      g.reports.foldl (fun e b => e.upward 0x06 b) e
    else { e with cmp := { e.cmp with gather := Tab.put e.cmp.gather k g } }

/-- The chip's status byte, which the report takes away. -/
def Eng.reportBytes (e : Eng) (instar shardNs status sigma : Nat) (a : Allow) : Bytes :=
  layout 32 [(0, 4, instar), (4, 4, min shardNs 0xFFFFFFFF), (8, 2, sigma), (10, 1, status), (11, 1, e.img.rank)]
    ++ { a with rank := e.img.rank }.bytes

end Sys2Proof.Machine
end

