-- ==== Sys2Proof/Machine/Partition.lean ====
section
/-! DEFINITION. Partitions, jobs and pre-emption (06): the groups and their transfers, issue and placement, semaphores,
link credits and donation, partition faults, shards and their end. -/

namespace Sys2Proof.Machine

/-! ## Groups and partitions (R131 to R134, R150, R151) -/

def Eng.pcfg (e : Eng) (p : Nat) : PartCfg := Tab.getD e.img.partitions p {}
def Eng.part (e : Eng) (p : Nat) : Part := Tab.getD e.dsq.parts p {}
def Eng.setPart (e : Eng) (p : Nat) (f : Part → Part) : Eng :=
  { e with dsq := { e.dsq with parts := Tab.put e.dsq.parts p (f (e.part p)) } }
def Eng.group (e : Eng) (g : Nat) : Group := Tab.getD e.dsq.groups g {}
def Eng.setGroup (e : Eng) (g : Nat) (f : Group → Group) : Eng :=
  { e with dsq := { e.dsq with groups := Tab.write e.dsq.groups {} g (f (e.group g)) } }

/-- Working cores of a group. -/
def Group.working (g : Group) : Nat := 16 - popcount 16 g.fenced
def Eng.partGroups (e : Eng) (p : Nat) : List Nat := (List.range (e.pcfg p).groups).map ((e.pcfg p).first + ·)
/-- C_p and W_p. -/
def Eng.coresC (e : Eng) (p : Nat) : Nat := 16 * (e.pcfg p).groups
def Eng.coresW (e : Eng) (p : Nat) : Nat := sumN ((e.partGroups p).map fun g => (e.group g).working)
/-- The fence factor of a partition (R151). Without a working core it has no stated value: a free value (log entry 140). -/
def Eng.sigmaP (e : Eng) (p : Nat) : Nat := if e.coresW p = 0 then Config.fenceNone p else ceilDiv (4096 * e.coresC p) (e.coresW p)
/-- The chip's sigma; its 16-bit fields saturate (log entry 140). -/
def Eng.sigmaChip (e : Eng) : Nat :=
  max 0x1000 (max0 ((e.img.partitions.filter fun p => p.2.isStep).map fun p => e.sigmaP p.1))

/-- Groups free to job `j`: with working cores, not busy, and not reserved for another job (R139). -/
def Eng.availGroups (e : Eng) (p j : Nat) : List Nat :=
  let r := (e.part p).reserved
  (e.partGroups p).filter fun g =>
    (e.group g).working != 0 && (e.group g).busy.isNone && (Tab.getD r g j == j)

/-! ## Jobs -/

def Eng.job? (e : Eng) (p j : Nat) : Option Job := (e.part p).jobs.find? fun x => x.id == j
def Eng.setJob (e : Eng) (p : Nat) (x : Job) : Eng := e.setPart p fun q => { q with jobs := updWhere (fun y => y.id == x.id) (fun _ => x) q.jobs }
def Eng.dropJob (e : Eng) (p j : Nat) : Eng := e.setPart p fun q => { q with jobs := q.jobs.filter fun y => y.id != j }
def Job.isTool (j : Job) : Bool := j.tool.isSome
/-- The context a job needs: its model, or 16 plus its tool. -/
def Job.context (j : Job) : Nat := match j.tool with | some t => 16 + t.tool | none => j.model

/-- `a` is considered before `b` (R139; a tool job comes after the models of its instar). -/
def Job.before (a b : Job) : Bool :=
  let m (x : Job) : Nat := if x.isTool then 16 else x.model
  if a.cur ≠ b.cur then decide (b.cur < a.cur)
  else if a.instar ≠ b.instar then decide (a.instar < b.instar)
  else if m a ≠ m b then decide (m a < m b)
  else decide (a.arrival ≤ b.arrival)

/-- The jobs of a partition in the order of R139. -/
def Eng.jobsOf (e : Eng) (p : Nat) : List Job := sortBy Job.before (e.part p).jobs

/-- A victim of R143 before another: ascending priority, latest kernel start, highest id. -/
def Job.victimBefore (a b : Job) : Bool :=
  let s (x : Job) : Nat := (x.kern.map Kern.start).getD 0
  if a.cur ≠ b.cur then decide (a.cur < b.cur)
  else if s a ≠ s b then decide (s b < s a)
  else decide (b.id ≤ a.id)

/-- An older instar's job of the same model has not executed END (R137). -/
def Eng.behind (e : Eng) (p : Nat) (j : Job) : Bool :=
  !j.isTool && (e.part p).jobs.any fun x => !x.isTool && x.model == j.model && decide (x.instar < j.instar)

/-! ## Fields of a command (Table 6-1) -/

def cmdOk (c : Bytes) : Bool := c.length == 32 && u16 c 30 == crc32c (c.take 30) % 65536
def cmdOp (c : Bytes) : Nat := u8 c 0
def cmdPhase (c : Bytes) : Nat := u8 c 1 / 16
def cmdKernel (c : Bytes) : Nat := u16 c 2
def cmdArg (c : Bytes) : Nat := u32 c 8
def cmdMin (c : Bytes) : Nat := u16 c 4
def cmdMax (c : Bytes) : Nat := u16 c 6
def cmdSem (c : Bytes) : Nat := u8 c 24
def cmdCount (c : Bytes) : Nat := u8 c 25
def cmdCredits (c : Bytes) : Nat := u16 c 26

/-- The WCET of a KERNEL, scaled by the fence factor [ps] (R136). -/
def Eng.scaledWcet (e : Eng) (p : Nat) (j : Job) (c : Bytes) : Nat :=
  (1000 * u32 c 12 + u32 c 16 * j.fed + u32 c 20 * j.ents) * e.sigmaP p / 4096

/-! ## Running kernels, busy time -/

/-- Brings the busy times of a partition and of the chip up to the kernels that run (counter 10, BUSY_NS). -/
def Eng.noteTimes (e : Eng) (p : Nat) : Eng :=
  let runs := (e.part p).jobs.any Job.kernelRuns
  let e := match (e.part p).busySince with
    | some t =>
      let e := e.bump64 (Reg.DSQ_P_BUSY_NS_LO p) (e.now - t)
      e.setPart p fun q => { q with busySince := if runs then some e.now else none }
    | none => if runs then e.setPart p fun q => { q with busySince := some e.now } else e
  let any := e.dsq.parts.any fun q => q.2.jobs.any Job.kernelRuns
  match e.dsq.busySince with
  | some t => { e.count 10 (e.now - t) with dsq := { e.dsq with busySince := if any then some e.now else none } }
  | none => if any then { e with dsq := { e.dsq with busySince := some e.now } } else e

/-- The kernels that run on a partition have changed: its busy time, and the skipping of its clusters (11 R293). -/
def Eng.noteBusy (e : Eng) (p : Nat) : Eng := (e.noteTimes p).presentSkips

def Eng.traceKernel (e : Eng) (p step : Nat) (k : Kern) : Eng :=
  e.trace 7 9 [(8, 1, p), (9, 1, k.phase * 16 + step), (10, 2, k.id), (12, 2, k.groups.headD 0), (14, 2, k.groups.length)]

/-! ## Transfers (R140) -/

/-- Starts queued transfers while a slot of the 32 is free. -/
def Eng.pumpSlots : Nat → Eng → Eng
  | 0, e => e
  | fuel + 1, e =>
    match e.dsq.queue with
    | [] => e
    | t :: l =>
      if 32 ≤ e.dsq.slots.length then e
      else
        let e := { e with dsq := { e.dsq with queue := l, slots := t :: e.dsq.slots } }
        let e := e.setFld Reg.DSQ_SAVES 21 16 (max (e.fld Reg.DSQ_SAVES 21 16) e.dsq.slots.length)
        let e := if t.since = e.now then e else e.waitEnd 10 9 t.group t.since
        let op := match t.kind with
          | 0 => ClusterOp.save t.group t.job
          | 1 => .restore t.group t.job
          | _ => .context t.group (((e.job? t.part t.job).map Job.context).getD 0)
        let e := if t.kind = 2 then e.setGroup t.group fun x => { x with ctx := none } else e
        Eng.pumpSlots fuel (e.send (.cluster op))

/-- Queues transfers, in ascending group order among those that wait. -/
def Eng.queueMoves (e : Eng) (p j kind : Nat) (gs : List Nat) : Eng :=
  let ts := gs.map fun g => ({ group := g, kind := kind, part := p, job := j, since := e.now } : Transfer)
  let q := sortBy (fun (a b : Transfer) => decide (a.group ≤ b.group)) (e.dsq.queue ++ ts)
  Eng.pumpSlots 64 { e with dsq := { e.dsq with queue := q } }

/-- The transfer in a slot for a group. -/
def Eng.slotOf (e : Eng) (g kind : Nat) : Option Transfer := e.dsq.slots.find? fun t => t.group == g && t.kind == kind

def Eng.endSlot (e : Eng) (t : Transfer) : Eng :=
  Eng.pumpSlots 64 { e with dsq := { e.dsq with slots := e.dsq.slots.filter (· ≠ t) } }

/-- Forgets every transfer of a job. -/
def Eng.dropMoves (e : Eng) (p j : Nat) : Eng :=
  let keep (t : Transfer) : Bool := !(t.part == p && t.job == j)
  Eng.pumpSlots 64 { e with dsq := { e.dsq with slots := e.dsq.slots.filter keep, queue := e.dsq.queue.filter keep } }

/-! ## Issue (R139, R140) -/

/-- What the job's kernel is bound to (R137). The first kernel of a tool job receives the last min(ARG_MAX, POSITION) committed
tokens (08 R201): the Lead's log has them; on another engine they are free values (log entry 143). -/
def Eng.bindingOf (e : Eng) (j : Job) : Binding × Eng :=
  let b : Binding := { instar := j.instar, desc := j.desc, width := j.width, fed := j.fed, ents := j.ents }
  match j.tool with
  | none => (b, e)
  | some t =>
    let n := min (u16 (((Tab.vals e.img.tools).find? fun l => u16 l.raw 0 == t.tool && bit (u8 l.raw 3) 0).map LocalTool.raw |>.getD []) 6) t.pos
    if j.begun then (b, e)
    else if (e.find t.tag).isSome then
      let l := (e.logIds t.tag).take t.pos
      ({ b with tokens := l.drop (l.length - n) }, e)
    else
      let (k, e) := e.freshN n
      ({ b with tokens := (List.range n).map fun i => Config.unstated (k + i) % 2 ^ 20 }, e)

/-- The kernel of a job starts, or goes on, on its groups together. -/
def Eng.startKernel (e : Eng) (p : Nat) (j : Job) (k : Kern) (resumed : Bool) : Eng :=
  let k := { k with start := e.now }
  let (b, e) := e.bindingOf j
  let e := e.setJob p { j with st := .running, kern := some k, moving := [], begun := true }
  let e := (e.send (.cluster (.issue p j.id k.id k.phase k.arg k.groups b))).traceKernel p (if resumed then 3 else 0) k
  e.noteBusy p

/-- Takes groups for a kernel or a restored one; those that hold another context load it first. -/
def Eng.occupy (e : Eng) (j : Nat) (gs : List Nat) : Eng :=
  gs.foldl (fun e g => e.setGroup g fun x => { x with busy := some j }) e

/-- Issues a KERNEL on the lowest-numbered free groups, if enough are free. -/
def Eng.issueKernel (e : Eng) (p : Nat) (j : Job) (c : Bytes) : Option Eng :=
  let av := e.availGroups p j.id
  if av.length < cmdMin c then none
  else
    let gs := av.take (min av.length (cmdMax c))
    let e := e.occupy j.id gs
    let e := e.setPart p fun q => { q with reserved := q.reserved.filter fun r => r.2 ≠ j.id }
    let k : Kern := { id := cmdKernel c, phase := if j.isTool then 6 else cmdPhase c, arg := cmdArg c, start := e.now, groups := gs,
                      wcet := e.scaledWcet p j c }
    let loads := gs.filter fun g => (e.group g).ctx != some j.context
    let e := (e.count 6 1).occur 0x09 1 { unit := some p }
    let j := { j with st := .running, kern := some k, moving := loads, waiting := none }
    let e := e.setJob p j
    some (if loads.isEmpty then e.startKernel p j k false else e.queueMoves p j.id 2 loads)

/-! ## Pre-emption (R143) -/

/-- Halts a job whose kernel is in flight. -/
def Eng.haltJob (e : Eng) (p : Nat) (j : Job) : Eng :=
  let e := (e.setJob p { j with st := .halting }).bump (Reg.DSQ_P_PREEMPTS p) 15 0 1
  let e := match j.kern with
    | some k => e.traceKernel p 2 k
    | none => e
  e.send (.cluster (.halt p j.id))

/-- The sends of a job's kernel consumed credits (R135): how many of those it had left is a free value (log entry 141). -/
def Eng.spend (e : Eng) (p : Nat) (j : Job) : Job × Eng :=
  if j.credits = 0 then (j, e)
  else
    let (k, e) := e.fresh
    let n := Config.unstated k % (j.credits + 1)
    ({ j with credits := j.credits - n }, e.setPart p fun q => { q with sent := q.sent + n })

/-- Returns a job's unspent credits to the pool. -/
def Eng.returnCredits (e : Eng) (p n : Nat) : Eng :=
  e.setPart p fun q => { q with free := min (q.free + n) (e.pcfg p).creditPool }

/-- Parks a job between kernels as SAVED, with no image; its credits return and their count is kept. -/
def Eng.parkJob (e : Eng) (p : Nat) (j : Job) : Eng :=
  ((e.setJob p { j with st := .saved }).returnCredits p j.credits).bump (Reg.DSQ_P_PREEMPTS p) 15 0 1

/-- Images the partition's save area still has room for (R142). -/
def Eng.imagesLeft (e : Eng) (p : Nat) : Nat := 2 * (e.pcfg p).groups - (e.part p).imagesUsed

/-- The victims that bring the groups to `need`. -/
def takeVictims : Nat → List Job → List Job
  | _, [] => []
  | need, j :: l =>
    if need = 0 then []
    else j :: takeVictims (need - ((j.kern.map fun k => k.groups.length).getD 0)) l

/-- Pre-empts jobs of lower priority for a KERNEL that cannot issue; their groups are reserved for it. -/
def Eng.preempt (e : Eng) (p : Nat) (j : Job) (c : Bytes) : Eng :=
  let have_ := (e.availGroups p j.id).length
  let coming := ((e.part p).reserved.filter fun r => r.2 == j.id && (e.group r.1).busy.isSome).length
  let can (x : Job) : Bool := x.kern.isSome && x.st == .running && x.moving.isEmpty && decide (x.cur < j.cur) && x.isTool
  let vs := takeVictims (cmdMin c - (have_ + coming)) (sortBy Job.victimBefore ((e.part p).jobs.filter can))
  let gs := vs.flatMap fun v => (v.kern.map Kern.groups).getD []
  if gs.isEmpty ∨ e.imagesLeft p < gs.length then e
  else
    let e := e.setPart p fun q => { q with reserved := gs.foldl (fun m g => Tab.put m g j.id) q.reserved,
                                           imagesUsed := q.imagesUsed + gs.length }
    vs.foldl (fun e v => e.haltJob p v) e

/-! ## Semaphores and donation (R146, R147) -/

/-- Units of semaphore `s` that a job holds. -/
def Job.held (j : Job) (s : Nat) : Nat := sumN ((j.units.filter fun u => u.1 == s).map fun u => u.2.1)

def Eng.semFree (e : Eng) (p s : Nat) : Nat := (e.part p).sems.getD s 0
def Eng.setSem (e : Eng) (p s v : Nat) : Eng := e.setPart p fun q => { q with sems := q.sems.set s v }

/-- The jobs that hold units of a semaphore. -/
def Eng.holders (e : Eng) (p s : Nat) : List Job := (e.part p).jobs.filter fun j => j.held s != 0

/-- The semaphore a job's head command waits for. -/
def Job.waitsFor (j : Job) : Option Nat :=
  match j.waiting with
  | some (c, _) => if cmdOp c = 2 then some (cmdSem c) else none
  | none => none

/-- The holder of a semaphore to which the donation that began at job `from_` goes: of the SAVED ones, those that a donation has
restored and that wait for a semaphore in turn, and `from_` itself, the one whose acquire came earliest. -/
def Eng.donee (e : Eng) (p s : Nat) (from_ : Option Nat) : Option Job :=
  let first (j : Job) : Nat := minD 0 ((j.units.filter fun u => u.1 == s).map fun u => u.2.2)
  let can (j : Job) : Bool := j.st == .saved || (j.donor.isSome && j.waitsFor.isSome) || from_ == some j.id
  (sortBy (fun a b => decide (first a ≤ first b)) ((e.holders p s).filter can)).head?

/-- The chain of holders from semaphore `s`, at most five, and whether it returned to a job already in it: job `j` waits at its
start, and belongs to the chain where a holder waits for it (R147). -/
def Eng.donorChain (e : Eng) (p : Nat) (j : Job) : Nat → Nat → List Job → List Job × Bool
  | 0, _, acc => (acc, false)
  | fuel + 1, s, acc =>
    match e.donee p s (if acc.isEmpty then none else some j.id) with
    | none => (acc, false)
    | some h =>
      if acc.any fun x => x.id == h.id then (acc, true)
      else if h.id = j.id then (acc ++ [h], true)
      else match h.waitsFor with
        | some t => e.donorChain p j fuel t (acc ++ [h])
        | none => (acc ++ [h], false)

/-- Gives up everything a job holds, as at END and at an abort (Table 6-4). -/
def Eng.releaseJob (e : Eng) (p : Nat) (j : Job) : Eng :=
  let e := j.units.foldl (fun e u => e.setSem p u.1 (e.semFree p u.1 + u.2.1)) e
  let held := j.st == .saved || j.st == .restoring || j.st == .saving
  let e := if held then e else e.returnCredits p j.credits
  let mine := (j.kern.map Kern.groups).getD []
  let e := mine.foldl (fun e g => if (e.group g).busy = some j.id then e.setGroup g fun x => { x with busy := none } else e) e
  let e := (e.partGroups p).foldl (fun e g => if (e.group g).busy = some j.id then e.setGroup g fun x => { x with busy := none } else e) e
  let imgs := match j.st with
    | .halting => mine.length
    | .saving => j.images.length + j.moving.length
    | .saved => j.images.length
    | _ => 0
  let e := e.setPart p fun q => { q with imagesUsed := q.imagesUsed - imgs,
                                         reserved := q.reserved.filter fun r => r.2 ≠ j.id }
  ((e.dropMoves p j.id).dropJob p j.id).noteBusy p

/-- Aborts a job: its kernel is discarded unsaved. -/
def Eng.abortJob (e : Eng) (p : Nat) (j : Job) : Eng :=
  match j.kern with
  | some k =>
    let (j, e) := if j.kernelRuns then e.spend p j else (j, e)
    ((e.traceKernel p 4 k).send (.cluster (.halt p j.id))).releaseJob p j
  | none => e.releaseJob p j

/-- Donates the priority of job `j`, which waits on `s`, to the chain of holders; a deadlock aborts its tool jobs. While the
holder that runs by `j`'s donation holds units of `s` and does not wait, no other is restored for `j`. -/
def Eng.donate (e : Eng) (p : Nat) (j : Job) (s : Nat) : Eng :=
  let helped := (e.holders p s).any fun h => h.donor == some (s, j.id) && h.st != .saved && h.waitsFor.isNone
  let ch := if helped then ([], false) else e.donorChain p j 5 s []
  if ch.1.isEmpty then e
  else if ch.2 || decide (4 < ch.1.length) then
    let tools := ch.1.filter Job.isTool
    let e := tools.foldl (fun e h => e.abortJob p h) e
    e.raise 0x74 2 0 [(16, 1, p), (17, 1, tools.length), (18, 1, s)]
  else
    let step (st : Eng × Nat × Nat) (h : Job) : Eng × Nat × Nat :=
      let e := st.1
      if h.donor.isSome then (e, ((h.waitsFor).getD 0), h.id)
      else
        let e := e.setJob p { h with cur := max h.cur j.cur, donor := some (st.2.1, st.2.2) }
        (e.bump (Reg.DSQ_P_PREEMPTS p) 31 16 1, ((h.waitsFor).getD 0), h.id)
    (ch.1.foldl step (e, s, j.id)).1

/-- Ends the donation to a holder whose donor waits no more, or whose donor's COUNT the free units meet: its own priority is
restored, and in the second case it is pre-empted as R143 and R144 have it, where its images find room (R142). -/
def Eng.endDonation (e : Eng) (p : Nat) (h : Job) : Eng :=
  match h.donor with
  | none => e
  | some (s, dj) =>
    let own := { h with cur := h.prio, donor := none }
    match (e.job? p dj).bind Job.waiting with
    | none => e.setJob p own
    | some (c, _) =>
      if cmdOp c ≠ 2 ∨ cmdSem c ≠ s then e.setJob p own
      else if e.semFree p s < cmdCount c then e
      else match own.kern with
        | none => if own.st == .running then e.parkJob p own else e.setJob p own
        | some k =>
          if own.kernelRuns && own.st == .running && decide (k.groups.length ≤ e.imagesLeft p) then
            (e.setPart p fun q => { q with imagesUsed := q.imagesUsed + k.groups.length }).haltJob p own
          else e.setJob p own

/-- The donations of a partition that are over. -/
def Eng.endDonations (e : Eng) (p : Nat) : Eng := (e.jobsOf p).foldl (fun e h => e.endDonation p h) e

/-! ## Tool jobs (R138, 08 R201, R205) -/

/-- The record of a local tool (08 R200): none where the TOOL_ID names a client tool. -/
def Eng.localTool (e : Eng) (id : Nat) : Option Bytes :=
  ((Tab.vals e.img.tools).find? fun l => u16 l.raw 0 == id && bit (u8 l.raw 3) 0).map LocalTool.raw

/-- The lowest-numbered TOOL partition that can take a tool job. -/
def Eng.toolPart (e : Eng) : Option Nat :=
  (e.img.partitions.find? fun p =>
    p.2.isTool && (e.part p.1).mode == 0 && decide (((e.part p.1).jobs.filter Job.isTool).length < 6)).map Prod.fst

/-- Starts the tool jobs that wait, in order of arrival, while a partition admits one. -/
def Eng.admitTools : Nat → Eng → Eng
  | 0, e => e
  | fuel + 1, e =>
    match e.smp.toolQueue, e.toolPart with
    | t :: l, some p =>
      let id := e.dsq.nextJob
      let prio := u8 ((e.localTool t.tool).getD []) 2
      let j : Job := { id := id, model := 0, instar := t.instar, tool := some t, prio := prio, cur := prio,
                       arrival := e.dsq.nextArrival }
      let e := { e with smp := { e.smp with toolQueue := l }
                        dsq := { e.dsq with nextJob := id + 1, nextArrival := e.dsq.nextArrival + 1 } }
      Eng.admitTools fuel (e.setPart p fun q => { q with jobs := q.jobs ++ [j] })
    | _, _ => e

/-! ## Partition faults (R149 to R152) -/

/-- The lowest instar whose shard on the partition has not executed END. -/
def Eng.lowestOpen (e : Eng) (p : Nat) : Option Nat :=
  leastOf ((e.dsq.shards.filter fun s => s.open_.any fun m => (e.model m).stepPart == p).map Shard.num)

/-- A void notice leaves for the Lead (R152). -/
def voidBytes (x p rank cause : Nat) : Bytes := layout 64 [(0, 6, x), (8, 1, p), (9, 1, rank), (10, 1, cause)]

/-- A fault resets a partition, or retires it: on its fourth reset within 1 s, for the same CMD fault twice, or with no
core left. -/
def Eng.faultPart (e : Eng) (p cause : Nat) (retireNow : Bool) : Eng :=
  let q := e.part p
  if q.mode = 2 then e
  else
    let recent := (q.resets.filter fun t => decide (e.now < t + 1000000000)) ++ [e.now]
    let retire := retireNow || decide (4 ≤ recent.length)
    let x := if (e.pcfg p).isStep then e.lowestOpen p else none
    -- local tool jobs start again from their first command (Table 8-6)
    let tools := q.jobs.filterMap Job.tool
    let e := q.jobs.foldl (fun e j => e.abortJob p j) e
    let e := e.setPart p fun q => { q with mode := if retire then 2 else 1, resets := recent, sems := (e.pcfg p).semInit,
                                           free := (e.pcfg p).creditPool, sent := 0, reserved := [], imagesUsed := 0 }
    let e := { e with smp := { e.smp with toolQueue := tools ++ e.smp.toolQueue }
                      dsq := { e.dsq with faulted := true, retired := e.dsq.retired || retire,
                                          held := e.dsq.held.filter fun h => h.1 ≠ p } }
    let e := e.setFld (Reg.DSQ_P_FAULTS p) 31 28 cause
    let e := if retire then e else (e.bump (Reg.DSQ_P_FAULTS p) 15 0 1).send (.cluster (.resetPart p))
    let e := e.raise 0x71 3 0 [(16, 1, p), (17, 1, cause), (18, 1, b2n retire), (20, 4, (x.getD 0xFFFFFFFF) % 2 ^ 32)]
    let e := match x with
      | none => e
      | some n =>
        let e := (e.bump Reg.DSQ_ABORTS 15 0 1).raise 0x72 2 0 [(16, 1, 0), (17, 1, e.img.rank), (20, 4, n % 2 ^ 32)]
        let m := voidBytes n p e.img.rank cause
        if e.isLead then { e with dsq := { e.dsq with ownVoid := e.dsq.ownVoid ++ [m] } } else e.upward 0x03 m
    let e := if retire && (e.pcfg p).isStep then e.declareFailed else e
    Eng.admitTools 64 e

/-- A command fault (cause CMD): a second failure of the same command retires the partition. -/
def Eng.cmdFault (e : Eng) (p : Nat) (j : Job) : Eng :=
  let key := (j.context, j.pc)
  let again := (e.part p).badCmd.contains key
  (e.setPart p fun q => { q with badCmd := if again then q.badCmd else key :: q.badCmd }).faultPart p 3 again

/-! ## Restoring (R145, R148) -/

/-- For each image in order, the lowest matching free group; none where one is missing. -/
def Eng.matchGroups (e : Eng) : List Nat → List Nat → Option (List Nat)
  | _, [] => some []
  | free, w :: l =>
    match free.find? fun g => (e.group g).working == w with
    | none => none
    | some g => (e.matchGroups (free.filter (· ≠ g)) l).map (g :: ·)

/-- A restored job whose groups are ready takes its credits back and runs (R148). -/
def Eng.resumeJob (e : Eng) (p : Nat) (j : Job) : Option Eng :=
  if (e.part p).free < j.credits ∨ !j.moving.isEmpty then none
  else
    let e := e.setPart p fun q => { q with free := q.free - j.credits }
    some (match j.kern with
      | some k => e.startKernel p { j with images := [] } k true
      | none => e.setJob p { j with st := .running })

/-- Restores a SAVED job onto free groups, if every image has one. -/
def Eng.restoreJob (e : Eng) (p : Nat) (j : Job) : Option Eng :=
  match e.matchGroups (e.availGroups p j.id) (j.images.map Prod.snd) with
  | none => none
  | some gs =>
    let e := e.occupy j.id gs
    let e := e.setPart p fun q => { q with imagesUsed := q.imagesUsed - j.images.length }
    let j := { j with st := .restoring, moving := gs, kern := j.kern.map fun k => { k with groups := gs } }
    let e := e.setJob p j
    some (if gs.isEmpty then (e.resumeJob p j).getD e else e.queueMoves p j.id 1 gs)

/-- The jobs whose credits a LINK_GET of `n` credits by job `j` reclaims (R148): of lower priority, in the victim order,
until the free credits, those that halted jobs give back and theirs make `n`. -/
def takeCredits : Nat → List Job → List Job
  | _, [] => []
  | need, j :: l => if need = 0 then [] else j :: takeCredits (need - j.credits) l

/-- Reclaims unspent credits for a LINK_GET that cannot be met. -/
def Eng.reclaim (e : Eng) (p : Nat) (j : Job) (n : Nat) : Eng :=
  let lower := (e.part p).jobs.filter fun x => decide (x.cur < j.cur) && x.isTool && x.credits != 0
  let coming := sumN ((lower.filter fun x => x.st == .halting).map Job.credits)
  let can (x : Job) : Bool := x.st == .queued || (x.st == .running && x.moving.isEmpty)
  let vs := takeCredits (n - ((e.part p).free + coming)) (sortBy Job.victimBefore (lower.filter can))
  vs.foldl (fun e v =>
    match v.kern with
    | none => e.parkJob p v
    | some k =>
      if e.imagesLeft p < k.groups.length then e
      else (e.setPart p fun q => { q with imagesUsed := q.imagesUsed + k.groups.length }).haltJob p v) e

/-! ## Arbitration (R139, R144) -/

/-- The job's head command is held by command stepping (R155). -/
def Eng.isHeld (e : Eng) (p : Nat) (j : Job) : Bool := e.dsq.held.any fun h => h.1 == p && h.2.1 == j.id

/-- The command of operation `op` that the job waits with: a job that is SAVED or RESTORING, or whose command is held by
command stepping, waits for no groups and no units. -/
def Eng.waitsWith (e : Eng) (p op : Nat) (j : Job) : Option Bytes :=
  if e.isHeld p j || j.st == .saved || j.st == .restoring then none
  else match j.waiting with
    | some (c, _) => if cmdOp c = op then some c else none
    | none => none

/-- A KERNEL of priority above `q` waits on the partition. -/
def Eng.kernelWaits (e : Eng) (p q : Nat) : Bool :=
  (e.part p).jobs.any fun j => decide (q < j.cur) && (e.waitsWith p 1 j).isSome

/-- A command that waited at the head of a job is granted. -/
def Eng.waited (e : Eng) (p : Nat) (c : Bytes) (since : Nat) : Eng :=
  if since = e.now then e
  else match cmdOp c with
    | 2 => e.waitEnd 8 9 (p * 64 + cmdSem c) since
    | 4 => e.waitEnd 9 9 p since
    | _ => e

/-- Takes the units of an ACQUIRE. -/
def Eng.grantUnits (e : Eng) (p : Nat) (j : Job) (c : Bytes) : Eng :=
  let e := e.setSem p (cmdSem c) (e.semFree p (cmdSem c) - cmdCount c)
  let n := e.dsq.nextArrival
  let e := { e with dsq := { e.dsq with nextArrival := n + 1 } }
  e.setJob p { j with st := .running, pc := j.pc + 1, waiting := none, units := j.units ++ [(cmdSem c, cmdCount c, n)] }

/-- Takes the credits of a LINK_GET. -/
def Eng.grantCredits (e : Eng) (p : Nat) (j : Job) (c : Bytes) : Eng :=
  let e := e.setPart p fun q => { q with free := q.free - cmdCredits c }
  e.setJob p { j with st := .running, pc := j.pc + 1, waiting := none, credits := j.credits + cmdCredits c }

/-- One thing that a job can do now with what is free: its waiting command is granted, or it is restored. `blocked` is
set once a KERNEL ahead of it waits, and `sems` are the semaphores for which an ACQUIRE ahead of it waits (R139, R146). -/
def Eng.advanceJob (e : Eng) (p : Nat) (j : Job) (blocked : Bool) (sems : List Nat) : Option Eng :=
  if j.st == .saved then
    if e.kernelWaits p j.cur then none else e.restoreJob p j
  else if j.st == .restoring then e.resumeJob p j
  else match j.waiting with
    | none => none
    | some (c, since) =>
      if e.isHeld p j then none
      else match cmdOp c with
        | 1 => if blocked || e.quietRuns then none else e.issueKernel p j c
        | 2 =>
          if sems.contains (cmdSem c) ∨ e.semFree p (cmdSem c) < cmdCount c then none
          else if j.held (cmdSem c) = 0 ∧ 8 ≤ (e.holders p (cmdSem c)).length then some (e.cmdFault p j)
          else some ((e.waited p c since).grantUnits p j c)
        | 4 => if (e.part p).free < cmdCredits c then none else some ((e.waited p c since).grantCredits p j c)
        | _ => none

/-- The first job in the order of R139 that can do something does it. -/
def Eng.advanceFirst (e : Eng) (p : Nat) : List Job → Bool → List Nat → Option Eng
  | [], _, _ => none
  | j :: l, blocked, sems =>
    match e.advanceJob p j blocked sems with
    | some e => some e
    | none => e.advanceFirst p l (blocked || (e.waitsWith p 1 j).isSome) (((e.waitsWith p 2 j).map cmdSem).toList ++ sems)

/-- Grants what can be granted on a partition, in order, until nothing more can. -/
def Eng.arbitrate (p : Nat) : Nat → Eng → Eng
  | 0, e => e
  | fuel + 1, e =>
    if (e.part p).mode ≠ 0 then e
    else match e.advanceFirst p (e.jobsOf p) false [] with
      | some e => Eng.arbitrate p fuel e
      | none => e

/-- The KERNELs and ACQUIREs that still wait pre-empt and donate. -/
def Eng.press (e : Eng) (p : Nat) : Eng :=
  (e.jobsOf p).foldl (fun e j =>
    match j.waiting with
    | none => e
    | some (c, _) =>
      if j.st == .saved || e.isHeld p j then e
      else match cmdOp c with
        | 1 => if e.kernelWaits p j.cur || e.quietRuns then e else e.preempt p j c
        | 2 => e.donate p j (cmdSem c)
        | 4 => e.reclaim p j (cmdCredits c)
        | _ => e) e

/-- Everything that follows a change on a partition. -/
def Eng.settlePart (e : Eng) (p : Nat) : Eng :=
  Eng.arbitrate p 64 ((Eng.arbitrate p 64 (e.endDonations p)).press p)

/-! ## Shards and their end (R127, R137, R138) -/

/-- The model's jobs on its bound partition. -/
def Eng.stepJobs (e : Eng) (m : Nat) : List Job :=
  ((e.part (e.model m).stepPart).jobs.filter fun j => !j.isTool && j.model == m)

/-- Starts the job of a model of an instar, or holds it for a slot or for READY (R138, R153). -/
def Eng.startStep (e : Eng) (s : Shard) (m fed ents since : Nat) : Eng :=
  let num := s.num
  let p := (e.model m).stepPart
  let hold (e : Eng) : Eng := { e with dsq := { e.dsq with
    shards := updWhere (fun s => s.num == num) 
      (fun s => { s with held := s.held ++ [(m, since, if (e.part p).mode = 0 then 19 else 11)] }) e.dsq.shards } }
  if 2 ≤ (e.stepJobs m).length ∨ (e.part p).mode ≠ 0 then hold e
  else
    let id := e.dsq.nextJob
    let j : Job := { id := id, model := m, instar := num, desc := s.desc, width := s.width, fed := fed, ents := ents,
                     arrival := e.dsq.nextArrival }
    let e := { e with dsq := { e.dsq with nextJob := id + 1, nextArrival := e.dsq.nextArrival + 1 } }
    e.setPart p fun q => { q with jobs := q.jobs ++ [j] }

/-- The report of an instar's shard leaves (R127), unless the engine has failed (01 R27). -/
def Eng.endShard (e : Eng) (s : Shard) : Eng :=
  let e := { e with dsq := { e.dsq with shards := e.dsq.shards.filter fun x => x.num != s.num } }
  let e := (e.traceInstar 9 3 s.num).pgvShardEnd s.num
  let st := b2n e.dsq.faulted + 2 * b2n s.resent + 4 * b2n e.dsq.retired
  let e := { e with dsq := { e.dsq with faulted := false, retired := false } }
  if e.failed then e
  else e.gatherReport (e.reportBytes (s.num % 2 ^ 32) (e.now - s.received) st (min e.sigmaChip 0xFFFF) (e.pgvRecord s.num)) true

/-- Shards with no job left end, in instar order. -/
def Eng.endShards (e : Eng) : Eng :=
  (e.dsq.shards.filter fun s => s.open_.isEmpty).foldl Eng.endShard e

/-- Starts what waited for a slot of a model or for a partition's READY, in instar order. -/
def Eng.startHeld (e : Eng) : Eng :=
  let all := e.dsq.shards.flatMap fun s => s.held.map fun h => (s, h)
  all.foldl (fun (e : Eng) (w : Shard × Nat × Nat × Nat) =>
    let s := w.1
    let m := w.2.1
    let p := (e.model m).stepPart
    let earlier := e.dsq.shards.any fun x => decide (x.num < s.num) && x.held.any fun h => h.1 == m
    if earlier ∨ 2 ≤ (e.stepJobs m).length ∨ (e.part p).mode ≠ 0 then e
    else
      let drop (x : Shard) : Shard := { x with held := x.held.filter fun h => h.1 != m }
      let e := { e with dsq := { e.dsq with shards := updWhere (fun x => x.num == s.num) drop e.dsq.shards } }
      let load := (s.loads.find? fun l => l.1 == m).getD (m, 0, 0)
      (e.startStep s m load.2.1 load.2.2 w.2.2.1).waitEnd w.2.2.2 9 p w.2.2.1) e

/-- A checked descriptor reaches DSQ: one job per model, in ascending order (R137). -/
def Eng.startShard (e : Eng) (num width flags launch period received : Nat) (resent : Bool) (ents : List DEntry) : Eng :=
  let ms := (List.range 16).filter fun m => ents.any fun x => x.model == m
  let load (m : Nat) : Nat × Nat × Nat :=
    let l := ents.filter fun x => x.model == m
    (m, sumN (l.map DEntry.feed), l.length)
  let (k, e) := e.fresh
  let s : Shard := { num := num, received := received, width := width, desc := Config.unstated k, resent := resent, open_ := ms,
                     loads := ms.map load }
  let e := (e.count 0 1).traceInstar 9 2 num
  let e := e.pgvShardStart num width flags launch period ents
  let e := { e with dsq := { e.dsq with shards := e.dsq.shards ++ [s] } }
  let e := s.loads.foldl (fun e l => e.startStep s l.1 l.2.1 l.2.2 e.now) e
  e.endShards

/-- Aborts the local tool job of (instar, tag), wherever it is (Table 8-6). -/
def Eng.abortTool (e : Eng) (instar tag : Nat) : Eng :=
  let mine (t : ToolJob) : Bool := t.instar == instar && t.tag == tag
  let e := { e with smp := { e.smp with toolQueue := e.smp.toolQueue.filter fun t => !mine t } }
  let e := (Tab.keys e.dsq.parts).foldl (fun e p =>
    ((e.part p).jobs.filter fun j => (j.tool.map mine).getD false).foldl (fun e j => (e.abortJob p j).settlePart p) e) e
  Eng.admitTools 64 e

/-! ## ABORT (R153) -/

/-- Discards the shards of every instar from `first` onward; each sends its report. -/
def Eng.discardShards (e : Eng) (first : Nat) : Eng :=
  let gone := e.dsq.shards.filter fun s => decide (first ≤ s.num)
  let e := (Tab.keys e.dsq.parts).foldl (fun e p =>
    let e := ((e.part p).jobs.filter fun j => !j.isTool && decide (first ≤ j.instar)).foldl (fun e j => e.abortJob p j) e
    e.settlePart p) e
  let e := { e with dsq := { e.dsq with held := e.dsq.held.filter fun h => (e.job? h.1 h.2.1).isSome } }
  gone.foldl Eng.endShard e

end Sys2Proof.Machine
end

