-- ==== Sys2Proof/Machine/Tail.lean ====
section
/-! DEFINITION. A Tail's own state (07 R160, R161, R166 to R168, 08 R197): scale-table copies, SELECT, drafts, and the
streams that wait for a lane. -/

namespace Sys2Proof.Machine

/-! ## Scale tables (R166, R167) -/

/-- Entries of a scale table. -/
def scaleMax : Nat := 4096

/-- Counts one more token of id `id`: an absent id enters only where `insert` allows it. -/
def scaleAdd (t : Tab Nat) (id : Nat) (insert : Bool) : Tab Nat :=
  match Tab.get? t id with
  | some c => Tab.put t id (min (c + 1) 4095)
  | none => if insert then Tab.put t id 1 else t

/-- A SELECT entry (R167). -/
def selectEntry (tag id : Nat) (insert turnEnd drop : Bool) (index : Nat) : Bytes :=
  leBytes 4 tag ++ leBytes 4 (id % 2 ^ 20 + b2n insert * 2 ^ 20 + b2n turnEnd * 2 ^ 21 + b2n drop * 2 ^ 22 + index % 8 * 2 ^ 24)

/-- A SELECT message. -/
def selectBytes (instar : Nat) (ents : List Bytes) : Bytes :=
  sealAt (layout 16 [(0, 6, instar), (8, 4, ents.length)] ++ ents.flatten) 12

/-- Applies one entry of a SELECT to a copy. -/
def applySelectEntry (m : Tab (Tab Nat)) (b : Bytes) : Tab (Tab Nat) :=
  let tag := u32 b 0
  let w := u32 b 4
  if bit w 22 then Tab.del m tag
  else
    let t := scaleAdd (Tab.getD m tag []) (w % 2 ^ 20) (bit w 20)
    if bit w 21 then Tab.del m tag else Tab.put m tag t

/-! ## Descriptors at a Tail -/

/-- A scale table of free values (log entry 146). -/
def freeScale (k : Nat) : Tab Nat :=
  (List.range (Config.unstated k % (scaleMax + 1))).foldl
    (fun m i => Tab.put m (Config.unstated (k + 1 + 2 * i) % 2 ^ 20) (1 + Config.unstated (k + 2 + 2 * i) % 4095)) []

/-- The copy of an adopted session, rebuilt from journaled records that only the Lead's chip holds (R168): on another engine it
is a free value (log entry 146). Such a session's entry is no TURN_FIRST one and has no slot here. -/
def Eng.adoptedCopy (e : Eng) (x : DEntry) : Eng :=
  if x.turnFirst ∨ (Tab.get? e.smp.copies x.tag).isSome ∨ e.isLead then e
  else
    let (k, e) := e.freshN (1 + 2 * scaleMax)
    { e with smp := { e.smp with copies := Tab.put e.smp.copies x.tag (freeScale k) } }

/-- A checked descriptor: slots open and clear at TURN_FIRST entries (R167). The last four instars' entries are kept. -/
def Eng.tailDescriptor (e : Eng) (num : Nat) (ents : List DEntry) : Eng :=
  if !e.isTail then e
  else
    let e := ents.foldl Eng.adoptedCopy e
    let cs := (ents.filter DEntry.turnFirst).foldl (fun m x => Tab.put m x.tag []) e.smp.copies
    let ds := Tab.put e.smp.descs num ents
    { e with smp := { e.smp with copies := cs, descs := ds.drop (ds.length - 4) } }

/-- The descriptor entry of a session in an instar. -/
def Eng.descEntry (e : Eng) (num tag : Nat) : Option DEntry := (Tab.getD e.smp.descs num []).find? fun x => x.tag == tag

/-! ## Lanes and waiting streams (R160, R168, R197) -/

def Eng.lane (e : Eng) (n : Nat) : Lane := Tab.getD e.smp.lanes n {}
def Eng.setLane (e : Eng) (n : Nat) (l : Lane) : Eng := { e with smp := { e.smp with lanes := Tab.write e.smp.lanes {} n l } }

/-- The earliest instar before the stream's whose SELECT is awaited: it samples, and its SELECT has neither been applied nor
been given up at an abort (R168). -/
def Eng.selectAwaited (e : Eng) (s : Stream) : Option Nat :=
  (e.smp.descs.find? fun d =>
    decide (d.1 < s.instar ∧ e.smp.selected < d.1) && (d.2.any fun x => x.kind != 0) && !e.smp.noSelect.contains d.1).map Prod.fst

def Eng.selectReady (e : Eng) (s : Stream) : Bool := (e.selectAwaited s).isNone

/-- SAMPLE_POS + m with m at least 1 waits for the instar's DRAFT message (R197). -/
def Eng.draftReady (e : Eng) (s : Stream) : Bool :=
  match e.descEntry s.instar s.tag with
  | some x => decide (s.pos ≤ x.samplePos) || e.smp.drafted.contains (s.instar, x.model)
  | none => true

/-- The stream is at SAMPLE_POS, which sees no draft. -/
def Eng.draftFirst (e : Eng) (s : Stream) : Bool :=
  match e.descEntry s.instar s.tag with
  | some x => decide (s.pos ≤ x.samplePos)
  | none => true

/-- A stream that may be swept: no SELECT, DRAFT or draft edge read of its own is awaited (R168, R197, 08 R206). -/
def Eng.streamReady (e : Eng) (s : Stream) : Bool :=
  e.selectReady s && e.draftReady s && (e.draftFirst s || !e.smp.edgeReads.contains s.tag)

/-- Working idle lanes, lowest first. -/
def Eng.idleLanes (e : Eng) : List Nat := (List.range 64).filter fun n => (e.lane n).mode == 0

/-- Ready streams take idle lanes, in arrival order (R160). -/
def Eng.assignLanes : Nat → Eng → Eng
  | 0, e => e
  | fuel + 1, e =>
    match e.idleLanes.head?, e.smp.waiting.find? e.streamReady with
    | some n, some s =>
      let e := { e with smp := { e.smp with waiting := e.smp.waiting.erase s } }
      let late := s.waited
      let e := if late then e.waitEnd (if (e.descEntry s.instar s.tag).any fun x => decide (x.samplePos < s.pos) then 7 else 6)
          (12 + n / 32) n s.since else e
      let idle : Nat := (e.idleLanes.filter fun m => decide (m / 32 = n / 32)).length
      let e : Eng := if idle < 2 then { e with smp := { e.smp with tight := Tab.put e.smp.tight (n / 32) s.instar } } else e
      Eng.assignLanes fuel (e.setLane n { mode := 1, tag := s.tag, stream := some s })
    | _, _ => e

/-- A stream arrives at the boundary: one that must wait for a SELECT or a DRAFT is counted once (R168, R197). -/
def Eng.queueStream (e : Eng) (s : Stream) : Eng :=
  let wait := !(e.selectReady s && e.draftReady s)
  let e := if wait then e.bump Reg.SMP_SELECT_WAITS 31 0 1 else e
  let e := match e.selectAwaited s with
    | some n => e.raiseOnce 0xA600 0xA6 1 s.tag [(16, 4, n % 2 ^ 32)]
    | none => e
  Eng.assignLanes 64 { e with smp := { e.smp with waiting := e.smp.waiting ++ [{ s with waited := wait }] } }

/-- A checked SELECT is applied, once: a repeat of one applied before changes nothing (R167, R182). -/
def Eng.applySelect (e : Eng) (b : Bytes) : Eng :=
  if u48 b 0 ≤ e.smp.selected then e
  else
  let n := u32 b 8
  let ents := pieces 8 n (b.drop 16)
  let e := { e with smp := { e.smp with copies := ents.foldl applySelectEntry e.smp.copies, selected := u48 b 0 } }
  let e := e.leaveDecode ((ents.filter fun x => bit (u32 x 4) 21 || bit (u32 x 4) 22).map fun x => u32 x 0)
  Eng.assignLanes 64 e

/-! ## DRAFT (08 R197) -/

/-- The entries of a DRAFT message. -/
def draftEnts (b : Bytes) : List DraftEnt :=
  (pieces 48 (u32 b 8) (b.drop 16)).map fun x =>
    { instar := u48 b 0, tag := u32 x 0, pos := u32 x 4, ids := (numsAt x 4 (min (u8 x 8) 7) 16).map (· % 2 ^ 20) }

/-- Logits discarded at an ABORT: streams, lanes and drafts of the instars from `first` on (R153). -/
def Eng.discardStreams (e : Eng) (first : Nat) : Eng :=
  let gone (s : Stream) : Bool := decide (first ≤ s.instar)
  let lanes := Tab.mapVals e.smp.lanes fun _ l =>
    if (l.stream.map gone).getD false then { l with mode := if l.mode = 1 then 0 else l.mode, stream := none } else l
  let aborted := (Tab.keys e.smp.descs).filter fun n => decide (first ≤ n)
  Eng.assignLanes 64 { e with smp := { e.smp with
    waiting := e.smp.waiting.filter fun s => !gone s
    buffer := e.smp.buffer.filter fun s => !gone s
    lanes := lanes.filter fun p => p.2 ≠ {}
    drafts := e.smp.drafts.filter fun d => decide (d.instar < first)
    noSelect := (e.smp.noSelect ++ aborted).drop ((e.smp.noSelect ++ aborted).length - 16) } }

end Sys2Proof.Machine
end

