-- ==== Sys2Proof/Machine/Compose.lean ====
section
/-! DEFINITION. Composing an instar (05): the constraints, the draft, the turnaround's finalise, the seal and the launch. -/

namespace Sys2Proof.Machine

/-! ## Constraints (R108, R109, R111, R121) -/

/-- What an instar has to satisfy, as CMP takes it at one moment. -/
structure Bounds where
  widthCap : Nat
  /-- TBT_LIM [ps]. -/
  tbt : Nat
  sigma : Nat
  limit : Nat
  basePs : Nat
  allows : List Allow
  noPrefill : Bool
  idleReq : Bool
  quietReq : Bool
  idleUs : Nat
  deriving DecidableEq, Repr

/-- The newest allowance record of a rank; a rank without one allows nothing. -/
def Eng.newestOf (e : Eng) (r : Nat) : Allow := (Tab.get? e.cmp.newest r).getD { instar := 0xFFFFFFFF, rank := r }
def Eng.newestAll (e : Eng) : List Allow := (List.range e.img.n).map e.newestOf

/-- TBT_LIM of R109 [ps]. -/
def Eng.tbtLim (e : Eng) : Nat :=
  1000000 * minO (minO (e.param 0x0602) (e.minTbt 2)) (e.minTbt 1)

/-- The constraints with given allowances. -/
def Eng.bounds (e : Eng) (sigma limit : Nat) (as : List Allow) : Bounds :=
  let flag (i : Nat) : Bool := as.any fun a => bit a.flags i
  { widthCap := minO (min 16384 (e.param 0x0601)) (leastOf ((as.map Allow.widthCap).filter (· ≠ 0)))
    tbt := e.tbtLim, sigma := sigma, limit := limit, basePs := e.basePs, allows := as,
    noPrefill := flag 0, idleReq := flag 1, quietReq := flag 2, idleUs := max0 (as.map Allow.idleUs) }

/-- The period bound P of a set of entries [ps] (R108). -/
def Eng.periodOf (e : Eng) (b : Bounds) (l : List DEntry) : Nat :=
  scaleBy b.sigma b.limit (b.basePs + sumN (l.map e.wcetEntry)) + turnPs

/-- The energy forecast of R111 for one chip [2^-8 µJ]. -/
def forecast (a : Allow) (l : List DEntry) : Nat :=
  256 * a.e0 + sumN (l.map fun x => a.eTok * x.feed + a.eSmp * x.samples + a.eCtx * x.feed * x.ctxUnits)

def fitsChip (a : Allow) (l : List DEntry) : Bool := decide (forecast a l ≤ 256 * a.eAllow)

/-- The binding chip: the least headroom, the lowest rank among equals (R111). -/
def bindingChip (as : List Allow) (l : List DEntry) : Allow :=
  let room (a : Allow) : Int := (256 * a.eAllow : Nat) - (forecast a l : Nat)
  match as with
  | [] => { instar := 0xFFFFFFFF }
  | a :: rest => rest.foldl (fun m c => if room c < room m then c else m) a

/-- Entries of the draft that share a directory cache set with `tag` (R65, R113). -/
def Eng.sameSet (e : Eng) (l : List DEntry) (tag : Nat) : Nat :=
  (l.filter fun x => e.sliceOf x.tag == e.sliceOf tag && e.setOf x.tag == e.setOf tag).length

/-- Why an entry does not fit, as BIND codes it, or none (R113). -/
def Eng.misfit (e : Eng) (b : Bounds) (l : List DEntry) (x : DEntry) : Option Nat :=
  if b.widthCap < l.length + 1 then some 1
  else if 16 ≤ e.sameSet l x.tag then some 4
  else if b.tbt < e.periodOf b (l ++ [x]) then some 2
  else if b.allows.all (fun a => fitsChip a (l ++ [x])) then none
  else some 3

/-! ## Entries (R112, R195) -/

/-- The sampling-parameter record of a session. -/
def Eng.sparam (e : Eng) (i : Nat) : Bytes := Tab.getD e.img.sparams i []

/-- The number of draft tokens offered (R195). -/
def Eng.draftsOf (e : Eng) (x : Entry) (samplePos count : Nat) : Nat :=
  let q := e.sparam x.sparam
  if x.grammarOn && !bit (u8 q 46) 0 then 0
  else
    let k := min (bitsOf (u8 q 28) 6 4) ((e.model x.model).context - 1 - samplePos)
    if u32 q 32 = 0 then k else min k (u32 q 32 - count - 1)

/-- A candidate's entry for the next instar (R112, R113). A prefill entry still has to be sized. DESIGN CHOICE: a session in
PREFILL whose KV_LENGTH has come to POSITION - 1 takes a decode entry, as one that is QUEUED does (log entry 136). -/
def Eng.nextEntry (e : Eng) (x : Entry) : DEntry :=
  let ahead := ((e.inFlight.map Flight.entries).getD []).find? fun d => d.tag == x.tag
  let now_ : Nat × Nat × Nat := match ahead with
    | some d => if d.kind = 0 then (d.kvStart + d.feed, x.position, 0) else (x.position, x.position + 1, 1)
    | none => (x.kvLen, x.position, 0)
  let kv := now_.1
  let pos := now_.2.1
  let more := now_.2.2
  let count := Tab.get? e.smp.turnCount x.tag
  let base : DEntry :=
    { tag := x.tag, kvStart := kv, feed := 0, turnFirst := count.isNone && ahead.isNone, kind := 0,
      prefixNew := x.prefixOn && ahead.isNone && (kv != 0) && (kv == 16 * e.prefixPages x.prefixId),
      grammarOn := x.grammarOn, dclass := x.dclass, model := x.model, grammarId := x.grammarId, sparam := x.sparam,
      grammarState := x.grammarState, prefixId := x.prefixId, prefixOn := x.prefixOn, tenant := x.tenant }
  if kv + 1 = pos then
    let k := e.draftsOf x pos ((count.getD 0) + more)
    { base with kind := 2, drafts := k, feed := 1 + k, samplePos := pos }
  else { base with feed := pos - kv }

/-- A prefill entry with FEED `t` of the `rem` tokens left (R112). -/
def DEntry.chunk (x : DEntry) (t rem : Nat) : DEntry :=
  if t = rem then { x with feed := t, kind := 1, samplePos := x.kvStart + t }
  else { x with feed := t, kind := 0, samplePos := 0xFFFFFFFF }

/-- The first FEED that size_chunk tries. -/
def Eng.firstChunk (e : Eng) (kv rem : Nat) : Nat :=
  let t := min rem e.chunkMax
  if t < rem then t - (kv + t) % 16 else t

/-- size_chunk of R112 from FEED `t` downward: the entry, or why the last FEED tried does not fit. -/
def Eng.sizeFrom (e : Eng) (b : Bounds) (l : List DEntry) (x : DEntry) (rem : Nat) : Nat → Nat → Except Nat DEntry
  | 0, _ => .error 2
  | fuel + 1, t =>
    if t = 0 then .error 2
    else
      let y := x.chunk t rem
      match e.misfit b l y with
      | none => .ok y
      | some why =>
        let t' := t - 1 - (x.kvStart + t - 1) % 16
        if t' = 0 then .error why else e.sizeFrom b l x rem fuel t'

/-- size_chunk of R112. The `feed` of `x` is the tokens left. -/
def Eng.sizeChunk (e : Eng) (b : Bounds) (l : List DEntry) (x : DEntry) : Except Nat DEntry :=
  e.sizeFrom b l x x.feed 4096 (e.firstChunk x.kvStart x.feed)

/-! ## The draft (R113, R114, R120, R122) -/

def Eng.setDraft (e : Eng) (f : Draft → Draft) : Eng := { e with cmp := { e.cmp with draft := f e.cmp.draft } }

def sortKeys (l : List Key) : List Key := sortBy (fun a b => !(b.lt a)) l

/-- Inserts a key into the standby list at its place; a full list of 256 gives up its last key only to a smaller one. -/
def addStandby (l : List Key) (k : Key) : List Key :=
  if l.any (fun s => s.tag == k.tag) then l else (sortKeys (k :: l)).take 256

/-- Starts a draft: the keys are those of the present, and sigma and L are taken now (R105, R109). -/
def Eng.startDraft (e : Eng) (cold : Bool) : Eng :=
  let keys := e.pool.foldl (fun m x => Tab.put m x.tag (e.keyOf x)) ([] : Tab Key)
  e.setDraft fun _ => { running := true, start := e.now, cold := cold, keys := keys, sigma := e.dln.sigma, limit := e.dln.limit }

/-- The session's log has whole pages to match against learned prefixes, and this has not been done (R120). -/
def Eng.wantsMatch (e : Eng) (x : Entry) : Bool :=
  x.kvLen == 0 && !x.prefixOn && !e.pln.matched.contains x.tag && decide (17 ≤ x.position)
    && !((e.inFlight.map Flight.entries).getD []).any fun d => d.tag == x.tag

/-- Notes the first exclusion of a candidate. -/
def Draft.excluded (d : Draft) (why : Nat) : Draft := if d.bind = 0 then { d with bind := why } else d

/-- CMP examines one candidate. -/
def Eng.examine (e : Eng) (k : Key) : Eng :=
  let d := e.cmp.draft
  let b := e.bounds d.sigma d.limit e.newestAll
  if b.widthCap ≤ d.placed.length ∧ 256 ≤ d.standby.length then e.setDraft fun d => { d with running := false }
  else match e.find k.tag with
    | none => e
    | some x =>
      let e := e.setDraft fun d => { d with examined := d.examined + 1, upTo := some k }
      if !e.candidate x then e
      else if e.pln.matching.contains x.tag then e
      else if e.wantsMatch x then { e with pln := { e.pln with matching := x.tag :: e.pln.matching } }
      else
        let l := d.placed.map Placed.e
        let y := e.nextEntry x
        let placed : Except Nat DEntry :=
          if y.kind = 2 then
            match e.misfit b l y with
            | none => .ok y
            | some why =>
              if y.drafts = 0 then .error why
              else
                let z := { y with drafts := 0, feed := 1 }
                match e.misfit b l z with
                | none => .ok z
                | some why => .error why
          else if b.noPrefill then .error 6
          else e.sizeChunk b l y
        match placed with
        | .ok z => e.setDraft fun d => { d with placed := d.placed ++ [{ key := k, e := z }] }
        | .error why =>
          let e := if why = 4 then e.bump Reg.CMP_DEFER_SET 31 0 1 else e
          e.setDraft fun d => { d.excluded why with standby := if d.standby.length < 256 then d.standby ++ [k] else d.standby }

/-- Examines up to `n` candidates in key order; the draft ends when none is left. -/
def Eng.runDraft (e : Eng) (n : Nat) : Eng :=
  let d := e.cmp.draft
  let later (k : Key) : Bool := match d.upTo with | some u => u.lt k | none => true
  let todo := sortKeys ((Tab.vals d.keys).filter later)
  let e := (todo.take n).foldl (fun e k => if e.cmp.draft.running then e.examine k else e) e
  if todo.length ≤ n then e.setDraft fun d => { d with running := false } else e

/-- Brings the running draft up to the present: one candidate per CMP cycle after two (R114). -/
def Eng.catchUp (e : Eng) : Eng :=
  let d := e.cmp.draft
  if !d.running then e else e.runDraft ((2 * (e.now - d.start) - 2) - d.examined)

/-- The turnaround stops the draft wherever it stands (R114). -/
def Eng.stopDraft (e : Eng) : Eng :=
  let d := e.cmp.draft
  if !d.running then e
  else
    let e := e.setDraft fun d => { d with running := false, truncated := true }
    (e.bump Reg.CMP_TRUNC 31 0 1).raiseOnce 0x6600 0x66 1 0 [(16, 4, d.examined)]

/-- Sessions that are no longer in the pool are forgotten: one that comes back is a new candidate (R114, R122). -/
def Eng.leaveDraft (e : Eng) : Eng :=
  let tags := e.pool.map Entry.tag
  e.setDraft fun d => { d with keys := d.keys.filter fun p => tags.contains p.1 }

/-- Sessions that have joined the pool since the draft began go to their place in it (R114). -/
def Eng.joinDraft (e : Eng) : Eng :=
  let d := e.cmp.draft
  let keys := d.keys
  let new := (e.pool.filter fun x => (Tab.get? keys x.tag).isNone).map e.keyOf
  let passed (k : Key) : Bool := !d.running || (match d.upTo with | some u => k.lt u | none => false)
  let late := (new.filter passed).filter fun k => !d.placed.any fun p => p.key.tag == k.tag
  let match_ (k : Key) : Bool := ((e.find k.tag).map e.wantsMatch).getD false
  let e := { e with pln := { e.pln with matching := (late.filter match_).map Key.tag ++ e.pln.matching } }
  let late := late.filter fun k => !e.pln.matching.contains k.tag
  e.setDraft fun d => { d with keys := new.foldl (fun m k => Tab.put m k.tag k) keys,
                               standby := late.foldl addStandby d.standby }

/-! ## Finalising (R115 to R118, R128) -/

/-- The allowances of the fit of instar `num`: the records of the barrier of num - 2, a missing one replaced by the
rank's newest; its newest records alone on the cold-start path and for the second instar since start-up. -/
def Eng.fitAllows (e : Eng) (num : Nat) (cold : Bool) : List Allow × List Nat :=
  if cold || e.cmp.firstLaunch == 0 || decide (num ≤ e.cmp.firstLaunch + 1) then (e.newestAll, [])
  else
    let at_ (r : Nat) : Option Allow := Tab.get? e.cmp.byBarrier (repKey ((num - 2) % 2 ^ 32) r)
    ((List.range e.img.n).map fun r => (at_ r).getD (e.newestOf r), (List.range e.img.n).filter fun r => (at_ r).isNone)

/-- ALLOW_INSTAR of a record (Table 5-8). -/
def Allow.source (a : Allow) : Nat := if a.instar = 0xFFFFFFFF then a.instar else (a.instar + 2 ^ 32 - 2) % 2 ^ 32

/-- The commit step: entries of sessions that are no longer candidates go, and entries of those whose commit took draft
tokens move on (R116). An entry that no longer starts where its session's KV state ends goes as well. -/
def Eng.commitStep (e : Eng) (l : List Placed) : List Placed :=
  l.filterMap fun p =>
    match e.find p.key.tag with
    | none => none
    | some x =>
      if !e.candidate x then none
      else
        let y := if p.e.kind = 2 then { p.e with kvStart := x.position - 1, samplePos := x.position } else p.e
        let y := { y with grammarState := x.grammarState, turnFirst := (Tab.get? e.smp.turnCount x.tag).isNone }
        if y.kvStart ≠ x.kvLen ∨ (y.kind = 2 ∧ x.kvLen + 1 ≠ x.position) then none else some { p with e := y }

/-- Inserts an entry at its key. -/
def insertPlaced (p : Placed) : List Placed → List Placed
  | [] => [p]
  | q :: l => if p.key.lt q.key then p :: q :: l else q :: insertPlaced p l

/-- The merge step (R117): the merged list, the code of the first exclusion, 0 for none, and how many candidates a full cache
set kept out (R66). -/
def Eng.mergeStep (e : Eng) (b : Bounds) (l : List Placed) (standby : List Key) : List Placed × Nat × Nat :=
  standby.foldl (fun (st : List Placed × Nat × Nat) k =>
    let no (why : Nat) : List Placed × Nat × Nat := (st.1, if st.2.1 = 0 then why else st.2.1, st.2.2 + b2n (why == 4))
    match e.find k.tag with
    | none => st
    | some x =>
      if !e.candidate x || st.1.any (fun p => p.key.tag == k.tag) then st
      else
        let y := e.nextEntry x
        if b.widthCap < st.1.length + 1 then no 1
        else if 16 ≤ e.sameSet (st.1.map Placed.e) k.tag then no 4
        else if y.kind = 2 then (insertPlaced { key := k, e := y } st.1, st.2)
        else if b.noPrefill then no 6
        else (insertPlaced { key := k, e := y.chunk (e.firstChunk y.kvStart y.feed) y.feed } st.1, st.2)) (l, 0, 0)

/-- The longest prefix of the merged list that fits, and the code that ends it (R117). -/
def Eng.fitPrefix (e : Eng) (b : Bounds) : List Placed → List DEntry → List DEntry × List Placed × Nat
  | [], acc => (acc, [], 0)
  | p :: l, acc =>
    match e.misfit b acc p.e with
    | none => e.fitPrefix b l (acc ++ [p.e])
    | some why => (acc, p :: l, why)

/-- The tokens still to feed of a prefill entry, as size_chunk takes them. -/
def Eng.wholeOf (e : Eng) (x : DEntry) : DEntry :=
  match e.find x.tag with
  | some s => { x with feed := s.position - x.kvStart }
  | none => x

/-- The fit: entries kept, entries dropped, whether one was resized, and the code of the first exclusion. -/
def Eng.fitStep (e : Eng) (b : Bounds) (l : List Placed) : List DEntry × List Placed × Bool × Nat :=
  let barred := if b.noPrefill then l.filter fun p => p.e.kind != 2 else []
  let l := if b.noPrefill then l.filter fun p => p.e.kind == 2 else l
  let (kept, rest, why) := e.fitPrefix b l []
  let why := if barred.isEmpty then why else 6
  match rest with
  | [] => (kept, barred, false, why)
  | p :: more =>
    if p.e.kind = 2 then (kept, barred ++ rest, false, why)
    else match e.sizeChunk b kept (e.wholeOf p.e) with
      | .ok y => (kept ++ [y], barred ++ more, true, why)
      | .error _ => (kept, barred ++ rest, false, why)

/-! ## The seal (R121, R123, R124) -/

/-- Entries in ascending model, and within a model in key order. -/
def byModel (l : List DEntry) : List DEntry := (List.range 16).flatMap fun m => l.filter fun x => x.model == m

/-- The header as CMP leaves it (Table 5-8). -/
def sealHeader (num flags periodNs idleNs bind : Nat) (ents : List DEntry) (chip : Allow) : Bytes :=
  let models := maskOf 16 fun m => ents.any fun x => x.model == m
  layout 64 [(0, 6, num), (6, 1, 1), (7, 1, flags), (12, 2, ents.length), (14, 2, models), (24, 4, periodNs), (28, 4, idleNs),
    (32, 4, sumN (ents.map DEntry.feed)), (36, 4, sumN (ents.map DEntry.samples)),
    (40, 4, min (ceilDiv (forecast chip ents) 256) 0xFFFFFFFF), (44, 1, chip.rank), (45, 1, bind), (48, 4, chip.source),
    (56, 4, crc32c (ents.flatMap DEntry.bytes))]

/-- The session of an entry is in a sealed instar (Table 3-2, Table 5-2). -/
def Eng.placeEntry (e : Eng) (y : DEntry) : Eng :=
  let e := e.modEntry y.tag fun x =>
    if x.state == .queued then { x with state := if y.kind = 2 then .decode else .prefill } else x
  let e := { e with dir := { e.dir with staged := e.dir.staged ++ [y.tag] } }
  if y.turnFirst then
    { e with smp := { e.smp with turnCount := Tab.put e.smp.turnCount y.tag 0, master := Tab.put e.smp.master y.tag [],
                                 fullRaised := e.smp.fullRaised.filter (· ≠ y.tag) } }
  else e

/-- What a chip learns from a descriptor entry about its session's pages (09 R211, R213, R215, R233): a prefix just attached
takes the place of the list's first groups, the instar writes the pages of FEED positions, and a decode entry claims T0. -/
def Eng.chipEntry (e : Eng) (y : DEntry) : Eng :=
  let e := if y.prefixOn then e else e.detachPrefix y.tag
  match Tab.get? e.pln.recs y.tag with
  | none => e
  | some r =>
    let n := if y.prefixNew ∧ r.base = 0 then y.kvStart / 16 else 0
    let pages := r.pages.drop (n * e.pages16 y.model)
    e.setRec { r with model := y.model, base := r.base + n, prefixId := if n = 0 then r.prefixId else y.prefixId, pages := pages,
                      resPages := (pages.filter fun p => p.frame.isSome).length, t1Len := y.kvStart + y.feed,
                      dec := if y.kind = 2 then some (2 - e.kindOf y.dclass) else none, tenant := y.tenant, decAt := e.now }

/-- A chip takes a descriptor's entries. -/
def Eng.chipDescriptor (e : Eng) (ents : List DEntry) : Eng := (ents.foldl Eng.chipEntry e).dealT0

/-- An engine takes a checked descriptor: DSQ, its Tail lanes and its pages (R126, R137). -/
def Eng.takeDescriptor (e : Eng) (raw : Bytes) (received : Nat) (resent : Bool) : Eng :=
  let num := u48 raw 0
  let ents := descEntries raw
  let e := if e.isLead then e else Eng.amendEffects { e with twm := { e.twm with term := u32 raw 8 } } num
  let e := { e with cmp := { e.cmp with checked := some { num := num, raw := raw } } }
  let e := (e.tailDescriptor num ents).chipDescriptor ents
  e.startShard num (u16 raw 12) (u8 raw 7) (u64 raw 16) (u32 raw 24) received resent ents

/-- Forwards a descriptor to the children, and keeps it for a resend (R126). -/
def Eng.forwardDesc (e : Eng) (raw : Bytes) : Eng :=
  let k := e.cmp.kept ++ [{ num := u48 raw 0, raw := raw }]
  { e.down 0x04 raw with cmp := { e.cmp with kept := k.drop (k.length - 2) } }

/-- Opens the positions that an instar samples, at the Lead (07 R175). -/
def Eng.openPositions (e : Eng) (num : Nat) (ents : List DEntry) : Eng :=
  let ps := ents.flatMap fun x => (List.range x.samples).map fun m =>
    ({ instar := num, tag := x.tag, pos := x.samplePos + m } : Merged)
  { e with smp := { e.smp with merged := e.smp.merged ++ ps } }

/-- DSQ builds the header and launches the descriptor of a sealed instar (R123, R126). -/
def Eng.launch (e : Eng) (num : Nat) : Eng :=
  match e.cmp.flights.find? fun f => f.num == num with
  | none => e
  | some f =>
    let h := f.hdr.take 8 ++ leBytes 4 e.twm.term ++ slice f.hdr 12 4 ++ leBytes 8 e.now ++ slice f.hdr 24 36
    let raw := withCrc h ++ f.entries.flatMap DEntry.bytes
    let e := e.modFlight num fun f => { f with launched := true, launch := e.now }
    let e := if e.cmp.firstLaunch = 0 then { e with cmp := { e.cmp with firstLaunch := num } } else e
    let e := (e.traceInstar 9 1 num).forwardDesc raw
    (e.openPositions num f.entries).takeDescriptor raw e.now false

/-- The debug controls of instar stepping (13 R376 to R378). -/
def Eng.debug (e : Eng) : Bool := bit (e.reg Reg.DBG_CTRL).toNat 31

/-- A descriptor just sealed is held, or launched (13 R377, R378). -/
def Eng.presentSeal (e : Eng) (num : Nat) : Eng :=
  let brk := e.debug && bit (e.reg Reg.DBG_CTRL).toNat 28 && num % 2 ^ 48 == e.reg64 Reg.DBG_BREAK_LO % 2 ^ 48
  let e := if brk then e.setFld Reg.DBG_CTRL 30 30 1 else e
  if e.debug && bit (e.reg Reg.DBG_CTRL).toNat 30 then
    if e.dbg.lock.held then
      (Eng.raise { e with dbg := { e.dbg with haltPending := true } } 0xE1 1 0 [(16, 1, 1), (20, 4, num % 2 ^ 32)]).launch num
    else
      Eng.raise { e with cmp := { e.cmp with heldDesc := some (num, e.now) } } 0xE1 1 0 [(16, 1, 0), (20, 4, num % 2 ^ 32)]
  else e.launch num

/-- CMP seals an instar: `idle` 0 for one with entries, 1 idle, 2 quiet. From the seal on, DLN and CMP apply the stretch limit
that RYV_ISL_STRETCH_LIMIT then holds (02 Table 2-12). -/
def Eng.seal (e : Eng) (b : Bounds) (ents : List DEntry) (idle bind : Nat) : Eng :=
  let num := (e.cmp.last + 1) % 2 ^ 48
  let ents := byModel ents
  let idleNs := if idle = 0 then 0 else 1000 * b.idleUs
  let period := if idle = 0 then e.periodOf b ents / 1000 else idleNs
  let chip := bindingChip b.allows ents
  let bind := if idle = 0 then bind else 0
  let hdr := sealHeader num (if idle = 1 then 1 else if idle = 2 then 2 else 0) period idleNs bind ents chip
  let f : Flight := { num := num, periodNs := period, entries := ents, idle := idle == 1, quiet := idle == 2,
                      idleNs := idleNs, sealTs := e.now, hdr := hdr }
  let calm := e.pool.all fun x => e.kindOf x.dclass != 2 || decide (1000000 ≤ e.slack x)
  let c := { e.cmp with last := num, sealAt := some e.now, sealCalm := calm,
                        flights := e.cmp.flights ++ [f], sealWait := none, recompose := false,
                        lastWidth := ents.length, lastBind := bind, lastBindRank := chip.rank, lastPeriod := period,
                        lastForecast := u32 hdr 40, lastIdle := idle == 1, lastQuiet := idle == 2,
                        idleOwed := if idle = 0 then true else if idle = 1 then false else e.cmp.idleOwed }
  let e := { e with cmp := c, dln := { e.dln with limit := e.fld Reg.ISL_STRETCH_LIMIT 15 0 } }
  let e := ((e.count 1 1).bump64 Reg.CMP_FED_LO (u32 hdr 32)).bump64 Reg.SMP_DRAFT_OFFERED_LO (sumN (ents.map DEntry.drafts))
  let e := e.traceInstar 8 0 num
  let e := if idle = 0 then e
    else
      let e := if idle = 2 then e.bump Reg.CMP_IDLE 31 16 1 else e.bump Reg.CMP_IDLE 15 0 1
      e.raise 0x62 0 0 [(16, 1, idle - 1), (20, 4, idleNs)]
  let e := ents.foldl Eng.placeEntry e
  let e := e.amendEffects num
  (e.presentSeal num).startDraft false

/-! ## When CMP may seal -/

/-- The wing and the engine compose (R128, 10 Table 10-10, 12 Table 12-8). -/
def Eng.composes (e : Eng) : Bool :=
  e.isLead && e.cmp.active && !e.cmp.stopped && !e.twm.dual && !e.stopping &&
    (e.twm.wing == .paired || e.twm.wing == .solo || e.twm.wing == .seeking) &&
    (List.range e.img.n).all fun r => e.cmp.started.contains r

/-- The COMMIT batch of eight instars before is durable, and the rings have room (10 R258). -/
def Eng.sealDurable (e : Eng) : Bool :=
  !e.ringBelow 64 && !(e.twm.batches.any fun b => b.kind == 1 && decide (b.instar + 8 ≤ e.cmp.last + 1))

/-- STRICT candidates left out of a seal, an idle or quiet one too: the first one is reported (Table 5-11). DESIGN CHOICE: its
negative slack is written as a magnitude, 0 where the slack is not negative, saturating at 32 bits (log entry 138). -/
def Eng.noteStrict (e : Eng) (ents : List DEntry) : Eng :=
  let out := (e.inKeyOrder e.pool).filter fun x => e.kindOf x.dclass == 2 && !ents.any fun y => y.tag == x.tag
  match out.head? with
  | none => e
  | some x =>
    e.raiseOnce (0x610000 + x.dclass) 0x61 2 x.tag [(16, 1, x.dclass), (20, 4, min (-(e.slack x)).toNat 0xFFFFFFFF)]

/-- Raises the events of a fit (R117, R128). -/
def Eng.noteFit (e : Eng) (b : Bounds) (kept : List DEntry) (dropped : List Placed) (resized : Bool) (bind : Nat)
    (stale : List Nat) : Eng :=
  let e := stale.foldl (fun e r => e.raiseOnce (0x670000 + r) 0x67 1 0 [(16, 1, r), (20, 4, (e.newestOf r).source)]) e
  let n := dropped.length + b2n resized
  let e := e.bump Reg.CMP_TRIMS 31 0 n
  let firm := (dropped.filter fun p => e.kindOf p.e.dclass != 0).length
  if firm = 0 then e
  else e.raiseOnce 0x6000 0x60 1 0
    [(16, 2, n), (18, 1, (bindingChip b.allows kept).rank), (19, 1, bind), (20, 4, firm)]

/-- The least slack of the STRICT and FIRM DECODE candidates (R121). -/
def Eng.leastSlack (e : Eng) : Int :=
  (e.pool.filter fun x => e.kindOf x.dclass != 0 && x.state == .decode).foldl (fun m x => min m (e.slack x)) ((2 ^ 63 : Nat) - 1)

/-- A quiet request as CMP has it: the present records', or the one kept since (R121), with its IDLE_US (log entry 139). -/
def Eng.quietAsked (e : Eng) (b : Bounds) : Option Nat := if b.quietReq then some b.idleUs else e.cmp.quietKept

/-- Finalises the draft and seals the next instar, or an idle or quiet one, or nothing (R115 to R118, R121). DESIGN CHOICE: of
several exclusions BIND names the draft's first, then the merge's, then a truncated draft, then the fit's; candidates that a
cold-start draft did not reach count as none (log entry 137). -/
def Eng.finalise (e : Eng) (cold : Bool) : Eng :=
  let d := e.cmp.draft
  let (as, stale) := e.fitAllows (e.cmp.last + 1) cold
  let b := e.bounds d.sigma d.limit as
  let l := e.commitStep d.placed
  let (l, why1, full) := e.mergeStep b l d.standby
  let e := e.bump Reg.CMP_DEFER_SET 31 0 full
  let (kept, dropped, resized, why2) := e.fitStep b l
  let bind := if d.bind ≠ 0 then d.bind else if why1 ≠ 0 then why1 else if d.truncated then 5 else why2
  let e := e.noteFit b kept dropped resized bind stale
  let least := e.leastSlack
  let asked := e.quietAsked b
  let quiet := asked.any fun us => decide ((1000 * us : Nat) ≤ least)
  let e := if quiet then { e with cmp := { e.cmp with quietDeferred := 0, quietKept := none } }
    else match asked with
      | none => e
      | some us =>
        let n := e.cmp.quietDeferred + 1
        Eng.raise { e with cmp := { e.cmp with quietDeferred := n, quietKept := some us } } 0x63 1 0
          [(16, 4, n), (20, 4, unsigned 32 (max (-2 ^ 31) (min least (2 ^ 31 - 1))))]
  if quiet then (e.noteStrict []).seal { b with idleUs := asked.getD b.idleUs } [] 2 0
  else if b.idleReq && e.cmp.idleOwed then (e.noteStrict []).seal b [] 1 0
  else if kept.isEmpty then { e with cmp := { e.cmp with sealWait := none, recompose := false } }
  else (e.noteStrict kept).seal b kept 0 bind

/-- The seal of a turnaround: at once, or when R258 and the wing allow it. -/
def Eng.trySeal (e : Eng) : Eng :=
  if e.composes && e.sealDurable then e.finalise false
  else
    let e := if e.composes then e.bump Reg.TWM_AHEAD 15 8 1 else e
    { e with cmp := { e.cmp with sealWait := some e.now } }

/-- Composes on the cold-start path (R122). -/
def Eng.coldStart (e : Eng) : Eng :=
  let e := (e.startDraft true).runDraft 60
  (e.setDraft fun d => { d with running := false }).finalise true

/-- A session of the pool that no draft has met yet. -/
def Eng.newCandidate (e : Eng) : Bool := e.pool.any fun x => (Tab.get? e.cmp.draft.keys x.tag).isNone

/-- What composing does when something has changed: a seal held back goes on, a new candidate starts or joins a draft. A
cold-start seal that R258 holds back is counted as any other, and is composed anew when it may go on. -/
def Eng.settleCompose (e : Eng) : Eng :=
  let ready := e.composes && e.sealDurable
  let e := e.leaveDraft
  if e.inFlight.isSome then e.joinDraft
  else match e.cmp.sealWait with
    | some t =>
      if !ready then (if e.cmp.recompose then e else e.joinDraft)
      else
        let e := e.waitEnd (if e.ringBelow 32 then 5 else 4) 8 0 t
        if e.cmp.recompose then e.coldStart else e.joinDraft.finalise false
    | none =>
      if !ready then
        if e.composes && (e.newCandidate || e.cmp.recompose) then
          Eng.bump { e with cmp := { e.cmp with sealWait := some e.now, recompose := true } } Reg.TWM_AHEAD 15 8 1
        else e
      else if e.newCandidate || e.cmp.recompose then e.coldStart
      else e

/-! ## Matching a learned prefix (R120) -/

/-- Looks up the chain values from the longest: the prefix to attach, and how many hits were refused. -/
def Eng.findPrefix (e : Eng) (model : Nat) (toks : List Nat) : List (Nat × Nat) → Nat → Option Nat × Nat
  | [], n => (none, n)
  | (pages, h) :: l, n =>
    match e.pln.library.find? fun p => p.2.model == model && p.2.pages == pages && p.2.chain == h with
    | none => e.findPrefix model toks l n
    | some p =>
      if !p.2.resident then e.findPrefix model toks l (n + 1)
      else if p.2.tokens == toks.take (16 * pages) then (some p.1, n)
      else (none, n + 1)

/-- The prefix match of a session ends; the draft meets the session anew. Nothing happens for one that is not matched. -/
def Eng.matchPrefix (e : Eng) (tag : Nat) : Eng :=
  if !e.pln.matching.contains tag then e else
  let e := { e with pln := { e.pln with matching := e.pln.matching.filter (· ≠ tag), matched := tag :: e.pln.matched } }
  let e := e.setDraft fun d => { d with keys := Tab.del d.keys tag }
  match e.find tag with
  | none => e
  | some x =>
    if x.kvLen ≠ 0 ∨ x.prefixOn ∨ !x.sticky then e
    else
      let n := min 256 ((x.position - 1) / 16)
      let toks := e.logIds tag
      let hs := chainFrom e.img.keys.pk0 e.img.keys.pk1 n x.model toks
      let chain := ((List.range n).map (· + 1)).zip hs
      let (hit, refused) := e.findPrefix x.model toks chain.reverse 0
      let e := e.bump Reg.CMP_PREFIX 31 16 refused
      match hit with
      | some id =>
        let pages := e.prefixPages id
        let e := { e with pln := { e.pln with
          library := Tab.modify e.pln.library id fun p => { p with lastUse := e.now } } }
        (e.putEntry { x with prefixOn := true, prefixId := id, kvLen := 16 * pages }).bump Reg.CMP_PREFIX 15 0 1
      | none => e.countChain x n (hs.getLastD 0)

end Sys2Proof.Machine
end

