-- ==== Sys2Proof/Machine/Merge.lean ====
section
/-! DEFINITION. The Lead's merge of Tail summaries, token selection and the second pass (07 R175 to R180, R182, 08 R190). -/

namespace Sys2Proof.Machine

/-! ## Orders (R172) -/

def noY : Int := -(2 ^ 63 : Nat)

/-- The larger key wins, and between equal keys the lower token id. -/
def keyBetter (a b : Int × Nat) : Bool := decide (b.1 < a.1 ∨ (a.1 = b.1 ∧ a.2 < b.2))
def bestOf : Option (Int × Nat) → Option (Int × Nat) → Option (Int × Nat)
  | none, b => b
  | a, none => a
  | some a, some b => some (if keyBetter b a then b else a)

/-- Processed-value order. -/
def Cand.before (a b : Cand) : Bool := decide (b.y < a.y ∨ (a.y = b.y ∧ a.id ≤ b.id))

/-- The first of a list by the order of keys. -/
def bestKey (l : List Cand) (theta : Int) : Option Nat :=
  (l.foldl (fun m c => if theta ≤ c.y then bestOf m (some (c.k, c.id)) else m) (none : Option (Int × Nat))).map Prod.snd

/-! ## Mass (R169) -/

/-- I = Y >> 32 of a processed value, and its mantissa weight. -/
def yLevel (y : Int) : Int := y / (2 ^ 32 : Nat)
def yMant (y : Int) : Nat := massE ((y / (2 ^ 16 : Nat)) % (2 ^ 16 : Nat)).toNat
/-- A token's weight in the Lead's units. -/
def weightAt (iTop y : Int) : Nat :=
  let d := iTop - yLevel y
  if 0 ≤ d ∧ d ≤ 47 then yMant y * 2 ^ (47 - d.toNat) else 0

/-- A mass window moved down by `d` levels. -/
def shiftMass (d : Nat) (l : List Nat) : List Nat := (List.replicate d 0 ++ l).take 48
def addMass (a b : List Nat) : List Nat := (List.range 48).map fun i => a.getD i 0 + b.getD i 0
/-- Mass of levels 0 to j - 1 of a window. -/
def massTo (l : List Nat) (j : Nat) : Nat := sumN ((List.range j).map fun i => l.getD i 0 * 2 ^ (47 - i))

/-! ## Positions -/

def Eng.position? (e : Eng) (tag pos instar32 : Nat) : Option Merged :=
  e.smp.merged.find? fun m => m.tag == tag && m.pos == pos && m.instar % 2 ^ 32 == instar32
def Eng.positionAt (e : Eng) (tag pos : Nat) : Option Merged :=
  e.smp.merged.find? fun m => m.tag == tag && m.pos == pos
def Eng.setMerged (e : Eng) (m : Merged) : Eng :=
  { e with smp := { e.smp with merged := updWhere (fun x => x.instar == m.instar && x.tag == m.tag && x.pos == m.pos) (fun _ => m) e.smp.merged } }

/-- The descriptor entry of a position, at the Lead. -/
def Eng.flightEntry (e : Eng) (m : Merged) : Option DEntry :=
  (e.cmp.flights.find? fun f => f.num == m.instar).bind fun f => f.entries.find? fun x => x.tag == m.tag

/-- Every Tail's summary, and its note where the session has a grammar, is in (08 R190). -/
def Eng.complete (e : Eng) (m : Merged) : Bool :=
  let g := ((e.flightEntry m).map DEntry.grammarOn).getD false
  e.tails.all fun r => m.got.contains r && (!g || m.noted.contains r)

/-! ## Failed senders (R182, R27) -/

/-- An engine treats another of its flutter as failed (01 R27). At the Lead it composes no further, and the wing acts on it
(R128, 10 R268); a Tail that gives up the Lead holds the fact, and the failover is the wing's. -/
def Eng.treatFailed (e : Eng) (rank : Nat) : Eng :=
  { e with cmp := { e.cmp with stopped := true }, twm := { e.twm with failedRank := some (e.twm.failedRank.getD rank) } }

/-- A message of a sender fails its CRC: it is requested once more, and a second failure fails the sender. `kind`: 0
summary, 1 SELECT, 2 reply. `ask` is the request. -/
def Eng.badMessage (e : Eng) (kind rank instar tag pos : Nat) (ask : Eng → Eng) : Eng :=
  let k := (kind, rank, instar, tag, pos)
  if e.smp.retried.contains k then
    let e := { e with smp := { e.smp with retried := e.smp.retried.filter (· ≠ k) } }
    let e := (e.bump Reg.SMP_SUMMARY_ERR 31 16 1).raise 0xA3 2 tag [(16, 1, rank), (17, 1, kind), (18, 1, 1)]
    e.treatFailed rank
  else
    ask ((Eng.bump { e with smp := { e.smp with retried := k :: e.smp.retried } } Reg.SMP_SUMMARY_ERR 15 0 1))

/-- A message asked for again has come whole. -/
def Eng.recovered (e : Eng) (kind rank instar tag pos : Nat) : Eng :=
  let k := (kind, rank, instar, tag, pos)
  if e.smp.retried.contains k then
    Eng.raise { e with smp := { e.smp with retried := e.smp.retried.filter (· ≠ k) } } 0xA3 2 tag
      [(16, 1, rank), (17, 1, kind), (18, 1, 0)]
  else e

/-- The 32 bytes of a request to a Tail (R178; the offsets are log entry 44): kind 0 refine, 1 query, 2 the summary again,
3 the grammar note again, 4 the SELECT again, 5 the DRAFT again. Kinds 4 and 5 carry the asking rank in the round's byte. -/
def requestBytes (tag pos round kind : Nat) (lo theta : Int) : Bytes :=
  layout 32 [(0, 4, tag), (4, 4, pos), (9, 1, round), (10, 1, kind), (16, 8, unsigned 64 lo), (24, 8, unsigned 64 theta)]

/-! ## Summaries (R174, R175) -/

/-- The entries of a summary. -/
def summaryEnts (b : Bytes) : List Cand :=
  (pieces 16 (u16 b 14) (b.drop 448)).map fun x => { y := signed 48 (u48 x 0), k := signed 48 (u48 x 6), id := u32 x 12 % 2 ^ 20 }

/-- CRC over bytes 0 to 59 and from 64 on (Table 7-4). -/
def summaryOk (b : Bytes) : Bool :=
  b.length == 448 + 16 * u16 b 14 && u32 b 60 == crc32c (b.take 60 ++ b.drop 64)

/-- Merges a checked summary into its position. -/
def mergeSummary (m : Merged) (b : Bytes) : Merged :=
  let fin := u32 b 28
  let m := { m with got := u8 b 13 :: m.got, finite := m.finite + fin, nonfinite := m.nonfinite + u32 b 44 }
  if fin = 0 then m
  else
    let y := signed 64 (u64 b 16)
    let top := yLevel y
    let win := numsAt b 8 48 64
    let old := if m.yMax.isSome then m.iTop else top
    let glob := max old top
    let mass := addMass (shiftMass (glob - old).toNat m.mass) (shiftMass (glob - top).toNat win)
    let ents := summaryEnts b
    let cut := if bit (u8 b 48) 0 then (ents.getLast?).map Cand.y else none
    { m with yMax := bestOf m.yMax (some (y, u32 b 24)), kBest := bestOf m.kBest (some (signed 64 (u64 b 32), u32 b 40)),
             iTop := glob, mass := mass, ents := sortBy Cand.before (m.ents ++ ents),
             cutoff := match m.cutoff, cut with
               | some a, some c => some (max a c)
               | none, c => c
               | a, none => a }

/-! ## Selection (R173, R176, R177) -/

inductive Choice where
  | token (id : Nat)
  | void
  | refine
  | query (theta : Int)
  deriving DecidableEq, Repr

/-- Y_b among the known entries above the cutoff, if the mass reaches the target there. -/
def boundIn (iTop cutoff : Int) (target : Nat) : List Cand → Nat → Option Int
  | [], _ => none
  | c :: l, cum =>
    if c.y ≤ cutoff then none
    else
      let cum := cum + weightAt iTop c.y
      let more := match l with | d :: _ => d.y == c.y | [] => false
      if !more && decide (target ≤ cum * 2 ^ 32) then some c.y else boundIn iTop cutoff target l cum

/-- select of R176 with a sampling-parameter record. A summary without the candidate that its counts promise leaves a free
value (log entry 18). -/
def select (m : Merged) (q : Bytes) : Choice :=
  if m.finite = 0 then .void
  else
    let mode := u8 q 28
    let yMax := ((m.yMax.map Prod.fst).getD noY)
    let nobody := Config.noToken m.instar m.tag m.pos % 2 ^ 20
    let idMax := ((m.yMax.map Prod.snd).getD nobody)
    if bit mode 0 then .token idMax
    else
      let cutoff := m.cutoff.getD noY
      let topK := u16 q 24
      let topP := u32 q 16
      let minp := if bit mode 2 then yMax + signed 32 (u32 q 20) * (2 ^ 16 : Nat) else noY
      let total := massTo m.mass 48
      let yb : Option Int :=
        if topP = 0 then some noY
        else match m.found with
          | some f => some f.1
          | none =>
            match boundIn m.iTop cutoff (topP * total) m.ents 0 with
            | some y => some y
            | none =>
              let n := min topK m.ents.length
              if topK ≠ 0 ∧ cutoff < ((m.ents[n - 1]?).map Cand.y).getD noY then some noY else none
      match yb with
      | none => .refine
      | some yb =>
        let theta := max minp yb
        let pick (o : Option Nat) : Choice := match o with | some i => .token i | none => .token nobody
        if topK ≠ 0 then pick (bestKey (m.ents.take topK) theta)
        else if theta = noY then .token ((m.kBest.map Prod.snd).getD nobody)
        else if cutoff < theta then pick (bestKey m.ents theta)
        else match m.found with
          | some f => if theta = f.1 then .token f.2.2 else .query theta
          | none => .query theta

/-! ## The second pass (R178, R179) -/

/-- Sends a round's request to every Tail. -/
def Eng.sendRound (e : Eng) (m : Merged) (r : Round) : Eng :=
  let b := requestBytes m.tag m.pos r.num r.kind r.lo r.theta
  let e := e.tails.foldl (fun e t => e.toRank 0x13 t b) e
  let first := decide (m.rounds = 0)
  let ep := e.smp.p2Epoch
  let e := { e with smp := { e.smp with p2Epoch := (ep.1 + b2n first, ep.2 + 1)
                                        ownRounds := if e.isTail then e.smp.ownRounds ++ [b] else e.smp.ownRounds } }
  let e := (e.bump Reg.SMP_PASS2 31 16 1).occur 0x08 1
  let e := if first then e.bump Reg.SMP_PASS2 15 0 1 else e
  let e := e.raiseOnce 0xA200 0xA2 1 m.tag [(16, 4, e.smp.p2Epoch.1), (20, 4, e.smp.p2Epoch.2)]
  e.setMerged { m with round := some { r with since := e.now }, rounds := m.rounds + 1 }

/-- Starts refine at the level at which the mass reaches the target. -/
def Eng.startRefine (e : Eng) (m : Merged) (q : Bytes) : Eng :=
  let target := u32 q 16 * massTo m.mass 48
  let j := ((List.range 48).find? fun j => decide (target ≤ massTo m.mass (j + 1) * 2 ^ 32)).getD 47
  e.sendRound m { kind := 0, num := 1, lo := (m.iTop - (j : Int)) * (2 ^ 32 : Nat), theta := noY, above := massTo m.mass j }

/-- Selects a complete position, or starts its next round. -/
def Eng.decidePosition (e : Eng) (m : Merged) : Eng :=
  let q := match e.flightEntry m with | some x => e.sparam x.sparam | none => []
  match select m q with
  | .token id => (e.setMerged { m with sel := some (some id), round := none }).bump64 Reg.SMP_SELECTED_LO 1
  | .void => e.setMerged { m with sel := some none, round := none }
  | .refine => e.startRefine m q
  | .query theta => e.sendRound m { kind := 1, num := m.rounds + 1, lo := noY, theta := theta, above := 0 }

/-- Bins of a refine reply. -/
def replyBins (b : Bytes) : List Bin :=
  (pieces 32 256 (b.drop 64)).map fun x =>
    { count := u32 x 0, id := u32 x 4, mass := u64 x 8, yHi := signed 64 (u64 x 16), k := signed 64 (u64 x 24) }

/-- Adds up one bin of all replies. -/
def mergeBins (a b : Bin) : Bin :=
  if a.count = 0 then b
  else if b.count = 0 then a
  else
    let best := if keyBetter (b.k, b.id) (a.k, a.id) then b else a
    { count := a.count + b.count, id := best.id, mass := a.mass + b.mass, yHi := max a.yHi b.yHi, k := best.k }

def emptyBin : Bin := { count := 0, id := 0, mass := 0, yHi := noY, k := noY }

/-- From the highest bin downward: the boundary bin's index, the mass above it, and the best key above it. -/
def boundaryBin (shift target : Nat) (bins : List Bin) : Nat → Nat → Option (Int × Nat) → Nat × Nat × Option (Int × Nat)
  | 0, above, best => (0, above, best)
  | n + 1, above, best =>
    let b := bins.getD n emptyBin
    let cum := above + b.mass * 2 ^ shift
    if target ≤ cum * 2 ^ 32 ∨ n = 0 then (n, above, best)
    else boundaryBin shift target bins n cum (if b.count = 0 then best else bestOf best (some (b.k, b.id)))

/-- Evaluates a round whose replies are all in (R179). -/
def Eng.evaluateRound (e : Eng) (m : Merged) (r : Round) : Eng :=
  let e := e.waitEnd 14 12 r.num r.since
  let above := r.replies.foldl (fun a x => bestOf a x.kAbove) (none : Option (Int × Nat))
  if r.kind = 1 then
    let id := (above.map Prod.snd).getD ((m.yMax.map Prod.snd).getD 0)
    (e.setMerged { m with sel := some (some id), round := none }).bump64 Reg.SMP_SELECTED_LO 1
  else
    let q := match e.flightEntry m with | some x => e.sparam x.sparam | none => []
    let target := u32 q 16 * massTo m.mass 48
    let bins := (List.range 256).map fun i => r.replies.foldl (fun a x => mergeBins a (x.bins.getD i emptyBin)) emptyBin
    let shift := 47 - (m.iTop - yLevel r.lo).toNat
    let (i, mass, best) := boundaryBin shift target bins 256 r.above above
    let b := bins.getD i emptyBin
    if b.count = 1 ∨ 4 ≤ r.num then
      let w := (bestOf best (some (b.k, b.id))).getD (noY, 0)
      let m := { m with found := some (b.yHi, w.1, w.2), round := none }
      (e.setMerged m).decidePosition m
    else
      e.sendRound m { kind := 0, num := r.num + 1, lo := r.lo + (i * 2 ^ (32 - 8 * r.num) : Nat), theta := noY, above := mass }

/-! ## Grammar notes (08 R190) -/

def noteOk (b : Bytes) : Bool := b.length == 16 + 16 * u16 b 8 && sealOk b 12

def noteEnts (b : Bytes) : List NoteEnt :=
  (pieces 16 (u16 b 8) (b.drop 16)).map fun x =>
    { id := u32 x 0 % 2 ^ 20, tool := bit (u32 x 0) 20, stop := bit (u32 x 0) 21, next := u16 x 4, resume := u16 x 6, toolId := u16 x 8 }

/-- The note entry of a selected token. -/
def Merged.note (m : Merged) (id : Nat) : Option NoteEnt := m.notes.find? fun n => n.id == id

end Sys2Proof.Machine
end

