-- ==== Sys2Proof/Machine/Turn.lean ====
section
/-! DEFINITION. The token commit and the turnaround (02 R41, 03 Table 3-2, 05 R107, 08 R191, R194, R199), and local tools
at the Lead (08 R200 to R205). -/

namespace Sys2Proof.Machine

/-! ## Local tools (08 R201) -/

/-- The TOOL order of a run (R201). -/
def Eng.toolBytes (e : Eng) (r : ToolRun) : Bytes :=
  layout 64 [(0, 6, r.instar), (8, 4, r.tag), (12, 4, ((e.find r.tag).map Entry.position).getD 0), (16, 2, r.tool)]

/-- An engine named by RANKS takes a TOOL order: its job waits in DSQ's tool queue or starts. -/
def Eng.takeToolOrder (e : Eng) (b : Bytes) : Eng :=
  let id := u16 b 16
  match e.localTool id with
  | none => e
  | some l =>
    if !bit (u64 l 8) e.img.rank then e
    else
      let ten := match e.find (u32 b 8) with
        | some x => some x.tenant
        | none => ((e.cmp.kept.flatMap fun d => descEntries d.raw).find? fun x => x.tag == u32 b 8).map DEntry.tenant
      let t : ToolJob := { instar := u48 b 0, tag := u32 b 8, tool := id, pos := u32 b 12, tenant := ten }
      let known := e.smp.toolQueue.any (fun j => j.instar == t.instar && j.tag == t.tag) ||
        e.dsq.parts.any fun p => p.2.jobs.any fun j => (j.tool.map fun x => x.instar == t.instar && x.tag == t.tag).getD false
      if known then e else Eng.admitTools 64 { e with smp := { e.smp with toolQueue := e.smp.toolQueue ++ [t] } }

/-- Broadcasts the TOOL order of a run; its own chip takes it as well. -/
def Eng.sendTool (e : Eng) (r : ToolRun) : Eng :=
  let b := e.toolBytes r
  (e.down 0x07 b).takeToolOrder b

/-- Starts runs that wait while fewer than 256 are in flight. -/
def Eng.startTools : Nat → Eng → Eng
  | 0, e => e
  | fuel + 1, e =>
    match e.smp.tools.find? fun r => !r.running with
    | none => e
    | some r =>
      if 256 ≤ (e.smp.tools.filter ToolRun.running).length then e
      else
        let r' : ToolRun := { r with running := true, since := e.now }
        let e := { e with smp := { e.smp with tools := e.smp.tools.map fun x => if x = r then r' else x } }
        Eng.startTools fuel (e.sendTool r')

/-- A session yields on a local tool. -/
def Eng.callTool (e : Eng) (instar tag tool : Nat) : Eng :=
  Eng.startTools 4 { e with smp := { e.smp with tools := e.smp.tools ++ [{ instar := instar, tag := tag, tool := tool, since := e.now }] } }

/-- Runs whose session no longer waits are cancelled, and DSQ aborts the jobs that a cancel names (Table 8-6). -/
def Eng.settleTools (e : Eng) : Eng :=
  let gone := e.smp.tools.filter fun r => !((e.find r.tag).map fun x => x.state == .yielded).getD false
  let e := gone.foldl (fun e r => e.cancelTool r.tag) e
  let cs := e.smp.cancels
  let e := { e with smp := { e.smp with cancels := [] } }
  Eng.startTools 256 (cs.foldl (fun e c => e.abortTool c.1 c.2) e)

/-! ## Stop conditions (R194) -/

/-- How a token ends the turn. -/
inductive Ending where
  | tool (id resume : Nat)
  /-- Reasons 1 to 5 of 10 R260. -/
  | stop (reason : Nat)
  deriving DecidableEq, Repr

/-- The end that a committed token brings, if any: `count` sampled tokens in the turn and POSITION `pos` after it. -/
def Eng.endingOf (e : Eng) (x : Entry) (q : Bytes) (note : Option NoteEnt) (id count pos : Nat) : Option Ending :=
  let tool := note.map NoteEnt.tool == some true
  let stop := note.map NoteEnt.stop == some true
  let word (i : Nat) : Bool := bit (u32 q i) 31 && u32 q i % 2 ^ 20 == id
  let set := (Tab.getD e.img.stopSets (u16 q 44) []).contains id && u16 q 44 != 0xFFFF
  if tool then note.map fun n => .tool n.toolId n.resume
  else if stop then some (.stop 1)
  else if word 36 || word 40 || set then some (.stop 2)
  else if u32 q 32 ≠ 0 ∧ u32 q 32 ≤ count then some (.stop 3)
  else if (e.model x.model).context ≤ pos then some (.stop 4)
  else none

/-- A commit in the making: tokens taken, the grammar state, the end. -/
structure Taken where
  ids : List Nat := []
  gstate : Nat
  ending : Option Ending := none
  deriving DecidableEq, Repr

/-- Takes the tokens of an entry's positions in order (R199): `sel` are the selections at SAMPLE_POS onward with their
notes, `ds` the draft tokens still to compare. -/
def Eng.takeTokens (e : Eng) (x : Entry) (q : Bytes) (count : Nat) : List (Option (Nat × Option NoteEnt)) → List Nat → Taken → Taken
  | [], _, t => t
  | none :: _, _, t => { t with ending := some (.stop 5) }
  | some (id, note) :: l, ds, t =>
    let n := t.ids.length + 1
    let ending := e.endingOf x q note id (count + n) (x.position + n)
    let g := if !x.grammarOn then t.gstate
      else match ending, note with
        | some (.tool _ r), _ => r
        | some (.stop 1), _ => 0
        | _, some k => k.next
        | _, none => t.gstate
    let ok := ds.head? == some id
    let t := { t with ids := t.ids ++ [id], gstate := g, ending := ending }
    if ending.isSome || !ok then t else e.takeTokens x q count l ds.tail t

/-- j of R199: the draft tokens that the draws before them equal, from the first on. It does not depend on where the commit
ends. -/
def acceptedDrafts : List (Option Nat) → List Nat → Nat
  | some s :: l, d :: ds => if s = d then acceptedDrafts l ds + 1 else 0
  | _, _ => 0

/-! ## The commit of one entry (Table 3-2, R191, R199) -/

/-- Updates the Lead's scale table with a committed token (07 R166): whether the id may be inserted. -/
def Eng.countToken (e : Eng) (tag id : Nat) : Bool × Eng :=
  let t := Tab.getD e.smp.master tag []
  let room := decide (t.length < scaleMax)
  let e' := { e with smp := { e.smp with master := Tab.put e.smp.master tag (scaleAdd t id room) } }
  if room || (Tab.get? t id).isSome then (room, e')
  else
    let e' := e'.bump Reg.SMP_SCALE_FULL 31 0 1
    if e.smp.fullRaised.contains tag then (false, e')
    else (false, Eng.raise { e' with smp := { e'.smp with fullRaised := tag :: e'.smp.fullRaised } } 0xA5 0 tag [(16, 4, id)])

/-- What one entry's commit adds to the instar's batch: journal records, token flags by record, SELECT entries, and what
the yield decision needs. -/
structure Gathered where
  recs : List JRec := []
  /-- Flags of the TOKENs of each COMMIT, in batch order. -/
  flags : List (Nat × List Nat) := []
  selects : List Bytes := []
  yields : List (Nat × Nat × Bool) := []
  extends_ : List Nat := []

/-- Commits the tokens of a sampling entry; `j` draft tokens were accepted (R199). A session that is CLOSING or HELD stays
so, and its tokens are committed all the same (05 Table 5-2). -/
def Eng.commitTokens (e : Eng) (num : Nat) (y : DEntry) (x : Entry) (g : Gathered) (t : Taken) (j : Nat) : Eng × Gathered :=
  let n := t.ids.length
  let was := Tab.getD e.smp.turnCount x.tag 0
  let pos := x.position + n
  let e := { e with smp := { e.smp with turnCount := Tab.put e.smp.turnCount x.tag (was + n) } }
  let step (st : Eng × List Bytes) (i : Nat) : Eng × List Bytes :=
    let id := t.ids.getD i 0
    let (ins, e) := st.1.countToken x.tag id
    (e, st.2 ++ [selectEntry x.tag id ins (t.ending.isSome && decide (i + 1 = n)) false i])
  let (e, sels) := (List.range n).foldl step (e, [])
  let stays := x.state == .closing || x.state == .held
  let state : SState := if stays then x.state else match t.ending with
    | some (.tool _ _) => .yielded
    | some (.stop _) => .idle
    | none => .decode
  let tool := match t.ending with | some (.tool id _) => id | _ => 0
  let e := e.putEntry (e.touched { x with
    state := state, position := pos, kvLen := if n = 0 then x.position - 1 else pos - 1,
    grammarState := if t.ending = some (.stop 1) then 0 else t.gstate, toolId := if stays then x.toolId else tool,
    tierCopy := x.tierCopy ||| 2 })
  let e := if n = 0 then e
    else
      let e := (e.chargeCommit x.tenant n).noteCommit x.tag x.turnSeq
      let e := (e.occur 0x05 n { tenant := some x.tenant }).setPage x.tenant fun p => { p with committed := (p.committed + n) % 2 ^ 64 }
      (e.bump64 Reg.SMP_DRAFT_ACCEPTED_LO j).occur 0x06 j { tenant := some x.tenant }
  let e := if y.kind = 1 then e.prefilled x.tag y.feed else e
  let e := if t.ending.isSome then e.endResv x.tag else e
  let e := match t.ending with
    | some (.tool _ _) => e.bump Reg.SMP_ENDS 31 16 1
    | some (.stop r) => if r = 5 then e else e.bump Reg.SMP_ENDS 15 0 1
    | none => e
  let flag (i : Nat) : Nat := 4 * b2n (decide (i < j)) + 8 * b2n (was + i == 0)
  let commit := if n = 0 then [] else [JRec.commit x.tag x.position num t.gstate x.turnSeq t.ids]
  let loc := (e.localTool tool).isSome
  let last := match t.ending with
    | some (.tool id _) => [JRec.yield loc x.tag pos num id x.turnSeq e.now]
    | some (.stop r) => [JRec.release r x.tag pos num x.turnSeq (was + n)]
    | none => []
  let at_ := g.recs.length
  (e, { g with recs := g.recs ++ commit ++ last,
               flags := if n = 0 then g.flags else g.flags ++ [(at_, (List.range n).map flag)],
               selects := g.selects ++ sels,
               yields := if tool ≠ 0 ∧ !stays then g.yields ++ [(x.tag, tool, loc)] else g.yields,
               extends_ := if stays then g.extends_ else g.extends_ ++ [x.tag] })

/-- A void position (07 R177). -/
def Eng.noteVoid (e : Eng) (m : Merged) : Eng :=
  (e.bump Reg.SMP_VOID 31 0 1).raise 0xA1 1 m.tag [(20, 4, m.pos), (24, 4, m.nonfinite)]

/-- Commits one entry of an instar: of a session that runs, or that became CLOSING or HELD after the seal (05 Table 5-2). One
held for a fault of the grammar store commits nothing (08 R192), and neither does one that has left these states (log entry
45). -/
def Eng.commitEntry (e : Eng) (num : Nat) (g : Gathered) (y : DEntry) : Eng × Gathered :=
  match e.find y.tag with
  | none => (e, g)
  | some x =>
    let stays := x.state == .closing || (x.state == .held && x.hold != 5)
    if x.state != .prefill && x.state != .decode && !stays then (e, g)
    else if y.kind = 0 then
      let e := (e.putEntry (e.touched { x with kvLen := y.kvStart + y.feed, tierCopy := x.tierCopy ||| 2 })).prefilled x.tag y.feed
      (e, { g with extends_ := if stays then g.extends_ else g.extends_ ++ [x.tag] })
    else
      let ms := (List.range y.samples).filterMap fun i =>
        e.smp.merged.find? fun m => m.instar == num && m.tag == y.tag && m.pos == y.samplePos + i
      let sels := ms.map fun m => (m.sel.getD none).map fun id => (id, if y.grammarOn then m.note id else none)
      let ds := ((e.smp.drafts.find? fun d => d.instar == num && d.tag == y.tag).map DraftEnt.ids).getD []
      let q := e.sparam y.sparam
      let t := e.takeTokens x q (Tab.getD e.smp.turnCount x.tag 0) sels (ds.take y.drafts) { gstate := x.grammarState }
      let e := match t.ending, ms[t.ids.length]? with
        | some (.stop 5), some m => e.noteVoid m
        | _, _ => e
      e.commitTokens num y x g t (acceptedDrafts (sels.map fun s => s.map Prod.fst) (ds.take y.drafts))

/-! ## The turnaround (R41) -/

/-- SELECT goes to every Tail, with a DROP for each session that left in mid-turn (07 R167). -/
def Eng.sendSelect (e : Eng) (num : Nat) (sels : List Bytes) : Eng :=
  let drops := e.smp.drops.map fun t => selectEntry t 0 false false true 0
  let all := sels ++ drops
  let b := selectBytes num all
  let e := { e with smp := { e.smp with drops := [], lastSelect := b } }
  let e := e.tails.foldl (fun e t => e.toRank 0x11 t b) e
  if e.isTail then e.applySelect b else e

/-- KV_LENGTH of every session with an entry in a turned instar goes back to that entry's KV_START. -/
def Eng.lowerEntries (e : Eng) (ents : List DEntry) : Eng :=
  ents.foldl (fun e y =>
    match e.find y.tag with
    | none => e
    | some x =>
      if x.kvLen ≤ y.kvStart then e
      else (e.putEntry (e.lowered x y.kvStart)).clampFar y.tag y.kvStart) e

/-- The boundary after an instar's commit, with the journal index there (10 R279). -/
def Eng.markBoundary (e : Eng) (num : Nat) : Eng :=
  { e with twm := { e.twm with boundary := some (num, e.twm.appended), lastCommit := (num, e.twm.appended) } }

/-- Commits an instar: DIR, the ledger, the journal's COMMIT batch, SELECT, and the placement that follows. -/
def Eng.commitInstar (e : Eng) (f : Flight) : Eng :=
  let (e, g) := f.entries.foldl (fun st y => st.1.commitEntry f.num st.2 y) (e, ({} : Gathered))
  let e := e.dealT0
  let mine (m : Merged) : Bool := m.instar == f.num
  let nonf := sumN ((e.smp.merged.filter mine).map Merged.nonfinite)
  let samples := f.entries.any fun y => y.kind != 0
  let tags := f.entries.map DEntry.tag
  let e := { e with
    dir := { e.dir with staged := tags.foldl (fun l t => l.erase t) e.dir.staged }
    smp := { e.smp with merged := e.smp.merged.filter fun m => !mine m
                        drafts := e.smp.drafts.filter fun d => decide (f.num < d.instar)
                        nfEpoch := e.smp.nfEpoch + nonf } }
  let e := if nonf = 0 then e
    else e.raiseOnce 0xA400 0xA4 1 0 [(16, 4, min e.smp.nfEpoch 0xFFFFFFFF)]
  let base := e.twm.appended + 1
  let infos := g.flags.map fun p => ({ index := base + p.1, flags := p.2 } : CommitInfo)
  let e := { e with twm := { e.twm with commits := e.twm.commits ++ infos } }
  let e := (e.append 1 f.num g.recs).traceInstar 2 5 f.num
  let e := e.markBoundary f.num
  let e := if samples then e.sendSelect f.num g.selects else e
  let e := if f.lower then e.lowerEntries f.entries else e
  let e := e.modFlight f.num fun f => { f with turned := true, done := true }
  let e := g.extends_.foldl Eng.extend e
  let e := g.yields.foldl (fun e y => e.modChr y.1 fun c => { c with tYield := e.now }) e
  g.yields.foldl (fun e y => if y.2.2 then e.callTool f.num y.1 y.2.1 else e.decideYield y.1) e

/-- Begins the turnaround of an instar: the draft stops (R114). -/
def Eng.beginTurn (e : Eng) (num : Nat) : Eng :=
  match e.cmp.flights.find? fun f => f.num == num with
  | some f => if f.turned then e else (e.stopDraft).modFlight num fun f => { f with turned := true }
  | none => e

/-- Commits an instar and seals the next. -/
def Eng.turnaround (e : Eng) (f : Flight) : Eng :=
  let e := (e.beginTurn f.num).commitInstar f
  e.retireFlights.trySeal

/-- The DRAFT message of a model with draft tokens in the instar has not come (08 R197). -/
def Eng.draftAwaited (e : Eng) (f : Flight) : Bool :=
  f.entries.any fun y => y.drafts != 0 && !e.smp.drafted.contains (f.num, y.model)

/-- The wing's state lets an instar in flight be committed (10 Table 10-9: a wing that stops composing commits nothing
more). -/
def Eng.commits (e : Eng) : Bool :=
  (e.twm.wing == .paired || e.twm.wing == .solo || e.twm.wing == .seeking) && !e.twm.dual

/-- Once every position of the instar in flight is complete, its turnaround begins; once every one is selected, it goes
on. An instar that samples nothing turns at its barrier (log entry 46). -/
def Eng.advanceTurn (e : Eng) : Eng :=
  match e.inFlight with
  | none => e
  | some f =>
    if !f.launched || f.idle || f.quiet || !e.commits then e
    else
      let ms := e.smp.merged.filter fun m => m.instar == f.num
      if ms.isEmpty then (if f.endTs = 0 then e else e.turnaround f)
      else if !(ms.all e.complete) || e.draftAwaited f then e
      else
        let e := e.beginTurn f.num
        let e := ms.foldl (fun e m => if m.sel.isNone && m.round.isNone then e.decidePosition m else e) e
        if (e.smp.merged.filter fun m => m.instar == f.num).all fun m => m.sel.isSome then e.turnaround f else e

/-- A width-0 instar ends (R121): the same work as the turnaround follows. -/
def Eng.endIdle (e : Eng) : Eng :=
  match e.inFlight with
  | none => e
  | some f =>
    if (f.idle || f.quiet) && f.launched && e.commits && decide (f.launch + f.idleNs ≤ e.now) then
      (((e.stopDraft).modFlight f.num fun f => { f with turned := true, done := true }).markBoundary f.num).retireFlights.trySeal
    else e

/-! ## Summaries, notes and replies at the Lead -/

/-- A Tail summary reaches the Lead (R175, R182). Summaries of aborted instars are ignored (06 R152). -/
def Eng.takeSummary (e : Eng) (b : Bytes) : Eng :=
  let tag := u32 b 0
  let pos := u32 b 4
  let rank := u8 b 13
  match e.position? tag pos (u32 b 8) with
  | none => e
  | some m =>
    if m.got.contains rank then e
    else if !summaryOk b then
      e.badMessage 0 rank m.instar tag pos fun e => e.toRank 0x13 rank (requestBytes tag pos 0 2 0 0)
    else
      let e := e.recovered 0 rank m.instar tag pos
      (e.setMerged (mergeSummary m b)).advanceTurn

/-- A grammar note reaches the Lead (08 R190). -/
def Eng.takeNote (e : Eng) (b : Bytes) : Eng :=
  let tag := u32 b 0
  let pos := u32 b 4
  let rank := u8 b 10
  match e.positionAt tag pos with
  | none => e
  | some m =>
    if m.noted.contains rank then e
    else if !noteOk b then
      e.badMessage 0 rank m.instar tag (pos + 2 ^ 32) fun e => e.toRank 0x13 rank (requestBytes tag pos 0 3 0 0)
    else
      let e := e.recovered 0 rank m.instar tag (pos + 2 ^ 32)
      (e.setMerged { m with noted := rank :: m.noted, notes := m.notes ++ noteEnts b }).advanceTurn

/-- A second-pass reply, with the note of a grammar-active session, reaches the Lead (R179). -/
def Eng.takeReply (e : Eng) (b note : Bytes) : Eng :=
  let tag := u32 b 0
  let pos := u32 b 4
  let rank := u8 b 9
  match e.positionAt tag pos with
  | none => e
  | some m =>
    match m.round with
    | none => e
    | some r =>
      if r.replies.any (fun x => x.rank == rank) || u8 b 8 != r.num then e
      else
        let g := ((e.flightEntry m).map DEntry.grammarOn).getD false
        if !summaryOkAt b r.kind || (g && !noteOk note) then
          e.badMessage 2 rank m.instar tag pos fun e => e.toRank 0x13 rank (requestBytes tag pos r.num r.kind r.lo r.theta)
        else
          let e := e.recovered 2 rank m.instar tag pos
          let k := signed 64 (u64 b 16)
          let x : Reply := { rank := rank, kAbove := if k = noY then none else some (k, u32 b 24), bins := if r.kind = 0 then replyBins b else [] }
          let r := { r with replies := r.replies ++ [x] }
          let m := { m with round := some r, notes := if g then m.notes ++ noteEnts note else m.notes }
          let e := e.setMerged m
          if e.tails.all fun t => r.replies.any fun x => x.rank == t then (e.evaluateRound m r).advanceTurn else e
where
  /-- The length and CRC of a reply. -/
  summaryOkAt (b : Bytes) (kind : Nat) : Bool :=
    b.length == (if kind = 0 then 8256 else 64) && u32 b 60 == crc32c (b.take 60 ++ b.drop 64)

/-! ## Tool results (08 R202, R203) -/

/-- Results of a part. -/
def partResults (b : Bytes) : List (Nat × Nat) := (pieces 16 (u16 b 14) (b.drop 32)).map fun x => (u32 x 0, u64 x 8)

/-- The order of results: ascending (DIST, ID). -/
def resultBefore (a b : Nat × Nat) : Bool := decide (a.1 < b.1 ∨ (a.1 = b.1 ∧ a.2 ≤ b.2))

/-- The merged list: ascending (DIST, ID), equal results once, the first `n`. -/
def mergeParts (n : Nat) (parts : List (Nat × List (Nat × Nat))) : List (Nat × Nat) :=
  let all := sortBy resultBefore (parts.flatMap Prod.snd)
  let once := all.foldr (fun r l => if l.head? == some r then l else r :: l) []
  once.take n

/-- Valid token words of a fixed part. -/
def validWords (l : List Nat) : List Nat := (l.filter fun w => bit w 31).map (· % 2 ^ 20)

/-- The result tokens with the first `k` items (R203). -/
def renderTool (l : Bytes) (labels : List (List Nat)) (k : Nat) : List Nat :=
  let sep := validWords [u32 l 64]
  validWords (numsAt l 4 8 32) ++ (labels.take k).flatMap (fun t => t ++ sep) ++ validWords (numsAt l 4 7 68)

/-- The most items, at most `n`, with which the result fits `room` tokens; none where even no item fits. -/
def fitItems (l : Bytes) (labels : List (List Nat)) (room : Nat) : Nat → Option Nat
  | 0 => if (renderTool l labels 0).length ≤ room then some 0 else none
  | k + 1 => if (renderTool l labels (k + 1)).length ≤ room then some (k + 1) else fitItems l labels room k

/-- Renders a run's result and admits it as a RESUME without tests (R203). `part` marks a partial result. -/
def Eng.finishTool (e : Eng) (r : ToolRun) (labels : List (List Nat)) (part : Bool) : Eng :=
  let e := { e with smp := { e.smp with tools := e.smp.tools.filter (· ≠ r) } }
  match e.find r.tag, e.localTool r.tool with
  | some x, some l =>
    if x.state != .yielded then e
    else
      let items := (mergeParts (u16 l 4) r.parts).length
      let labels := (List.range items).map fun i => (labels.getD i []).take 63
      match fitItems l labels ((e.model x.model).context - x.position) items with
      | none =>
        let e := e.raise 0xAA 1 x.tag [(16, 2, r.tool), (18, 2, 0), (20, 2, items)]
        let e := e.putEntry (e.touched { x with state := .idle, toolId := 0 })
        let e := e.modChr x.tag fun c => { c with tYield := 0 }
        e.append 0 e.cmp.last [.release 4 x.tag x.position r.instar x.turnSeq (Tab.getD e.smp.turnCount x.tag 0)]
      | some k =>
        let e := if k = items then e else e.raise 0xAA 1 x.tag [(16, 2, r.tool), (18, 2, k), (20, 2, items - k)]
        let toks := renderTool l labels k
        let n := toks.length
        let e := (e.refill x.tenant).debit x.tenant (n * (e.tcfg x.tenant).prefillW)
        let turn := x.turnSeq + 1
        let e := e.startTurn x.tag turn x.dclass x.model x.tenant e.now n
        let e := e.resumePlace x r.tool true e.now
        let x := (e.find x.tag).getD x
        let e := e.putEntry (e.touched { x with state := .queued, position := x.position + n, turnSeq := turn, toolId := 0 })
        let e := { e with smp := { e.smp with turnCount := Tab.del e.smp.turnCount x.tag }
                          pln := { e.pln with matched := e.pln.matched.filter (· ≠ x.tag) } }
        let e := e.setPage x.tenant fun p => { p with fed := (p.fed + n) % 2 ^ 64 }
        let e := e.bump Reg.SMP_TOOL_DONE 15 0 1
        e.launchAdmit { record := .admitted 3 part x.tag 0 0 turn x.model x.dclass x.tenant e.now r.tool x.grammarId x.grammarOn
                                    x.sparam toks
                        pos := some x.position }
  | _, _ => e

/-- The results that are complete are admitted, in arrival order, while the wing admits (10 Table 10-10); then runs that wait
start. -/
def Eng.finishReady (e : Eng) : Eng :=
  if e.stopReason ≠ 0 then e
  else
    let go := e.smp.tools.filterMap fun r => r.ready.map fun d => (r, d)
    if go.isEmpty then e else Eng.startTools 256 (go.foldl (fun e p => e.finishTool p.1 p.2.1 p.2.2) e)

/-- All the ranks of a run have sent their part. -/
def Eng.partsIn (e : Eng) (r : ToolRun) : Bool :=
  match e.localTool r.tool with
  | some l => (List.range e.img.n).all fun q => !bit (u64 l 8) q || r.parts.any fun p => p.1 == q
  | none => true

/-- A tool part reaches the Lead (R202, Table 8-6). -/
def Eng.takePart (e : Eng) (b : Bytes) (labels : List (List Nat)) : Eng :=
  match e.smp.tools.find? fun r => r.instar == u48 b 0 && r.tag == u32 b 8 with
  | none => e
  | some r =>
    let rank := u8 b 12
    let put (r' : ToolRun) (e : Eng) : Eng := { e with smp := { e.smp with tools := e.smp.tools.map fun x => if x = r then r' else x } }
    if r.ready.isSome || r.parts.any fun p => p.1 == rank then e
    else if !(b.length == 32 + 16 * u16 b 14 && sealOk b 28) then
      if r.badOnce.contains rank then
        ((e.bump Reg.SMP_SUMMARY_ERR 31 16 1).raise 0xA3 2 r.tag [(16, 1, rank), (17, 1, 2), (18, 1, 1)]).treatFailed rank
      else (put { r with badOnce := rank :: r.badOnce } (e.bump Reg.SMP_SUMMARY_ERR 15 0 1)).toRank 0x07 rank (e.toolBytes r)
    else
      let r' := { r with parts := r.parts ++ [(rank, partResults b)] }
      (put (if e.partsIn r' then { r' with ready := some (labels, false) } else r') e).finishReady

/-- A part is still missing TIMEOUT_US after its order: it is asked for once more, then the result is rendered from the
parts there are (R204). -/
def Eng.partTimeout (e : Eng) (instar tag : Nat) (labels : List (List Nat)) : Eng :=
  match e.smp.tools.find? fun r => r.instar == instar && r.tag == tag && r.running with
  | none => e
  | some r =>
    match e.localTool r.tool with
    | none => e
    | some l =>
      let due := r.since + u32 l 20 * 1000
      let missing := (List.range e.img.n).filter fun q => bit (u64 l 8) q && !r.parts.any fun p => p.1 == q
      if e.now < due ∨ missing.isEmpty ∨ r.ready.isSome then e
      else if !r.reasked then
        let r' : ToolRun := { r with reasked := true, since := e.now }
        let e := { e with smp := { e.smp with tools := e.smp.tools.map fun (x : ToolRun) => if x = r then r' else x } }
        let b := e.toolBytes r
        missing.foldl (fun e q => if q = e.img.rank then e.takeToolOrder b else e.toRank 0x07 q b) e
      else
        let e := e.bump Reg.SMP_TOOL_DONE 31 16 1
        let e := e.raise 0xA9 2 tag [(16, 2, r.tool), (18, 1, missing.length), (20, 4, instar % 2 ^ 32)]
        let r' : ToolRun := { r with ready := some (labels, true) }
        Eng.finishReady { e with smp := { e.smp with tools := e.smp.tools.map fun (x : ToolRun) => if x = r then r' else x } }

end Sys2Proof.Machine
end

