-- ==== Sys2Proof/Machine/Lanes.lean ====
section
/-! DEFINITION. The Tail's lanes (07 R160 to R174, R178, R183, 08 R186 to R190, R198, R199): decoding and processing of
logits, summaries, grammar notes and second-pass replies. -/

namespace Sys2Proof.Machine

/-! ## The grammar store (08 R186, R188, R189) -/

/-- A state record of a grammar. -/
def gState (g : Bytes) (s : Nat) : Bytes := slice g (u32 g 12 + 16 * s) 16

/-- The edge of state `s` that takes token `id`: the next state. -/
def gNext (g : Bytes) (s id : Nat) : Option Nat :=
  let st := gState g s
  let edges := (List.range (u32 st 4)).map fun i => u64 g (u32 g 16 + 8 * (u32 st 0 + i))
  (edges.find? fun w => decide (w % 2 ^ 20 ≤ id ∧ id ≤ bitsOf w 39 20)).map fun w => bitsOf w 55 40

/-- The state reached by following tokens; none where one has no edge. -/
def gFollow (g : Bytes) : Nat → List Nat → Option Nat
  | s, [] => some s
  | s, d :: l => match gNext g s d with | some t => gFollow g t l | none => none

/-! ## Drafts at a Tail (R189, R198, R199) -/

def Eng.draftOf (e : Eng) (num tag : Nat) : Option DraftEnt := e.smp.drafts.find? fun d => d.instar == num && d.tag == tag

/-- The first m of a decode entry whose position is void because the DRAFT entry is missing or d_m has no edge; none
where every draft position is sampled. -/
def Eng.voidFrom (e : Eng) (num : Nat) (x : DEntry) : Option Nat :=
  if x.drafts = 0 then none
  else match e.draftOf num x.tag with
    | none => some 1
    | some d =>
      if !x.grammarOn then none
      else
        let g := Tab.getD e.img.grammars x.grammarId []
        (((List.range x.drafts).map (· + 1)).find? fun m => (gFollow g x.grammarState (d.ids.take m)).isNone)

/-- The draft tokens a position sees. -/
def Eng.draftsBefore (e : Eng) (num : Nat) (x : DEntry) (pos : Nat) : List Nat :=
  (((e.draftOf num x.tag).map DraftEnt.ids).getD []).take (pos - x.samplePos)

/-- The scale table a position sees: the session's copy with the draft tokens counted. -/
def Eng.scaleAt (e : Eng) (num : Nat) (x : DEntry) (pos : Nat) : Tab Nat :=
  (e.draftsBefore num x pos).foldl (fun t d => scaleAdd t d (decide (t.length < scaleMax))) (Tab.getD e.smp.copies x.tag [])

/-! ## Decoding (R163) -/

/-- Elements of an MX stream: blocks of one scale byte and up to 32 elements. -/
def mxElems (fmt : Nat) : Nat → Nat → Bytes → List Word
  | 0, _, _ => []
  | fuel + 1, n, b =>
    if n = 0 then []
    else
      let k := min n 32
      let x := u8 b 0
      let body := b.drop 1
      let size := if fmt = 6 then (k + 1) / 2 else k
      let el (i : Nat) : Fl :=
        if fmt = 4 then fp8E4M3 (u8 body i)
        else if fmt = 5 then fp8E5M2 (u8 body i)
        else fp4E2M1 (u8 body (i / 2) / 16 ^ (i % 2) % 16)
      ((List.range k).map fun i => mxToF32 x (el i)) ++ mxElems fmt fuel (n - k) (body.drop size)

/-- The logits of a stream as binary32. -/
def decodeLogits (fmt n : Nat) (b : Bytes) : List Word :=
  match fmt with
  | 0 => (List.range n).map fun i => BitVec.ofNat 32 (u32 b (4 * i))
  | 1 => (List.range n).map fun i => BitVec.ofNat 32 (u16 b (2 * i) * 65536)
  | 2 => (List.range n).map fun i => flToF32 (fp8E4M3 (u8 b i))
  | 3 => (List.range n).map fun i => flToF32 (fp8E5M2 (u8 b i))
  | _ => mxElems fmt (n / 32 + 1) n b

/-- Bytes of a stream of `n` logits after its header (14 R389). -/
def logitBytes (fmt n : Nat) : Nat :=
  match fmt with
  | 0 => 4 * n | 1 => 2 * n | 2 => n | 3 => n
  | 6 => ceilDiv n 32 + ceilDiv n 2
  | _ => ceilDiv n 32 + n

/-! ## Processing (R165, R170) -/

/-- What processing a logit gives: excluded, non-finite, or the processed value. -/
inductive Processed where
  | excluded
  | nonfinite
  | value (y : Int)
  deriving DecidableEq, Repr

/-- Y of a binary32 value: scaled by 2^32, rounded once, clamped. -/
def clampY (y : Word) : Int :=
  max (-(2 ^ 46 : Nat)) (min (((fScaleToInt y 32).getD 0)) ((2 ^ 46 - 1 : Nat) : Int))

/-- process of R165 for token `id` with scale count `c`. -/
def processLogit (q : Bytes) (allowed : Bool) (c : Nat) (x : Word) : Processed :=
  let w (i : Nat) : Word := BitVec.ofNat 32 (u32 q i)
  if !fFinite x then .nonfinite
  else if !allowed then .excluded
  else
    let x := if c = 0 then x else if fPos x then fDiv x (w 4) else fMul x (w 4)
    let x := fSub x (fMul (w 8) (fOfInt c))
    let x := if c = 0 then x else fSub x (w 12)
    let y := if bit (u8 q 28) 0 then x else fMul x (w 0)
    if !fFinite y then .nonfinite else .value (clampY y)

/-- The key of a token (R170). -/
def Eng.keyFor (e : Eng) (q : Bytes) (tag pos draw id : Nat) (y : Int) : Int :=
  if bit (u8 q 28) 0 then y
  else
    let seeded := bit (u8 q 28) 1
    let key : DWord := BitVec.ofNat 64 (if seeded then u64 q 48 else e.img.keys.sampling)
    let c : Philox := ⟨BitVec.ofNat 32 pos, BitVec.ofNat 32 (if seeded then 0 else tag),
      BitVec.ofNat 32 (draw % 16 * 2 ^ 20 + id % 2 ^ 20), 0⟩
    y - gumbel (philox key c).c0.toNat

/-- A swept stream: its finite tokens in ascending id, and how many were non-finite. -/
structure Sweep where
  cands : List Cand := []
  nonfinite : Nat := 0
  deriving DecidableEq, Repr

/-- Sweeps a stream at a position of a descriptor entry (R165, R188, R189, R198). -/
def Eng.sweep (e : Eng) (s : Stream) (x : DEntry) : Sweep :=
  let q := e.sparam x.sparam
  let scale := e.scaleAt s.instar x s.pos
  let g := Tab.getD e.img.grammars x.grammarId []
  let st := gFollow g x.grammarState (e.draftsBefore s.instar x s.pos)
  let allowed (id : Nat) : Bool := !x.grammarOn || (match st with | some st => (gNext g st id).isSome | none => false)
  let ls := decodeLogits s.fmt s.count s.raw
  let step (a : Sweep) (p : Nat × Word) : Sweep :=
    let id := s.first + p.1
    match processLogit q (allowed id) (Tab.getD scale id 0) p.2 with
    | .excluded => a
    | .nonfinite => { a with nonfinite := a.nonfinite + 1 }
    | .value y => { a with cands := { y := y, k := e.keyFor q s.tag s.pos s.draw id y, id := id } :: a.cands }
  ((List.range ls.length).zip ls).foldl step {}

/-! ## Summaries (R169, R174) -/

/-- The bytes of a summary (Table 7-4). -/
def Eng.summaryBytes (e : Eng) (tag pos instar draw : Nat) (q : Bytes) (sw : Sweep) (restarted : Bool) : Bytes :=
  let l := sortBy Cand.before sw.cands
  let n := min (max (u16 q 24) (u16 q 26)) 4096
  let ents := l.take n
  let top := l.head?
  let yTop := (top.map Cand.y).getD noY
  let best := l.foldl (fun m c => bestOf m (some (c.k, c.id))) (none : Option (Int × Nat))
  let mass := (List.range 48).map fun (j : Nat) => sumN ((l.filter fun c => yLevel c.y == yLevel yTop - (j : Int)).map fun c => yMant c.y)
  let head := layout 60 [(0, 4, tag), (4, 4, pos), (8, 4, instar), (12, 1, draw), (13, 1, e.img.rank), (14, 2, ents.length),
    (16, 8, unsigned 64 yTop), (24, 4, (top.map Cand.id).getD 0), (28, 4, l.length), (32, 8, unsigned 64 ((best.map Prod.fst).getD noY)),
    (40, 4, (best.map Prod.snd).getD 0), (44, 4, sw.nonfinite), (48, 1, b2n (decide (ents.length < l.length)) + 2 * b2n restarted)]
  let body := mass.flatMap (leBytes 8) ++ ents.flatMap fun c => leBytes 6 (unsigned 48 c.y) ++ leBytes 6 (unsigned 48 c.k) ++ leBytes 4 c.id
  head ++ leBytes 4 (crc32c (head ++ body)) ++ body

/-- One note entry for a token (08 R190). -/
def noteEntry (g : Bytes) (st : Option Nat) (id : Nat) : Bytes :=
  let next := st.bind fun s => gNext g s id
  let r := match next with | some n => gState g n | none => []
  layout 16 [(0, 4, id % 2 ^ 20 + b2n (bit (u8 r 12) 0) * 2 ^ 20 + b2n (bit (u8 r 12) 1) * 2 ^ 21), (4, 2, next.getD 0),
    (6, 2, u16 r 10), (8, 2, u16 r 8)]

/-- A grammar note for a list of tokens. -/
def Eng.noteBytes (e : Eng) (x : DEntry) (num pos : Nat) (ids : List Nat) : Bytes :=
  let g := Tab.getD e.img.grammars x.grammarId []
  let st := gFollow g x.grammarState (e.draftsBefore num x pos)
  sealAt (layout 16 [(0, 4, x.tag), (4, 4, pos), (8, 2, ids.length), (10, 1, e.img.rank)] ++ ids.flatMap (noteEntry g st)) 12

/-- The Lead's rank. -/
def Eng.leadRank (e : Eng) : Nat := ((List.range e.img.n).find? fun r => bit (e.role r) 0).getD 0

/-- A summary and its note go to the Lead; the Lead's own Tail hands them over. -/
def Eng.sendSummary (e : Eng) (x : DEntry) (num pos : Nat) (b : Bytes) : Eng :=
  let ids := (summaryEnts b).map Cand.id ++ [u32 b 24, u32 b 40]
  let note := if x.grammarOn then some (e.noteBytes x num pos ids) else none
  if e.isLead then
    let e := match note with | some n => e.takeNote n | none => e
    e.takeSummary b
  else
    let e := e.toRank 0x10 e.leadRank b
    match note with
    | some n => e.toRank 0x18 e.leadRank n
    | none => e

/-- Summaries with FINITE 0 for the draft positions of an entry that nothing will sample (R199). -/
def Eng.sendVoid (e : Eng) (num : Nat) (x : DEntry) : Eng :=
  match e.voidFrom num x with
  | none => e
  | some m =>
    let ps := (List.range (x.drafts + 1 - m)).map fun i => x.samplePos + m + i
    let e := { e with smp := { e.smp with waiting := e.smp.waiting.filter fun s =>
      !(s.instar == num && s.tag == x.tag && decide (x.samplePos + m ≤ s.pos)) } }
    ps.foldl (fun e p => e.sendSummary x num p (e.summaryBytes x.tag p (num % 2 ^ 32) 0 (e.sparam x.sparam) {} false)) e

/-- A sweep of lane `n` ends: the summary leaves and the lane is idle. -/
def Eng.endSweep (e : Eng) (n : Nat) : Eng :=
  let l := e.lane n
  match l.stream with
  | none => e
  | some s =>
    if s.needRead then e
    else
      let e := e.setLane n { l with mode := 0, stream := none }
      let e := ((e.bump64 Reg.SMP_LOGITS_LO s.count).bump64 (Reg.SMP_LANE_LOGITS_LO n) s.count).bump (Reg.SMP_LANE_STREAMS n) 31 0 1
      let e := (e.count 5 s.count).occur 0x07 s.count { unit := some n }
      let e := match e.descEntry s.instar s.tag with
        | none => e
        | some x =>
          let sw := e.sweep s x
          let e := e.bump Reg.SMP_NONFINITE 31 0 sw.nonfinite
          let b := e.summaryBytes s.tag s.pos (s.instar % 2 ^ 32) s.draw (e.sparam x.sparam) sw s.restarted
          e.sendSummary x s.instar s.pos b
      Eng.assignLanes 64 e

/-! ## Streams (14 R389, R390) -/

/-- The stream of a port message; its header's CRC and length decide whether its logits can be used. -/
def Eng.parseStream (e : Eng) (b : Bytes) : Stream × Bool :=
  let s : Stream := { tag := u32 b 0, pos := u32 b 4, instar := u48 b 8, draw := u8 b 14 % 16, fmt := u8 b 15, first := u32 b 16,
                      count := u32 b 20, model := u8 b 24 % 16, raw := b.drop 32, since := e.now }
  (s, crcOk b 32 && b.length == 32 + logitBytes s.fmt s.count)

/-- Bytes held for waiting streams in an island's buffer. -/
def Eng.bufferUsed (e : Eng) (i : Nat) : Nat :=
  sumN ((e.smp.waiting.filter fun s => s.buf == i && !s.needRead).map fun s => 32 + s.raw.length)

/-- A stream arrives at the port. -/
def Eng.takeStream (e : Eng) (b : Bytes) : Eng :=
  let (s, ok) := e.parseStream b
  if e.smp.noSelect.contains s.instar then e
  else
    let void := match e.descEntry s.instar s.tag with
      | some x => (e.smp.drafted.contains (s.instar, x.model)) && (match e.voidFrom s.instar x with
          | some m => decide (x.samplePos + m ≤ s.pos)
          | none => false)
      | none => false
    if void then e
    else
      let keep := e.smp.buffer.filter fun t => decide (s.instar ≤ t.instar + 1) && !(t.instar == s.instar && t.tag == s.tag && t.pos == s.pos)
      let lost : Stream := { s with raw := [], needRead := true, restarted := true }
      let e := { e with smp := { e.smp with buffer := keep ++ [if ok then s else lost] } }
      let size := 32 + s.raw.length
      let fits (i : Nat) : Bool := decide (e.bufferUsed i + size ≤ 524288)
      let idle := !e.idleLanes.isEmpty
      let s := if !ok then lost
        else if idle || fits 0 then s
        else if fits 1 then { s with buf := 1 }
        else { s with raw := [], needRead := true }
      e.queueStream s

/-- The logit buffer has been read for a lane (R161), which shows what a stream lost at the port holds there. -/
def Eng.bufferRead (e : Eng) (n : Nat) (b : Bytes) : Eng :=
  let l := e.lane n
  match l.stream with
  | none => e
  | some s =>
    let (t, ok) := e.parseStream b
    if !s.needRead || !ok then e
    else
      let seen (y : Stream) : Stream := if y.needRead && y.tag == s.tag && y.pos == s.pos && y.instar == s.instar then t else y
      Eng.setLane { e with smp := { e.smp with buffer := e.smp.buffer.map seen } } n
        { l with tag := t.tag, stream := some { t with restarted := s.restarted, since := s.since } }

/-- A lane is retired; its stream starts again on another lane (R183). `cause`: 0 check, 1 BIST. -/
def Eng.retireLane (e : Eng) (n cause : Nat) : Eng :=
  let l := e.lane n
  if l.mode = 2 then e
  else
    let e := e.setLane n { l with mode := 2, stream := none }
    let e := if cause = 1 then e else e.bump (Reg.SMP_LANE_ERRORS n) 7 0 1
    let left := ((List.range 32).filter fun i => (e.lane (n / 32 * 32 + i)).mode != 2).length
    let e := e.raise 0xA0 2 ((l.stream.map Stream.tag).getD 0) [(16, 1, n), (17, 1, left), (18, 1, cause)]
    let e := e.noteRetired
    let e := match l.stream with
      | some s => Eng.assignLanes 64 { e with smp := { e.smp with
          waiting := { s with raw := [], needRead := true, restarted := true, waited := false, since := e.now } :: e.smp.waiting } }
      | none => e
    if left = 0 then e.declareFailed else e

/-- A summary is asked for again: the Tail re-sweeps from the logit buffer (R182). -/
def Eng.resweep (e : Eng) (tag pos : Nat) : Eng :=
  match e.smp.buffer.find? fun s => s.tag == tag && s.pos == pos with
  | none => e
  | some s => Eng.assignLanes 64 { e with smp := { e.smp with
      waiting := e.smp.waiting ++ [{ s with raw := [], needRead := true, waited := false, since := e.now }] } }

/-! ## The second pass at a Tail (R178) -/

/-- The reply to a round, and its note. -/
def Eng.replyTo (e : Eng) (b : Bytes) : Option (Bytes × Bytes) :=
  let tag := u32 b 0
  let pos := u32 b 4
  let kind := u8 b 10
  match e.smp.buffer.find? fun s => s.tag == tag && s.pos == pos && !s.needRead with
  | none => none
  | some s => (e.descEntry s.instar tag).map fun x =>
    let cs := (e.sweep s x).cands
    let num := u8 b 9
    let lo := signed 64 (u64 b 16)
    let width := 32 - 8 * num
    let hi := if kind = 1 then signed 64 (u64 b 24) else lo + (2 ^ (width + 8) : Nat)
    let above := cs.foldl (fun m c => if hi ≤ c.y then bestOf m (some (c.k, c.id)) else m) (none : Option (Int × Nat))
    let bin (i : Nat) : Bin :=
      let inB (c : Cand) : Bool := decide (lo + (i * 2 ^ width : Nat) ≤ c.y ∧ c.y < lo + ((i + 1) * 2 ^ width : Nat))
      (cs.filter inB).foldl (fun a c => mergeBins a { count := 1, id := c.id, mass := yMant c.y, yHi := c.y, k := c.k }) emptyBin
    let bins := if kind = 1 then [] else (List.range 256).map bin
    let head := layout 60 [(0, 4, tag), (4, 4, pos), (8, 1, num), (9, 1, e.img.rank),
      (16, 8, unsigned 64 ((above.map Prod.fst).getD noY)), (24, 4, (above.map Prod.snd).getD 0)]
    let body := bins.flatMap fun r => leBytes 4 r.count ++ leBytes 4 r.id ++ leBytes 8 r.mass ++ leBytes 8 (unsigned 64 r.yHi)
      ++ leBytes 8 (unsigned 64 r.k)
    let ids := (above.map Prod.snd).toList ++ (bins.filter fun r => r.count != 0).map Bin.id
    (head ++ leBytes 4 (crc32c (head ++ body)) ++ body, if x.grammarOn then e.noteBytes x s.instar pos ids else [])

/-- A request reaches this engine: a round of the Lead, which the lowest idle lane sweeps (log entry 147), or a message that is
wanted again (log entry 44); a SELECT or DRAFT goes again to the rank that asks. -/
def Eng.takeRequest (e : Eng) (b : Bytes) : Eng :=
  match u8 b 10 with
  | 2 => e.resweep (u32 b 0) (u32 b 4)
  | 3 => e.resweep (u32 b 0) (u32 b 4)
  | 4 => if e.isLead && !e.smp.lastSelect.isEmpty then e.toRank 0x11 (u8 b 9) e.smp.lastSelect else e
  | 5 => if e.smp.lastDraft.isEmpty then e else e.toRank 0x12 (u8 b 9) e.smp.lastDraft
  | _ =>
    match e.replyTo b with
    | none => e
    | some (r, note) =>
      let n := ((e.smp.buffer.find? fun s => s.tag == u32 b 0 && s.pos == u32 b 4).map Stream.count).getD 0
      let e := (e.bump64 Reg.SMP_LOGITS_LO n).count 5 n
      let e := match (e.idleLanes ++ (List.range 64).filter fun i => (e.lane i).mode == 1).head? with
        | some i => e.bump64 (Reg.SMP_LANE_LOGITS_LO i) n
        | none => e
      if e.isLead then e.takeReply r note
      else
        let e := e.toRank 0x14 e.leadRank r
        if note.isEmpty then e else e.toRank 0x18 e.leadRank note

/-- The Lead's own Tail answers the rounds it was sent. -/
def Eng.answerOwn : Nat → Eng → Eng
  | 0, e => e
  | fuel + 1, e =>
    match e.smp.ownRounds with
    | [] => e
    | b :: l => Eng.answerOwn fuel (Eng.takeRequest { e with smp := { e.smp with ownRounds := l } } b)

/-! ## SELECT and DRAFT as they arrive (R167, R182, 08 R197, R206) -/

def selectOk (b : Bytes) : Bool := b.length == 16 + 8 * u32 b 8 && sealOk b 12

def Eng.takeSelect (e : Eng) (b : Bytes) : Eng :=
  if !e.isTail then e
  else if !selectOk b then
    e.badMessage 1 e.leadRank 0 0 0 fun e => e.toRank 0x13 e.leadRank (requestBytes 0 0 e.img.rank 4 0 0)
  else (e.recovered 1 e.leadRank 0 0 0).applySelect b

/-- Draft-void entries of an instar, counted by the Lead (R199). -/
def Eng.countVoid (e : Eng) (tags : List Nat) : Eng :=
  match tags with
  | [] => e
  | tag :: _ =>
    let k := e.smp.voidEpoch + tags.length
    (Eng.bump { e with smp := { e.smp with voidEpoch := k } } Reg.SMP_DRAFT_VOID 31 0 tags.length).raiseOnce 0xA800 0xA8 1 tag [(16, 4, k)]

/-- The entries of an instar as this engine knows them. -/
def Eng.instarEntries (e : Eng) (num : Nat) : List DEntry :=
  if e.isTail then Tab.getD e.smp.descs num []
  else if e.isLead then ((e.cmp.flights.find? fun f => f.num == num).map Flight.entries).getD []
  else (((e.cmp.checked.toList ++ e.cmp.kept).find? fun d => d.num == num).map fun d => descEntries d.raw).getD []

/-- The earliest instar with a model whose DRAFT is awaited, and that model's DRAFT_RANK. -/
def Eng.draftSource (e : Eng) : Option (Nat × Nat) :=
  let ds := if e.isTail then e.smp.descs else e.cmp.flights.map fun f => (f.num, f.entries)
  (ds.flatMap fun d => (d.2.filter fun x => x.drafts != 0 && !e.smp.drafted.contains (d.1, x.model)).map
    fun x => (d.1, (e.model x.model).draftRank)).head?

/-- The DRAFT_RANK engine of a model that the message is for sends it to the Lead and to every Tail (R197). What its drafter
computed stands in the message of the row (log entry 144). -/
def Eng.sendDraft (e : Eng) (b : Bytes) : Eng :=
  let ents := draftEnts b
  let want := (e.instarEntries (u48 b 0)).filter fun x => x.drafts != 0 && (ents.isEmpty || ents.any fun d => d.tag == x.tag)
  if !want.any fun x => (e.model x.model).draftRank == e.img.rank then e
  else
    let dst := if e.tails.contains e.leadRank then e.tails else e.leadRank :: e.tails
    dst.foldl (fun e r => e.toRank 0x12 r b) { e with smp := { e.smp with lastDraft := b } }

/-- A DRAFT message is applied (R197). Models named by its entries have their message; one without entries stands for
every model of the instar (log entry 47). One that fails its CRC is requested once more from its DRAFT_RANK (R182). -/
def Eng.takeDraft (e : Eng) (b : Bytes) : Eng :=
  let ok := b.length == 16 + 48 * u32 b 8 && sealOk b 12
  let e := if ok then e.sendDraft b else e
  let src := (e.draftSource).getD (u48 b 0, 0)
  if !(e.isTail || e.isLead) then e
  else if !ok then e.badMessage 1 src.2 src.1 0 1 fun e => e.toRank 0x13 src.2 (requestBytes 0 0 e.img.rank 5 0 0)
  else
    let num := u48 b 0
    let e := e.recovered 1 src.2 num 0 1
    let ents := draftEnts b
    let descs := e.instarEntries num
    let want := descs.filter fun (x : DEntry) => x.drafts != 0
    let named := want.filter fun (x : DEntry) => ents.any fun (d : DraftEnt) => d.tag == x.tag
    let models := (if ents.isEmpty then want else named).map DEntry.model
    let mine := want.filter fun (x : DEntry) => models.contains x.model && !e.smp.drafted.contains (num, x.model)
    let reads := if e.isTail then (mine.filter fun (x : DEntry) => x.grammarOn && ents.any fun (d : DraftEnt) => d.tag == x.tag).map DEntry.tag else []
    let old := e.smp.drafted.filter fun p => decide (num ≤ p.1 + 4)
    let e := { e with smp := { e.smp with drafts := (e.smp.drafts.filter fun (d : DraftEnt) => decide (num ≤ d.instar + 4)) ++ ents
                                          drafted := old ++ (models.filter fun (m : Nat) => !e.smp.drafted.contains (num, m)).map fun (m : Nat) => (num, m)
                                          edgeReads := e.smp.edgeReads ++ reads } }
    let e := if e.isLead then e.countVoid ((mine.filter fun (x : DEntry) => (e.voidFrom num x).isSome).map DEntry.tag) else e
    let e := if e.isTail then (mine.filter fun (x : DEntry) => !reads.contains x.tag).foldl (fun (e : Eng) (x : DEntry) => e.sendVoid num x) e else e
    let e := Eng.assignLanes 64 e
    if e.isLead then e.advanceTurn else e

/-- The draft edge reads of a session are done: its draft states are known (R206). -/
def Eng.edgesRead (e : Eng) (tag : Nat) : Eng :=
  if !e.smp.edgeReads.contains tag then e
  else
    let e := { e with smp := { e.smp with edgeReads := e.smp.edgeReads.filter (· ≠ tag) } }
    let e := match (e.smp.descs.reverse.find? fun d => d.2.any fun x => x.tag == tag) with
      | some d => match d.2.find? fun x => x.tag == tag with
        | some x => e.sendVoid d.1 x
        | none => e
      | none => e
    Eng.assignLanes 64 e

/-- A grammar read has failed (08 R192). At the Lead, a second failure holds the session; its position of the instar in
flight is not committed. -/
def Eng.grammarFault (e : Eng) (tag rank : Nat) (again : Bool) : Eng :=
  if !again then e
  else
    let e := if rank = e.img.rank && e.isTail then e.bump Reg.SMP_GRAMMAR 31 16 1 else e
    if !e.isLead then e
    else match e.find tag with
      | none => e
      | some x =>
        let e := (e.hold tag 5).raise 0xA7 2 tag [(16, 1, x.grammarId), (18, 2, x.grammarState), (20, 1, rank)]
        Eng.advanceTurn { e with smp := { e.smp with merged := e.smp.merged.map fun m =>
          if m.tag = tag then { m with got := e.tails, noted := e.tails, sel := some (m.sel.getD none), round := none } else m } }

end Sys2Proof.Machine
end

