-- ==== Sys2Proof/Machine/Jobs.lean ====
section
/-! DEFINITION. What DSQ does with a job's head command, with the clusters' notices, with void notices and ABORT, and
with command stepping and tensor dumps (06 R139 to R156). -/

namespace Sys2Proof.Machine

/-! ## After a change -/

/-- What a change on partition `p` may let happen: grants, held jobs, waiting tool jobs, ended shards. -/
def Eng.settleDsq (e : Eng) (p : Nat) : Eng :=
  let e := (Eng.admitTools 64 (e.settlePart p).endShards).startHeld
  e.settlePart p

/-! ## Head commands (R135, R139, R146 to R148) -/

/-- The job can take its next command: its partition is ready, no kernel of it is in flight and no earlier command waits,
no older job of its model is unfinished (R137), and no dump holds it (R154). -/
def Eng.takesCommand (e : Eng) (p : Nat) (j : Job) : Bool :=
  decide ((e.part p).mode = 0) && (j.st == .queued || j.st == .running) && j.kern.isNone && j.waiting.isNone &&
    !e.behind p j && !(e.dsq.dump.any fun d => d.1 == p && d.2.1 == j.id)

/-- The command at the head is held by command stepping (R155, 13 R378). -/
def Eng.stepHolds (e : Eng) (p : Nat) (j : Job) : Bool :=
  bit (e.reg Reg.DSQ_STEP).toNat 0 && e.fld Reg.DSQ_STEP 15 10 == p && !j.isTool

/-- Units taken back from a job's records of a semaphore, oldest acquire first (log entry 48). -/
def takeUnits (s : Nat) : Nat → List (Nat × Nat × Nat) → List (Nat × Nat × Nat)
  | _, [] => []
  | n, u :: l =>
    if u.1 ≠ s then u :: takeUnits s n l
    else if u.2.1 ≤ n then takeUnits s (n - u.2.1) l
    else (u.1, u.2.1 - n, u.2.2) :: l

/-- RELEASE (R146): units go back; the settling that follows ends a donation whose donor's wait is met (R147). -/
def Eng.releaseUnits (e : Eng) (p : Nat) (j : Job) (c : Bytes) : Eng :=
  let s := cmdSem c
  if j.held s < cmdCount c then e.cmdFault p j
  else
    let e := e.setSem p s (e.semFree p s + cmdCount c)
    e.setJob p { j with st := .running, pc := j.pc + 1, units := takeUnits s (cmdCount c) j.units }

/-- LINK_PUT (R135): unspent credits go back to the pool. -/
def Eng.putCredits (e : Eng) (p : Nat) (j : Job) (c : Bytes) : Eng :=
  let n := min (cmdCredits c) j.credits
  (e.setJob p { j with st := .running, pc := j.pc + 1, credits := j.credits - n }).returnCredits p n

/-- The bytes of a tool job's part (R202): at most `topN` results in ascending (DIST, ID), bytes 4 to 7 of each 0. The results
are what the job's kernels computed (log entry 49). -/
def partBytes (t : ToolJob) (rank topN k : Nat) : Bytes :=
  let n := Config.unstated k % (topN + 1)
  let rs := (List.range n).map fun i => (Config.unstated (k + 1 + 2 * i) % 2 ^ 32, Config.unstated (k + 2 + 2 * i) % 2 ^ 64)
  let body := (sortBy resultBefore rs).flatMap fun r => layout 16 [(0, 4, r.1), (8, 8, r.2)]
  sealAt (layout 32 [(0, 6, t.instar), (8, 4, t.tag), (12, 1, rank), (14, 2, n)] ++ body) 28

/-- The labels of at most `n` items, as the Lead reads them from the label store when its own part is the last one in: free
values (log entry 49). -/
def freeLabels (n k : Nat) : List (List Nat) :=
  (List.range n).map fun i => (List.range (Config.unstated (k + 64 * i) % 64)).map fun q => Config.unstated (k + 64 * i + 1 + q) % 2 ^ 20

/-- END (R127, R137, Table 6-4): the job is done; a tool job's part leaves for the Lead (08 R202). -/
def Eng.endJob (e : Eng) (p : Nat) (j : Job) : Eng :=
  let e := e.releaseJob p j
  match j.tool with
  | some t =>
    let top := u16 ((e.localTool t.tool).getD []) 4
    let (k, e) := e.freshN (1 + 2 * top)
    let b := partBytes t e.img.rank top k
    if e.isLead then
      let (k, e) := e.freshN (64 * top)
      e.takePart b (freeLabels top k)
    else e.toRank 0x22 e.leadRank b
  | none =>
    let drop (s : Shard) : Shard := { s with open_ := s.open_.filter (· ≠ j.model) }
    { e with dsq := { e.dsq with shards := updWhere (fun s => s.num == j.instar) drop e.dsq.shards } }

/-- Carries out a command at the head of a job (Table 6-2). KERNEL, ACQUIRE and LINK_GET wait until they are granted. -/
def Eng.doCommand (e : Eng) (p : Nat) (j : Job) (c : Bytes) : Eng :=
  match cmdOp c with
  | 1 => e.setJob p { j with waiting := some (c, e.now) }
  | 2 => e.setJob p { j with waiting := some (c, e.now) }
  | 3 => e.releaseUnits p j c
  | 4 => e.setJob p { j with waiting := some (c, e.now) }
  | 5 => e.putCredits p j c
  | 6 => e.setJob p { j with st := .running, pc := j.pc + 1 }
  | _ => e.endJob p j

/-- The bytes can stand at the head of the job: a command of another operation is that operation's row; and where the image
gives the model's step program, an intact fetch is the program's command (log entry 77). -/
def Eng.mayFetch (e : Eng) (op : Nat) (j : Job) (c : Bytes) : Bool :=
  if !cmdOk c then true
  else if cmdOp c != op then false
  else j.isTool || match Tab.get? e.img.programs j.model with
    | some prog => prog.isEmpty || slice prog (32 * j.pc) 32 == c
    | none => true

/-- A command of operation `op` is at the head of job `id`: it is checked (Table 6-5 cause 3), held by command stepping,
or carried out. A command that the job cannot take now does not occur. -/
def Eng.headCommand (e : Eng) (op p id : Nat) (c : Bytes) : Eng :=
  match e.job? p id with
  | none => e
  | some j =>
    if !(e.takesCommand p j && e.mayFetch op j c) then e
    else if !cmdOk c then (e.cmdFault p j).settleDsq p
    else if e.stepHolds p j && !e.dbg.lock.held then
      let e := e.setJob p { j with waiting := some (c, e.now) }
      Eng.raise { e with dsq := { e.dsq with held := e.dsq.held ++ [(p, id, e.now)] } } 0xE1 1 0
        [(16, 1, 0), (20, 4, j.instar % 2 ^ 32)]
    else
      let e := if e.stepHolds p j then
          Eng.raise { e with dbg := { e.dbg with haltPending := true } } 0xE1 1 0 [(16, 1, 1), (20, 4, j.instar % 2 ^ 32)]
        else e
      (e.doCommand p j c).settleDsq p

/-- Releases a held command: it is carried out now (R155). -/
def Eng.releaseHeld (e : Eng) (h : Nat × Nat × Nat) : Eng :=
  let e := { e with dsq := { e.dsq with held := e.dsq.held.filter (· ≠ h) } }
  match e.job? h.1 h.2.1 with
  | none => e
  | some j =>
    let e := (e.waitEnd 17 9 h.1 h.2.2).raise 0xE1 1 0 [(16, 1, 2), (20, 4, j.instar % 2 ^ 32)]
    match j.waiting with
    | none => e
    | some (c, _) => (e.doCommand h.1 { j with waiting := none } c).settleDsq h.1

/-- GO releases the held command: of several, the first in the order of R139. -/
def Eng.stepGo (e : Eng) : Eng :=
  match (e.jobsOf (e.fld Reg.DSQ_STEP 15 10)).find? fun j => e.dsq.held.any fun h => h.2.1 == j.id with
  | none => e
  | some j => match e.dsq.held.find? fun h => h.2.1 == j.id with
    | some h => e.releaseHeld h
    | none => e

/-- Every held command is released (13 R376). -/
def Eng.releaseAllHeld (e : Eng) : Eng := e.dsq.held.foldl Eng.releaseHeld e

/-! ## Notices from the clusters (R139, R142, R144, R150, R151) -/

/-- Frees the groups of a kernel. -/
def Eng.freeGroups (e : Eng) (gs : List Nat) : Eng := gs.foldl (fun e g => e.setGroup g fun x => { x with busy := none }) e

/-- Adds a kernel's measured and scaled times [ns] to its instar's, over the last 64 instars (Table 6-22). -/
def addMeasure (instar meas wcet : Nat) (l : List (Nat × Nat × Nat)) : List (Nat × Nat × Nat) :=
  match l.find? fun x => x.1 == instar with
  | some x => updWhere (fun y => y.1 == instar) (fun _ => (instar, x.2.1 + meas, x.2.2 + wcet)) l
  | none => ((instar, meas, wcet) :: l).take 64

/-- A kernel's run is measured; one beyond its scaled WCET is an overrun (R151). -/
def Eng.measureKernel (e : Eng) (p : Nat) (j : Job) (k : Kern) : Eng :=
  let meas := k.ran + (e.now - k.start)
  let e := e.setPart p fun q => { q with measured := addMeasure j.instar meas (k.wcet / 1000) q.measured }
  if meas * 1000 ≤ k.wcet then e
  else (e.bump (Reg.DSQ_P_FAULTS p) 27 16 1).raiseOnce (0x7300 + p) 0x73 1 0
    [(16, 1, p), (18, 2, k.id), (20, 4, min meas 0xFFFFFFFF), (24, 4, min (k.wcet / 1000) 0xFFFFFFFF)]

/-- The armed dump takes this kernel (R154). -/
def Eng.dumpTakes (e : Eng) (p : Nat) (j : Job) : Bool :=
  bit (e.reg Reg.DSQ_DUMP_CTRL).toNat 31 && e.dsq.dump.isNone && !j.isTool && e.fld Reg.DSQ_DUMP_CTRL 27 22 == p &&
    e.fld Reg.DSQ_DUMP_CTRL 15 0 == j.pc &&
    (bit (e.reg Reg.DSQ_DUMP_CTRL).toNat 30 || e.reg64 Reg.DSQ_DUMP_INSTAR_LO % 2 ^ 48 == j.instar)

/-- A kernel completes (R141, R144): a halting job becomes SAVED with no image. -/
def Eng.kernelDone (e : Eng) (p id : Nat) : Eng :=
  match e.job? p id with
  | none => e
  | some j => match j.kern with
    | none => e
    | some k =>
      if !j.kernelRuns then e
      else
        let e := ((e.measureKernel p j k).traceKernel p 1 k).freeGroups k.groups
        let (j, e) := e.spend p j
        let dump := e.dumpTakes p j
        let e :=
          if j.st == .halting then
            let e := e.setPart p fun q => { q with imagesUsed := q.imagesUsed - k.groups.length }
            (e.setJob p { j with st := .saved, kern := none, pc := j.pc + 1 }).returnCredits p j.credits
          else e.setJob p { j with kern := none, pc := j.pc + 1 }
        let e := if dump then
            Eng.send { e with dsq := { e.dsq with dump := some (p, id, k.id) } } (.cluster (.dump p id
              (e.fld Reg.DSQ_DUMP_CTRL 29 28) (e.reg64 Reg.DSQ_DUMP_ADDR_LO) (e.reg Reg.DSQ_DUMP_SIZE).toNat))
          else e
        (e.noteBusy p).settleDsq p

/-- Every core of a halted job has stopped (R142, R144): its credits return and its groups are saved. -/
def Eng.halted (e : Eng) (p id : Nat) : Eng :=
  match e.job? p id with
  | none => e
  | some j => match j.kern with
    | none => e
    | some k =>
      if j.st ≠ .halting then e
      else
        let (j, e) := e.spend p j
        let e := e.setJob p { j with st := .saving, moving := k.groups, images := [],
                                     kern := some { k with ran := k.ran + (e.now - k.start) } }
        let e := (e.returnCredits p j.credits).noteBusy p
        (e.queueMoves p id 0 k.groups).settleDsq p

/-- A group's image is written (R143, R144). -/
def Eng.groupSaved (e : Eng) (g : Nat) (ok : Bool) : Eng :=
  match e.slotOf g 0 with
  | none => e
  | some t =>
    let e := e.endSlot t
    if !ok then (e.faultPart t.part 4 false).settleDsq t.part
    else match e.job? t.part t.job with
      | none => e
      | some j =>
        let im := insertBy (fun (a b : Nat × Nat) => decide (a.1 ≤ b.1)) (g, (e.group g).working) j.images
        let left := j.moving.filter (· ≠ g)
        let j := { j with images := im, moving := left, st := if left.isEmpty then .saved else .saving }
        ((e.setJob t.part j).freeGroups [g]).settleDsq t.part

/-- The next thing that a job's group is ready for: its kernel starts once every group is. -/
def Eng.groupReady (e : Eng) (p : Nat) (j : Job) (g : Nat) : Eng :=
  let j := { j with moving := j.moving.filter (· ≠ g) }
  let e := e.setJob p j
  match j.kern with
  | some k => if j.st == .running && j.moving.isEmpty then e.startKernel p j k false else e
  | none => e

/-- A group's image is read back; its context is reloaded where the group holds another (R140, R142). -/
def Eng.groupRestored (e : Eng) (g : Nat) (ok : Bool) : Eng :=
  match e.slotOf g 1 with
  | none => e
  | some t =>
    let e := e.endSlot t
    if !ok then (e.faultPart t.part 4 false).settleDsq t.part
    else match e.job? t.part t.job with
      | none => e
      | some j =>
        if (e.group g).ctx ≠ some j.context then e.queueMoves t.part t.job 2 [g]
        else (e.groupReady t.part j g).settleDsq t.part

/-- A group's context is loaded (R140); an uncorrectable context read is a partition fault (Table 6-5 cause 5). -/
def Eng.contextLoaded (e : Eng) (g : Nat) (ok : Bool) : Eng :=
  match e.slotOf g 2 with
  | none => e
  | some t =>
    let e := e.endSlot t
    if !ok then (e.faultPart t.part 5 false).settleDsq t.part
    else match e.job? t.part t.job with
      | none => e
      | some j => ((e.setGroup g fun x => { x with ctx := some j.context }).groupReady t.part j g).settleDsq t.part

/-- The partition a group belongs to (R132). -/
def Eng.partOf (e : Eng) (g : Nat) : Option Nat :=
  (e.img.partitions.find? fun p => decide (p.2.first ≤ g ∧ g < p.2.first + p.2.groups)).map Prod.fst

/-- A core is fenced (R149 to R151). -/
def Eng.fenceCore (e : Eng) (g core : Nat) : Eng :=
  if bit (e.group g).fenced core then e
  else
    let e := (e.setGroup g fun x => { x with fenced := x.fenced ||| 2 ^ core }).noteRetired
    match e.partOf g with
    | none =>
      let (k, e) := e.freshN 3
      e.raise 0x70 2 0 [(16, 1, Config.unstated k), (17, 2, g), (19, 1, core), (20, 2, Config.unstated (k + 1)),
        (24, 2, Config.unstated (k + 2))]
    | some p =>
      let e := e.raise 0x70 2 0 [(16, 1, p), (17, 2, g), (19, 1, core), (20, 2, e.coresW p), (24, 2, min (e.sigmaP p) 0xFFFF)]
      let inFlight := (e.part p).jobs.any fun j => j.kernelRuns && (j.kern.any fun k => k.groups.contains g)
      let e := if e.coresW p = 0 then e.faultPart p 6 true
        else if inFlight then e.faultPart p 1 false
        else e.setFld (Reg.DSQ_P_FAULTS p) 31 28 1
      e.settleDsq p

/-- A kernel has run longer than KWDOG times its scaled WCET (Table 6-5 cause 2). -/
def Eng.kernelLate (e : Eng) (p id : Nat) : Eng :=
  match (e.job? p id).bind fun j => if j.kernelRuns then j.kern else none with
  | some k =>
    if (k.ran + (e.now - k.start)) * 1000 ≤ e.param 0x0700 * k.wcet then e else (e.faultPart p 2 false).settleDsq p
  | none => e

/-- The models of a shard whose jobs the reset of partition `p` aborted and the Lead did not: at READY they count as
ended (log entry 52). -/
def Eng.closeVoided (e : Eng) (p : Nat) : Eng :=
  let gone (s : Shard) (m : Nat) : Bool :=
    (e.model m).stepPart == p && !(s.held.any fun h => h.1 == m) &&
      !(e.part p).jobs.any fun j => !j.isTool && j.model == m && j.instar == s.num
  { e with dsq := { e.dsq with shards := e.dsq.shards.map fun s => { s with open_ := s.open_.filter fun m => !gone s m } } }

/-- A partition's reset is over (R149, R153). -/
def Eng.partReady (e : Eng) (p : Nat) : Eng :=
  if (e.part p).mode ≠ 1 then e else ((e.setPart p fun q => { q with mode := 0 }).closeVoided p).settleDsq p

/-- A receiving chip has freed buffers: consumed credits return to the pool (R135, R148). Those beyond what completed kernels
have consumed were consumed by kernels that still run (log entry 50). -/
def Eng.creditsBack (e : Eng) (p n : Nat) : Eng :=
  let m := min n (e.part p).sent
  let e := e.setPart p fun q => { q with sent := q.sent - m }
  let spend (st : Nat × Eng) (j : Job) : Nat × Eng :=
    if !j.kernelRuns then st
    else
      let k := min st.1 j.credits
      (st.1 - k, st.2.setJob p { j with credits := j.credits - k })
  let r := (e.jobsOf p).foldl spend (n - m, e)
  (r.2.returnCredits p (n - r.1)).settleDsq p

/-- The dump is written (R154): SIZE bytes at most. -/
def Eng.dumpDone (e : Eng) (bytes : Nat) : Eng :=
  match e.dsq.dump with
  | none => e
  | some (p, _, k) =>
    let size := (e.reg Reg.DSQ_DUMP_SIZE).toNat
    let e := Eng.setFld { e with dsq := { e.dsq with dump := none } } Reg.DSQ_DUMP_CTRL 31 31 0
    (e.raise 0x75 1 0 [(16, 1, p), (18, 2, k), (20, 4, min bytes size), (24, 1, b2n (decide (size < bytes)))]).settleDsq p

/-! ## Void notices and ABORT (R152, R153) -/

/-- What an engine does with an abort from instar `first` on: its shards and streams go, and its reports leave. -/
def Eng.applyAbort (e : Eng) (first : Nat) : Eng := (e.discardShards first).discardStreams first

/-- The Lead aborts the instars sealed from `first` on: nothing of them is committed, and a fresh composition is owed. -/
def Eng.abortFrom (e : Eng) (first rank : Nat) : Eng :=
  let gone := e.cmp.flights.filter fun f => decide (first ≤ f.num)
  let tags := gone.flatMap fun f => f.entries.map DEntry.tag
  let stop (d : Draft) : Draft := { d with running := false, placed := [], standby := [], keys := [] }
  let held := match e.cmp.heldDesc with
    | some h => if first ≤ h.1 then none else some h
    | none => none
  let e := { e with
    cmp := { e.cmp with flights := e.cmp.flights.filter fun f => decide (f.num < first)
                        recompose := true, draft := stop e.cmp.draft, heldDesc := held }
    dir := { e.dir with staged := tags.foldl (fun l t => l.erase t) e.dir.staged }
    smp := { e.smp with merged := e.smp.merged.filter fun m => decide (m.instar < first)
                        drafts := e.smp.drafts.filter fun d => decide (d.instar < first) } }
  let e := (e.traceInstar 9 6 first).raise 0x72 2 0 [(16, 1, 2), (17, 1, rank), (20, 4, first % 2 ^ 32)]
  (e.down 0x02 (layout 64 [(0, 6, first)])).applyAbort first

/-- A void notice at the Lead (R152). -/
def Eng.leadVoid (e : Eng) (b : Bytes) : Eng :=
  let x := u48 b 0
  let flight := e.cmp.flights.find? fun f => f.num == x
  let turned := match flight with
    | some f => f.turned
    | none => true
  let first := if turned then x + 1 else x
  let e := match flight with
    | some f =>
      if !turned then e
      else if f.done then e.lowerEntries f.entries
      else e.modFlight x fun f => { f with lower := true }
    | none => e
  if e.cmp.flights.any fun f => decide (first ≤ f.num) then
    let low := minD x ((e.cmp.flights.filter fun f => decide (first ≤ f.num)).map Flight.num)
    e.abortFrom low (u8 b 9)
  else e

/-- A void notice on its way to the Lead. -/
def Eng.takeVoid (e : Eng) (b : Bytes) : Eng := if e.isLead then e.leadVoid b else e.upward 0x03 b

/-- An ABORT is applied and handed on (R153). -/
def Eng.takeAbort (e : Eng) (b : Bytes) : Eng :=
  let first := u48 b 0
  let e := (e.down 0x02 b).bump Reg.DSQ_ABORTS 31 16 1
  let (k, e) := e.fresh
  let e := e.raise 0x72 2 0 [(16, 1, 1), (17, 1, Config.unstated k), (20, 4, first % 2 ^ 32)]
  (e.traceInstar 9 6 first).applyAbort first

end Sys2Proof.Machine
end

