-- ==== Sys2Proof/Machine/TwinWire.lean ====
section
/-! DEFINITION. Messages of the twin port and of the witness (10 R255, R265, 14 R396), and the mirror of the partner's
journal (10 R253, R255). -/

namespace Sys2Proof.Machine

/-! ## Shape and messages of the twin port (14 R396) -/

/-- The sampling key id: the first 8 bytes of the key's SHA-256 (07 R171). -/
def Eng.keyId (e : Eng) : Bytes := (sha256 (leBytes 8 e.img.keys.sampling)).take 8

/-- The shape digest. -/
def Eng.shapeDigest (e : Eng) : Bytes :=
  let m := (Tab.keys e.img.models).flatMap fun i =>
    let r := Tab.getD e.img.modelsRaw i []
    slice r 0 8 ++ slice r 40 1 ++ slice r 64 576
  (sha256 (slice e.img.identityRaw 0 1 ++ slice e.img.identityRaw 64 64 ++ m ++ e.keyId)).take 8

/-- The state that an engine shows its partner: a Lead's wing state; another engine is PAIRED while its handshake holds
and SOLO once it has lost its twin (R269; log entry 57). -/
def Eng.wingCode (e : Eng) : Nat :=
  if e.isLead then e.twm.wing.code else if e.twm.twinLost then 3 else if e.twm.handshake then 1 else 0

def Eng.helloBytes (e : Eng) : Bytes :=
  withCrc (layout 16 [(0, 1, 0x20), (1, 1, e.img.wing), (2, 1, e.twm.leader), (3, 1, e.wingCode), (4, 4, e.twm.term),
    (8, 4, e.img.pairId), (12, 1, e.img.n), (13, 1, e.img.rank)] ++ e.keyId ++ e.shapeDigest ++ zeros 28)

def Eng.handoverBytes (e : Eng) (rank : Nat) : Bytes :=
  withCrc (layout 60 [(0, 1, 0x21), (1, 1, e.img.wing), (4, 4, e.twm.term), (8, 1, rank), (12, 6, e.cmp.last)])

/-- An ACK or a NAK (Table 10-5). -/
def Eng.ackBytes (e : Eng) (kind index stored : Nat) : Bytes :=
  withCrc (layout 28 [(0, 1, kind), (1, 1, e.img.wing), (2, 1, e.twm.leader), (4, 4, e.twm.term), (8, 8, index), (16, 4, stored)])

/-- A message of 64 bytes of kind `k` whose CRC holds. -/
def twinMsgOk (b : Bytes) (k : Nat) : Bool := b.length == 64 && u8 b 0 == k && crcOk b 64

/-- A message that passes its CRC has arrived (14 R397). -/
def Eng.heard (e : Eng) : Eng := { e with twm := { e.twm with lastRx := e.now } }

/-- The wings' shapes agree (14 R396, R23). -/
def Eng.sameShape (e : Eng) (b : Bytes) : Bool :=
  u32 b 8 == e.img.pairId && u8 b 12 == e.img.n && u8 b 13 == e.img.rank && slice b 16 8 == e.keyId &&
    slice b 24 8 == e.shapeDigest

/-! ## The witness (R265) -/

def Eng.witnessMac (e : Eng) (b : Bytes) : Bytes := (hmac e.img.keys.witness (b.take 48)).take 16

/-- Sends a message to the witness: its NONCE, and the engine. -/
def Eng.tellWitness (e : Eng) (typ wing reason : Nat) : Nat × Eng :=
  let (k, e) := e.fresh
  let nonce := (Config.nonce k).toNat
  let b := layout 48 [(0, 1, typ), (1, 1, wing), (2, 1, reason), (4, 4, e.img.pairId), (8, 4, e.twm.term), (12, 4, nonce)]
  (nonce, (e.send (.witness e.img.layout.witnessIp e.img.layout.witnessPort (b ++ e.witnessMac b))).bump Reg.TWM_WITNESS 15 0 1)

/-- Sends a REQUEST or a RENEW and waits for its answer. -/
def Eng.askWitness (e : Eng) (reason wing : Nat) (renew : Bool) : Eng :=
  let (n, e) := e.tellWitness (if renew then 2 else 1) wing reason
  let r : WReq := { reason := reason, nonce := n, at_ := e.now, wing := wing, renew := renew }
  let old := e.twm.requests.filter fun q => decide (e.now < q.at_ + 2000000000)
  { e with twm := { e.twm with requests := r :: old, wanted := some r } }

/-- Sends RELEASE. -/
def Eng.releaseLease (e : Eng) : Eng :=
  let e := (e.tellWitness 3 e.img.wing 0).2
  Eng.raise { e with twm := { e.twm with lease := none } } 0xC1 2 0 [(16, 1, 3), (17, 1, e.img.wing), (20, 4, e.twm.term)]

/-! ## The mirror (R253, R255) -/

/-- What a mirrored record adds to the producer windows (R275): (producer, sequence, outcome). -/
def JRec.window? : JRec → Option (Nat × Nat × Nat)
  | .admitted kind _ tag pid pseq turn .. => if kind = 3 then none else some (pid, pseq, if kind = 0 then tag else turn)
  | .close kind _ pid pseq turn => if kind = 0 then some (pid, pseq, turn) else none
  | _ => none

/-- Adds to the mirrored windows, of which each producer keeps the last 4,096 sequences. -/
def addMirrorWin (w : Nat × Nat × Nat) (l : List (Nat × Nat × Nat)) : List (Nat × Nat × Nat) :=
  let high := max0 (w.2.1 :: (l.filter fun v => v.1 == w.1).map fun v => v.2.1)
  (w :: l).filter fun v => v.1 != w.1 || decide (high < v.2.1 + 4096)

/-- The mirror with the record of (term, index) applied. -/
def Twm.mirrorRec (t : Twm) (r : Nat × Nat × JRec) : Twm :=
  let st := applyRec r.1 r.2.1 r.2.2 (t.mirror, t.mirrorLogs)
  let pids := match r.2.2 with
    | .admitted kind _ tag pid .. => if kind = 0 then Tab.put t.mirrorPids tag pid else t.mirrorPids
    | _ => t.mirrorPids
  let win := match r.2.2.window? with
    | some w => addMirrorWin w t.mirrorWin
    | none => t.mirrorWin
  { t with mirror := st.1, mirrorLogs := st.2, mirrorPids := pids, mirrorWin := win }

/-- Applies a control batch (R263): acknowledged positions of the partner's sessions. -/
def Twm.mirrorAcks (t : Twm) (body : Bytes) (n : Nat) : Twm :=
  (pieces 16 n body).foldl (fun (t : Twm) b =>
    match Tab.get? t.mirror (u32 b 0) with
    | none => t
    | some s =>
      let a := u32 b 4
      let s := { s with acked := if a = 0xFFFFFFFF then none else some a, termAcked := bit (u8 b 8) 0 }
      { t with mirror := Tab.put t.mirror s.tag s }) t

/-- The control batch of the sessions acknowledged since the last (R263). -/
def Eng.sendAcks (e : Eng) : Eng :=
  if e.twm.ackDirty.isEmpty then e
  else
    let ents := e.twm.ackDirty.reverse.map fun t =>
      let s := e.sum t
      layout 16 [(0, 4, t), (4, 4, s.acked.getD 0xFFFFFFFF), (8, 1, b2n s.termAcked)]
    let units := ceilDiv ents.length 2
    let body := padTo (32 * units) ents.flatten
    let h := layout 56 [(0, 1, 2), (1, 1, 1), (2, 1, e.img.wing), (3, 1, e.twm.leader), (4, 4, e.twm.term),
      (16, 4, ents.length), (20, 4, units), (24, 6, e.cmp.last), (32, 8, e.now)]
    let e := e.send (.twin (withCrc (h ++ leBytes 4 (crc32c body)) ++ body))
    { e with twm := { e.twm with ackDirty := [] } }

/-- A batch's header and body pass their checks (R255). -/
def batchCrcOk (b : Bytes) : Bool :=
  decide (64 ≤ b.length) && crcOk (b.take 64) 64 && b.length == 64 + 32 * u32 b 20 && u32 b 56 == crc32c (b.drop 64)

/-- The records of a batch, numbered with its term and indices. -/
def batchRecs (b : Bytes) : Option (List (Nat × Nat × JRec)) :=
  (parseRecs (u32 b 16) (b.drop 64)).map fun rs =>
    (List.range rs.length).zip rs |>.map fun p => (u32 b 4, u64 b 8 + p.1, p.2)

/-- The batches that follow one another in bytes read from T3. -/
def t3Batches : Nat → Bytes → List Bytes
  | 0, _ => []
  | n + 1, b =>
    let len := 64 + 32 * u32 b 20
    if b.length < 64 ∨ b.length < len then [] else b.take len :: t3Batches n (b.drop len)

/-! ## Snapshot shards (R280)

The spec names what the Lead's shard holds and gives it no layout; the layout is the model's own (log entry 58). -/

/-- Reads `n` items with `f`, which gives one item and the bytes after it. -/
def readItems {α : Type} (f : Bytes → α × Bytes) : Nat → Bytes → List α × Bytes
  | 0, b => ([], b)
  | n + 1, b =>
    let (a, b) := f b
    let (l, b) := readItems f n b
    (a :: l, b)

/-- A list with its length in front, and back. -/
def putItems {α : Type} (f : α → Bytes) (l : List α) : Bytes := leBytes 4 l.length ++ l.flatMap f
def getItems {α : Type} (f : Bytes → α × Bytes) (b : Bytes) : List α × Bytes :=
  readItems f (min (u32 b 0) b.length) (b.drop 4)

/-- A number of `n` bytes at the head of `b`. -/
def getNum (n : Nat) (b : Bytes) : Nat × Bytes := (leAt b 0 n, b.drop n)

/-- The entry in 64 bytes (Table 3-3). -/
def Entry.parse (b : Bytes) : Entry :=
  let w := u32 b 4
  let v := u32 b 20
  let f := u32 b 24
  { tag := u32 b 0, tenant := w / 2 ^ 22, model := bitsOf w 21 18, state := SState.ofCode (bitsOf w 17 15),
    residency := bitsOf w 14 12, dclass := bitsOf w 11 9, hold := bitsOf w 8 5, position := u32 b 8, turnSeq := u32 b 12,
    chrys := u32 b 16 + v % 256 * 2 ^ 32, grammarId := v / 2 ^ 24, grammarState := bitsOf v 23 8,
    sparam := f / 2 ^ 8, pin := bit f 7, moving := bit f 6, prefixOn := bit f 5, grammarOn := bit f 4, tierCopy := f % 16,
    toolId := u32 b 28 / 2 ^ 16, prefixId := u32 b 28 % 2 ^ 16, lastAct := u64 b 32, ttlExp := u64 b 40,
    eclStart := u64 b 48, kvLen := u32 b 56 }

/-- The summary in 64 bytes (Table 10-4). -/
def Summary.parse (b : Bytes) : Summary :=
  let f := u8 b 19
  let a := u32 b 28
  { tag := u32 b 0, position := u32 b 4, turnSeq := u32 b 8, lastType := u8 b 12, model := u8 b 13 % 16,
    dclass := bitsOf (u8 b 13) 6 4, tenant := u16 b 14, gstate := u16 b 16, gid := u8 b 18, gOn := bit f 0,
    localTool := bit f 1, termAcked := bit f 2, sparam := u32 b 20, toolId := u16 b 24,
    acked := if a = 0xFFFFFFFF then none else some a, tIn := u64 b 32, lastTerm := u32 b 40, lastIndex := u64 b 44,
    logAddr := u64 b 52 }

/-- A token log's 4 KiB pages of 512 entries, the last one padded with zeros (R253). -/
def logPages (log : List Nat) : List Bytes :=
  (List.range (ceilDiv log.length 512)).map fun k => padTo 4096 (((log.drop (512 * k)).take 512).flatMap (leBytes 8))

/-- A session in a shard: summary, producer id, and the log's page table, which holds the log's length and the CRC-32C of each
page (R280). -/
structure ShardSession where
  sum : Summary
  pid : Nat
  len : Nat
  crcs : List Nat

def putSession (e : Eng) (s : Summary) : Bytes :=
  let log := Tab.getD e.twm.logs s.tag []
  s.bytes ++ leBytes 4 (e.emitOf s.tag).pid ++ leBytes 4 log.length ++ putItems (leBytes 4) ((logPages log).map crc32c)
def getSession (b : Bytes) : ShardSession × Bytes :=
  let (l, r) := getItems (getNum 4) (b.drop 72)
  ({ sum := Summary.parse b, pid := u32 b 64, len := u32 b 68, crcs := l }, r)

/-- The logs of the sessions from their pages, which follow one another in `b` in the order of the page tables; none unless
every page has the CRC-32C of its table. -/
def readLogs : List ShardSession → Bytes → Option (Tab (List Nat))
  | [], _ => some []
  | s :: l, b =>
    let n := s.crcs.length
    if b.length < 4096 * n ∨ (pieces 4096 n b).map crc32c ≠ s.crcs then none
    else (readLogs l (b.drop (4096 * n))).map fun t => (s.sum.tag, numsAt b 8 s.len 0) :: t

/-- A tenant's ledger values in a shard. -/
def putTenant (p : Nat × TenantSt) : Bytes :=
  leBytes 4 p.1 ++ leBytes 8 (unsigned 64 p.2.level) ++ leBytes 8 p.2.rem ++ leBytes 8 p.2.lastNs ++ leBytes 16 p.2.share
    ++ leBytes 4 p.2.live
def getTenant (b : Bytes) : (Nat × TenantSt) × Bytes :=
  ((u32 b 0, { level := signed 64 (u64 b 4), rem := u64 b 12, lastNs := u64 b 20, share := leAt b 28 16, live := u32 b 44 }),
    b.drop 48)

/-- A producer window in a shard, by slot. -/
def putWin (p : Nat × Win) : Bytes :=
  leBytes 4 p.1 ++ leBytes 8 p.2.high ++ putItems (leBytes 8) p.2.seen ++ putItems (leBytes 8) p.2.pending
def getWin (b : Bytes) : (Nat × Win) × Bytes :=
  let (s, r) := getItems (getNum 8) (b.drop 12)
  let (p, r) := getItems (getNum 8) r
  ((u32 b 0, { high := u64 b 4, seen := s, pending := p }), r)

def putRun : FreeRun → Bytes
  | .one i => leBytes 4 0 ++ leBytes 4 i ++ zeros 12
  | .blocks f s c u => leBytes 4 1 ++ leBytes 4 f ++ leBytes 4 s ++ leBytes 4 c ++ leBytes 4 u
def getRun (b : Bytes) : FreeRun × Bytes :=
  (if u32 b 0 = 0 then .one (u32 b 4) else .blocks (u32 b 4) (u32 b 8) (u32 b 12) (u32 b 16), b.drop 20)

def putWait (p : Nat × WaitRec) : Bytes :=
  leBytes 8 p.1 ++ leBytes 4 p.2.n ++ leBytes 8 p.2.last ++ putItems (fun q => leBytes 4 q.1 ++ leBytes 4 q.2) p.2.bins
def getWait (b : Bytes) : (Nat × WaitRec) × Bytes :=
  let (bins, r) := getItems (fun b => ((u32 b 0, u32 b 4), b.drop 8)) (b.drop 20)
  ((u64 b 0, { n := u32 b 8, last := u64 b 12, bins := bins }), r)

/-- A pair of numbers of `m` and `n` bytes. -/
def putPair (m n : Nat) (p : Nat × Nat) : Bytes := leBytes m p.1 ++ leBytes n p.2
def getPair (m n : Nat) (b : Bytes) : (Nat × Nat) × Bytes := ((leAt b 0 m, leAt b m n), b.drop (m + n))

/-- This engine's shard: on the Lead what R280 lists, on another engine its amended parameters and AMEND_SEQ. -/
def Eng.shardBytes (e : Eng) : Bytes :=
  if !e.isLead then leBytes 8 e.ing.amendSeq ++ leBytes 4 e.pgv.cap
  else
    leBytes 8 e.ing.amendSeq ++ leBytes 4 e.pgv.cap ++ putItems entryBytes e.live ++ putItems (putSession e) (Tab.vals e.twm.sums)
      ++ putItems putTenant e.ldg.tenants ++ putItems putWin e.ing.windows ++ putItems (putPair 8 4) e.ing.outcomes
      ++ putItems putRun e.dir.free ++ leBytes 1 e.dir.ownBase ++ putItems (leBytes 2) e.dir.ownPlus
      ++ putItems (leBytes 2) e.dir.ownMinus ++ putItems putWait e.pln.waits

/-- What a Lead's shard holds. -/
structure Shard' where
  amendSeq : Nat
  cap : Nat
  entries : List Entry
  sessions : List ShardSession
  tenants : Tab TenantSt
  windows : Tab Win
  outcomes : Tab Nat
  free : List FreeRun
  ownBase : Nat
  ownPlus : List Nat
  ownMinus : List Nat
  waits : Tab WaitRec

def readShard (b : Bytes) : Shard' :=
  let (entries, r) := getItems (fun b => (Entry.parse b, b.drop 64)) (b.drop 12)
  let (sessions, r) := getItems getSession r
  let (tenants, r) := getItems getTenant r
  let (windows, r) := getItems getWin r
  let (outcomes, r) := getItems (getPair 8 4) r
  let (free, r) := getItems getRun r
  let (base, r) := getNum 1 r
  let (plus, r) := getItems (getNum 2) r
  let (minus, r) := getItems (getNum 2) r
  let (waits, _) := getItems getWait r
  { amendSeq := u64 b 0, cap := u32 b 8, entries := entries, sessions := sessions, tenants := tenants, windows := windows,
    outcomes := outcomes, free := free, ownBase := base, ownPlus := plus, ownMinus := minus, waits := waits }

/-- The manifest (Table 10-12). Length, offset and digest of another rank's shard, and the offset of the own one, are what the
completion of its write reported (log entry 59). -/
def Eng.manifest (e : Eng) (s : Snap) : Bytes :=
  let h := withCrc (layout 60 [(0, 4, 0x5259534D), (4, 1, 1), (5, 1, e.img.wing), (6, 1, e.img.n), (8, 4, e.img.pairId),
    (12, 4, s.term), (16, 6, s.instar), (24, 8, s.j)])
  h ++ (List.range e.img.n).flatMap fun r =>
    let rep := Tab.getD s.parts r []
    if r = e.img.rank then layout 32 [(0, 1, r), (8, 8, s.shard.length), (16, 8, u64 rep 8)] ++ sha256 s.shard
    else layout 32 [(0, 1, r), (8, 8, u64 rep 0), (16, 8, u64 rep 8)] ++ padTo 32 (slice rep 16 32)

/-- The manifest verifies, with the digest of this engine's shard, and of every other shard that came with it. -/
def Eng.manifestOk (e : Eng) (m : Bytes) (shards : Tab Bytes) : Bool :=
  decide (64 ≤ m.length) && crcOk (m.take 64) 64 && u32 m 0 == 0x5259534D && u32 m 8 == e.img.pairId &&
    (Tab.get? shards e.img.rank).isSome && shards.all fun p => slice m (64 + 64 * p.1 + 32) 32 == sha256 p.2

end Sys2Proof.Machine
end

