-- ==== Sys2Proof/Machine/Adopt.lean ====
section
/-! DEFINITION. Rebuilding sessions from the journal (03 Table 3-2, 10 R272, R275, R278): entries from summaries,
emission state from logs, adoption, migration and give-back. -/

namespace Sys2Proof.Machine

/-! ## An entry from its summary -/

/-- The state that LAST_TYPE gives; an OPEN's ADMIT leaves TURN_SEQ 0 (R275, the HELD row of Table 3-2). -/
def Summary.state (s : Summary) : SState :=
  match s.lastType with
  | 1 => if s.turnSeq = 0 then .idle else .queued
  | 2 => .queued
  | 3 => .idle
  | 4 => .yielded
  | _ => .closing

/-- The fields of an entry that a summary holds. -/
def Entry.fromSummary (x : Entry) (s : Summary) : Entry :=
  { x with tenant := s.tenant, model := s.model, state := s.state, dclass := s.dclass, hold := 0, position := s.position,
           turnSeq := s.turnSeq, grammarId := s.gid, grammarState := s.gstate, sparam := s.sparam, grammarOn := s.gOn,
           toolId := if s.lastType = 4 then s.toolId else 0 }

/-- The mark of a log entry: 0 a prompt token, `allOnes44` a tool-result token, else the instar. -/
def logMark (w : Nat) : Nat := w / 2 ^ 20
/-- The sampled tokens at the end of a log. -/
def sampledEnd (log : List Nat) : List Nat :=
  ((log.reverse.takeWhile fun w => logMark w != 0 && logMark w != allOnes44).map (· % 2 ^ 20)).reverse

/-- The count and the scale table of a turn in progress, from its journaled COMMITs (07 R168, 08 R193). The Tail of this
chip takes the table as its copy (log entry 61). -/
def Eng.rebuildTurn (e : Eng) (s : Summary) (log : List Nat) : Eng :=
  if s.lastType ≠ 2 then e
  else
    let ids := sampledEnd log
    let t := ids.foldl (fun (m : Tab Nat) id => scaleAdd m id (decide (m.length < scaleMax))) []
    { e with smp := { e.smp with
        turnCount := Tab.put e.smp.turnCount s.tag ids.length
        master := Tab.put e.smp.master s.tag t
        copies := if e.isTail then Tab.put e.smp.copies s.tag t else e.smp.copies } }

/-- The last record of a session in a ring that ends its turn. -/
def lastEnd (recs : List (Nat × Nat × JRec)) (tag : Nat) : Option JRec :=
  (recs.reverse.find? fun r => match r.2.2 with
    | .release _ t .. => t == tag
    | .yield _ t .. => t == tag
    | .close k t .. => t == tag && k == 1
    | _ => false).map fun r => r.2.2

/-- What the records of a session that a ring holds tell of its emissions, as they are walked from the oldest on: POSITION
reached, whether a turn is open, the instar of its last COMMIT, the tokens that records brought (first position, count, kind:
0 a COMMIT, else KIND of the ADMIT, TURN_SEQ), and the YIELD and END records with their POSITION. -/
structure RingWalk where
  pos : Nat
  isOpen : Bool := false
  instar : Nat := 0
  segs : List (Nat × Nat × Nat × Nat) := []
  ends : List (Nat × Bytes) := []

/-- Sampled tokens of the turn that ends at `pos`. -/
def sampledTo (log : List Nat) (pos : Nat) : Nat := (sampledEnd (log.take pos)).length

def RingWalk.step (log : List Nat) (w : RingWalk) : JRec → RingWalk
  | .admitted kind _ _ _ _ turn _ _ _ _ _ _ _ _ tokens =>
    { w with pos := w.pos + tokens.length, isOpen := decide (kind ≠ 0), instar := 0
             segs := if kind = 0 then w.segs else w.segs ++ [(w.pos, tokens.length, kind, turn)] }
  | .commit _ pos instar _ turn ids =>
    { w with pos := pos + ids.length, isOpen := true, instar := instar, segs := w.segs ++ [(pos, ids.length, 0, turn)] }
  | .release reason t pos instar turn n =>
    { w with isOpen := false, ends := w.ends ++ [(pos, endBytes reason t pos n instar turn)] }
  | .yield loc t pos instar tool turn _ =>
    { w with isOpen := false, ends := w.ends ++ [(pos, yieldBytes loc tool t pos instar turn)] }
  | .close kind t _ _ turn =>
    let b (reason instar : Nat) : Nat × Bytes := (w.pos, endBytes reason t w.pos (sampledTo log w.pos) instar turn)
    if kind = 1 then { w with isOpen := false, ends := w.ends ++ [b 6 0] }
    else if w.isOpen then { w with isOpen := false, ends := w.ends ++ [b 7 w.instar] }
    else w
  | _ => w

/-- How many tokens a record brought. -/
def JRec.tokenCount : JRec → Nat
  | .admitted (tokens := ts) .. => ts.length
  | .commit (ids := ids) .. => ids.length
  | _ => 0

/-- The walk over a session's records in a ring; the first of them begins where those before it left POSITION. -/
def ringWalk (recs : List (Nat × Nat × JRec)) (s : Summary) (log : List Nat) : RingWalk :=
  let mine := (recs.map fun r => r.2.2).filter fun r => r.tag? == some s.tag
  mine.foldl (RingWalk.step log) { pos := s.position - sumN (mine.map JRec.tokenCount) }

/-- The emission state rebuilt from a summary, its log and the records of a ring: everything past ACKED (R262, R263). Prompt
tokens were never released, and neither were the tokens of a client's RESUME, which the ring tells from a local tool's
result. What the ring no longer holds is rebuilt from the log alone: its YIELD and END records are not, and its tool-result
tokens all are (log entry 62). -/
def rebuildEmit (s : Summary) (pid : Nat) (log : List Nat) (recs : List (Nat × Nat × JRec)) (now : Nat) : Emit :=
  let first := match s.acked with | some a => a + 1 | none => 0
  let w := ringWalk recs s log
  let seg (p : Nat) := w.segs.find? fun g => decide (g.1 ≤ p ∧ p < g.1 + g.2.1)
  let was (p : Nat) : Bool := logMark (log.getD p 0) != 0 && ((seg p).map fun g => g.2.2.1) != some 2
  let released := (List.range log.length).filter was
  let toks := (released.filter fun p => decide (first ≤ p)).map fun p =>
    let v := log.getD p 0
    (p, v % 2 ^ 20, b2n (logMark v == allOnes44), logMark v, ((seg p).map fun g => g.2.2.2).getD s.turnSeq)
  { pid := pid, toks := toks, lastPos := released.getLast?, lastTerm := w.ends.getLast?.map Prod.fst,
    terminals := w.ends.filter (fun k => decide (first < k.1 ∨ (first = k.1 ∧ ¬ s.termAcked))), lastSent := now }

/-! ## A session enters the directory from its summary -/

/-- A salt slot without an epoch record takes the record of the epoch of its own number (log entry 63). -/
def Eng.needSlot (e : Eng) (tag : Nat) : Eng :=
  let p := tagGen tag % 4
  if (Tab.get? e.dir.slots p).isSome then e
  else
    let r : EpochRec := { epoch := p, k1 := e.epochKey p, mask := 0xF - e.dir.failed % 16 }
    { e with dir := { e.dir with slots := Tab.put e.dir.slots p r } }

/-- Makes the reservation of a rebuilt turn without a test, and counts one that the test would refuse (R275). -/
def Eng.rebuildResv (e : Eng) (s : Summary) : Eng :=
  if e.kindOf s.dclass = 0 then e.startTurn s.tag s.turnSeq s.dclass s.model s.tenant s.tIn s.position
  else
    let (bad, e) := e.admissionTest false s.dclass s.model s.position
    let e := { e with twm := { e.twm with adoptRefused := e.twm.adoptRefused + b2n bad.isSome } }
    e.startTurn s.tag s.turnSeq s.dclass s.model s.tenant s.tIn s.position

/-- The instar of the YIELD that a session waits on. -/
def yieldInstar (recs : List (Nat × Nat × JRec)) (tag d : Nat) : Nat :=
  match lastEnd recs tag with
  | some (.yield _ _ _ instar ..) => instar
  | _ => d

/-- T_YIELD of the YIELD that a session waits on; 0 for none. -/
def yieldTime (recs : List (Nat × Nat × JRec)) (tag : Nat) : Nat :=
  match lastEnd recs tag with
  | some (.yield _ _ _ _ _ _ tYield) => tYield
  | _ => 0

/-- A session enters this Lead's directory and stores from its summary, log and producer id; `recs` is the ring that its
records lie in. It is no insertion of R62, whose inserts are DLN's (03 R61). DESIGN CHOICE: LAST_ACT, which no summary holds
and R59 does not treat here, becomes the present time (log entry 124). -/
def Eng.enterSession (e : Eng) (recs : List (Nat × Nat × JRec)) (s : Summary) (pid : Nat) (log : List Nat) : Eng :=
  let tag := s.tag
  let e := e.needSlot tag
  let st := e.tst s.tenant
  let e := e.setTst s.tenant { st with live := st.live + 1 }
  let x := Entry.fromSummary { tag := tag, lastAct := actTime e.now } s
  let e := e.putEntry x
  let e := { e with twm := { e.twm with
    sums := Tab.put e.twm.sums tag s, logs := Tab.put e.twm.logs tag log
    durSums := Tab.put e.twm.durSums tag s, durLogs := Tab.put e.twm.durLogs tag log
    emits := Tab.put e.twm.emits tag (rebuildEmit s pid log recs e.now)
    closed := if x.state == SState.closing then tag :: e.twm.closed else e.twm.closed } }
  let e := e.rebuildTurn s log
  let e := if x.state == .queued then e.rebuildResv s else e
  if x.state == .yielded && (e.localTool x.toolId).isSome then
    e.callTool (yieldInstar recs tag e.cmp.last) tag x.toolId
  else e

/-! ## Producer windows (R81, R275) -/

/-- Adds mirrored sequences to the windows of the producers that their slots bind. -/
def Eng.rebuildWindows (e : Eng) (ws : List (Nat × Nat × Nat)) : Eng :=
  ws.reverse.foldl (fun e w =>
    let slot := w.1 % 65536
    if (Tab.getD e.img.producers slot {}).id ≠ w.1 then e
    else
      let (v, p) := windowCheck (e.win slot) w.2.1
      if v ≠ .new then e
      else
        let p := { p with pending := p.pending.filter (· ≠ w.2.1) }
        let e := e.setWin slot p
        { e with ing := { e.ing with outcomes := Tab.put e.ing.outcomes (outcomeKey slot w.2.1) w.2.2 } }) e

/-! ## Block ownership -/

/-- The indices of block `b` that hold no live session. -/
def Eng.freeOfBlock (e : Eng) (b : Nat) : List FreeRun :=
  ((List.range 256).filter fun i => !(e.live.any fun x => tagIndex x.tag == b * 256 + i)).map fun i => .one (b * 256 + i)

/-- The free runs of the blocks that (base, plus, minus) owns, with single indices for the blocks that hold live
sessions. -/
def Eng.freeOfOwned (e : Eng) (base : Nat) (plus minus : List Nat) : List FreeRun :=
  let runs : List FreeRun := match base with
    | 0 => [.blocks 0 2 32768 0] | 1 => [.blocks 1 2 32768 0] | 2 => [.blocks 0 1 65536 0] | _ => []
  let runs := minus.foldl (fun l b => l.flatMap (FreeRun.without b)) runs
  let runs := runs ++ plus.map fun b => .blocks b 0 1 0
  let busy := (e.live.map fun x => tagIndex x.tag / 256).dedup
  let runs := busy.foldl (fun l b => l.flatMap (FreeRun.without b)) runs
  let owns (b : Nat) : Bool :=
    ((match base with | 0 => b % 2 == 0 | 1 => b % 2 == 1 | 2 => true | _ => false) && !minus.contains b) || plus.contains b
  runs ++ (busy.filter owns).flatMap e.freeOfBlock

/-- The complement of an ownership. -/
def otherWing (o : Nat × List Nat × List Nat) : Nat × List Nat × List Nat :=
  ((match o.1 with | 0 => 1 | 1 => 0 | 2 => 3 | _ => 2), o.2.2, o.2.1)

/-- The adopting wing takes ownership of all blocks (03 R50). DESIGN CHOICE: their free indices go to the tail of the free
list in ascending order of blocks where a whole run is free, then those of the blocks with live sessions; R52 orders only
granted blocks (log entry 123). -/
def Eng.takeAllBlocks (e : Eng) : Eng :=
  if e.dir.ownBase = 2 ∧ e.dir.ownMinus = [] then e
  else
    let mine := (e.dir.ownBase, e.dir.ownPlus, e.dir.ownMinus)
    let o := otherWing mine
    { e with
      twm := { e.twm with ownBefore := some (e.twm.ownBefore.getD mine) }
      dir := { e.dir with free := e.dir.free ++ e.freeOfOwned o.1 o.2.1 o.2.2, ownBase := 2, ownPlus := [], ownMinus := [] } }

/-! ## Adoption (R275) -/

/-- Sessions with a turn in progress first, in T_IN order, then YIELDED ones, then the rest. -/
def adoptOrder (l : List Summary) : List Summary :=
  let rank (s : Summary) : Nat := match s.state with | .queued => 0 | .yielded => 1 | _ => 2
  sortBy (fun a b => decide (rank a < rank b ∨ (rank a = rank b ∧ (rank a ≠ 0 ∨ a.tIn ≤ b.tIn)))) l

/-- Sends MIGRATE for sessions whose partner chips may still answer (09 R234): QUEUED ones in composition key order, then
YIELDED ones by ECL_START. -/
def Eng.migrateAll (e : Eng) (tags : List Nat) : Eng :=
  if !e.twm.handshake then e
  else
    let xs := tags.filterMap e.find
    let q := e.inKeyOrder (xs.filter fun x => x.state == .queued)
    let y := sortBy (fun (a b : Entry) => decide (a.eclStart ≤ b.eclStart)) (xs.filter fun x => x.state == .yielded)
    let (e, sent) := (q ++ y).foldl (fun (st : Eng × List Nat) x =>
      let e := st.1
      if !e.canEnter x then st
      else
        let r := e.resEndOf x
        let ty := if x.state == .yielded then yieldTime e.twm.mirrorRecs x.tag else 0
        let e := (e.makeChr x.tag).modChr x.tag fun c => { c with resEnd := r, tYield := ty }
        (e.order 10 2 x.tag r, st.2 ++ [x.tag])) (e, [])
    if sent.isEmpty then e
    else
      Eng.raise { e with pln := { e.pln with migrating := e.pln.migrating ++ sent, migCount := sent.length, migShort := 0 } }
        0x86 1 0 [(16, 1, 0), (20, 4, sent.length)]

/-- Adopts sessions of the mirror. -/
def Eng.adopt (e : Eng) (ss : List Summary) : Eng :=
  let go := adoptOrder ss
  let t := e.twm
  let tags := go.map Summary.tag
  let e := e.raise 0xC2 2 0 [(16, 1, 0), (20, 4, go.length), (24, 4, t.term)]
  let e := e.rebuildWindows t.mirrorWin
  let e := { e with twm := { e.twm with mirror := t.mirror.filter fun p => !tags.contains p.1
                                        mirrorLogs := t.mirrorLogs.filter fun p => !tags.contains p.1
                                        mirrorPids := t.mirrorPids.filter fun p => !tags.contains p.1 } }
  let e := go.foldl (fun e s => e.enterSession t.mirrorRecs s (Tab.getD t.mirrorPids s.tag 0) (Tab.getD t.mirrorLogs s.tag [])) e
  let e := e.migrateAll tags
  let e := tags.foldl Eng.emitAgainNow e
  let e := { e with twm := { e.twm with adopted := go.length } }
  e.raise 0xC2 2 0 [(16, 1, 1), (20, 4, go.length), (24, 4, t.term)]

/-- Adopts every session of the partner and its blocks. -/
def Eng.adoptAll (e : Eng) : Eng :=
  let e := (e.adopt (Tab.vals e.twm.mirror)).takeAllBlocks
  { e with twm := { e.twm with mirrorRecs := [] } }

/-! ## Rebuild of a held session (R272, R278) -/

/-- The content that two copies of a summary are compared by. -/
def Summary.content (s : Summary) : Summary := { s with acked := none, termAcked := false, logAddr := 0 }

/-- Frames of a rebuilt session beyond its KV_LENGTH are freed, or, for one whose turn goes on, reserved as at its admission (09
R216, R229); none stay where the journal gives no KV state. -/
def Eng.rebuildFrames (e : Eng) (x : Entry) (kv : Nat) : Eng :=
  if (x.residency ≠ 1 ∧ x.residency ≠ 2) ∨ (e.leadMove x.tag).isSome then e
  else if kv = 0 then e.order 3 0 x.tag
  else
    let end_ := if x.state == .queued then e.resEndOf x else kv
    (e.modChr x.tag fun c => { c with resEnd := end_ }).order 8 2 x.tag end_

/-- Rebuilds a HELD session from the journal by the HELD row of Table 3-2. -/
def Eng.rebuildEntry (e : Eng) (x : Entry) : Eng :=
  let s := e.sum x.tag
  let run := e.dir.heldRun.contains x.tag
  let y := x.fromSummary s
  let kv := if run then 0 else min x.kvLen (s.position - 1)
  let e := { e with dir := { e.dir with heldRun := e.dir.heldRun.filter (· ≠ x.tag) } }
  let y := e.touched (e.lowered y kv)
  let e := e.putEntry y
  let e := if y.state == .yielded then e.modChr x.tag fun c => { c with tYield := yieldTime e.twm.journal x.tag } else e
  let e := if kv < x.kvLen then e.clampFar x.tag kv else e
  let e := e.rebuildTurn s (Tab.getD e.twm.logs x.tag [])
  let e := e.rebuildFrames y kv
  if y.state == .yielded && (e.localTool y.toolId).isSome then
    e.callTool (yieldInstar e.twm.journal x.tag e.cmp.last) x.tag y.toolId
  else e

/-- A rebuild of a HELD session, with the other copy of its summary (R278). -/
def Eng.rebuildSession (e : Eng) (tag : Nat) (other : Bytes) : Eng :=
  match e.find tag with
  | none => e
  | some x =>
    if x.state != .held || x.hold == 2 || x.moving || e.undurable tag || !(e.twm.wing == .paired || e.twm.wing == .solo) || e.twm.dual then e
    else
      let s := e.sum tag
      let o := Summary.parse other
      let whole := other.length == 64 && crcOk other 64
      if whole && o.lastTerm == s.lastTerm && o.lastIndex == s.lastIndex && o.content != s.content then
        let e := (e.putEntry { x with hold := 2 }).bump Reg.TWM_DIFFER 31 0 1
        e.raise 0xC5 2 tag [(16, 4, s.lastTerm), (24, 8, s.lastIndex)]
      else e.rebuildEntry x

/-! ## Give-back (R276) -/

/-- A session of a given-back block leaves this Lead: its summary and log go to the mirror. An IDLE session's frames are
freed; those of another serve its migration (log entry 64). -/
def Eng.surrenderSession (e : Eng) (x : Entry) : Eng :=
  let tag := x.tag
  let s := e.sum tag
  let log := Tab.getD e.twm.logs tag []
  let pid := (e.emitOf tag).pid
  let e := if x.state == .idle then e.order 6 0 tag else e
  let e := ((e.endResv tag).dropTurn tag x.turnSeq).cancelTool tag
  let st := e.tst x.tenant
  let e := e.setTst x.tenant { st with live := st.live - 1 }
  let e := (e.putEntry { tag := tag }).dropLeadMove tag
  { e with
    dir := { e.dir with heldRun := e.dir.heldRun.filter (· ≠ tag) }
    pln := { e.pln with chrys := Tab.del e.pln.chrys tag }
    smp := { e.smp with master := Tab.del e.smp.master tag, turnCount := Tab.del e.smp.turnCount tag }
    twm := { e.twm with sums := Tab.del e.twm.sums tag, logs := Tab.del e.twm.logs tag
                        durSums := Tab.del e.twm.durSums tag, durLogs := Tab.del e.twm.durLogs tag
                        emits := Tab.del e.twm.emits tag, closed := e.twm.closed.filter (· ≠ tag)
                        mirror := Tab.put e.twm.mirror tag s, mirrorLogs := Tab.put e.twm.mirrorLogs tag log
                        mirrorPids := Tab.put e.twm.mirrorPids tag pid } }

/-- The block is the partner's by the ownership before the adoption. -/
def partnersBlock (o : Nat × List Nat × List Nat) (b : Nat) : Bool :=
  !(((match o.1 with | 0 => b % 2 == 0 | 1 => b % 2 == 1 | 2 => true | _ => false) && !o.2.2.contains b) || o.2.1.contains b)

/-- The steps of a give-back that are due: TERM KIND 5 once no session to give back is staged, and the sessions leave once
it is durable. -/
def Eng.settleGiveBack (e : Eng) : Eng :=
  match e.twm.ownBefore with
  | none => { e with twm := { e.twm with giving := false } }
  | some o =>
    let theirs (x : Entry) : Bool := partnersBlock o (tagIndex x.tag / 256)
    match e.twm.givenAt with
    | some i =>
      if e.twm.durable < i then e
      else
        let e := (e.live.filter theirs).foldl Eng.surrenderSession e
        Eng.raise { e with twm := { e.twm with givenAt := none, giving := false, ownBefore := none } } 0xC3 1 0 [(16, 1, 3)]
    | none =>
      if !e.twm.giving || e.twm.wing != .paired || e.live.any (fun x => theirs x && e.isStaged x.tag) then e
      else
        let bs := (List.range 65536).filter fun b => partnersBlock o b && e.owns b
        let e := e.append 0 e.cmp.last [.term 5 e.twm.term e.twm.leader e.img.wing bs]
        { e with twm := { e.twm with givenAt := some e.twm.appended } }

end Sys2Proof.Machine
end

