-- ==== Sys2Proof/Machine/Twin.lean ====
section
/-! DEFINITION. Wing states (10 R264 to R278, Table 10-9), batches and acknowledgements, snapshots, restore (R279 to
R282), the flush and trail of the journal (12 R341, R342), and shedding (11 R309). -/

namespace Sys2Proof.Machine

/-! ## Leaving service (R268, R270, R273, R277) -/

/-- Instars in flight are dropped uncommitted. -/
def Eng.dropFlights (e : Eng) : Eng :=
  { e with cmp := { e.cmp with flights := [], sealWait := none, recompose := true, heldDesc := none
                               draft := { e.cmp.draft with running := false } }
           dir := { e.dir with staged := [] }
           smp := { e.smp with merged := [] } }

/-- Discards every record that is not durable (R270): summaries and logs go back to the last durable record, and the
sequences of unanswered records are as if never seen (log entry 65). Its indices are not used again (R251). -/
def Eng.discardUndurable (e : Eng) : Eng :=
  let t := e.twm
  let keep (tag : Nat) (s : Summary) : Summary :=
    match Tab.get? t.sums tag with
    | some c => { s with acked := c.acked, termAcked := if c.lastIndex = s.lastIndex then c.termAcked else s.termAcked }
    | none => s
  let lost := (t.answers.filter fun a => decide (t.durable < a.index)) ++ t.admits.filterMap Admission.answer
  let e := lost.foldl (fun e a =>
    let slot := u32 a.raw 4 % 65536
    let seq := u64 a.raw 8
    let w := e.win slot
    e.setWin slot { w with seen := w.seen.filter (· ≠ seq), pending := w.pending.filter (· ≠ seq) }) e
  Eng.unwithhold { e with
    ing := { e.ing with amends := e.ing.amends.filter fun a => decide (a.jindex ≠ 0 ∧ a.jindex ≤ t.durable) }
    twm := { e.twm with
      batches := [], admits := [], answers := t.answers.filter fun a => decide (a.index ≤ t.durable)
      journal := t.journal.filter fun r => decide (r.2.1 ≤ t.durable)
      heads := t.heads.filter fun h => decide (h.1 ≤ t.durable)
      commits := t.commits.filter fun c => decide (c.index ≤ t.durable)
      sums := Tab.mapVals t.durSums keep, logs := t.durLogs, endOnClose := [], givenAt := none } }

/-- The wing enters FENCED. `cause`: 0 higher term, 1 DENY, 2 lease ended, 3 T3 journal target failed. -/
def Eng.fence (e : Eng) (cause seen : Nat) : Eng :=
  if e.twm.wing == .fenced then e
  else
    let held := e.twm.lease.isSome && cause == 3
    let e := e.discardUndurable.dropFlights
    let e := { e with twm := { e.twm with wing := .fenced, lease := none, wanted := none, feed := false, catchUp := none
                                          snap := none, snapForTwin := false, reading := 0, retryAt := e.now } }
    let e := if held then e.releaseLease else e
    e.raise 0xC8 2 0 [(16, 1, cause), (20, 4, seen)]

/-- Both wings hold the same term with different leaders (R277). -/
def Eng.dualLead (e : Eng) (theirs : Nat) : Eng :=
  if e.twm.dual then e
  else
    Eng.raise { e with twm := { e.twm with dual := true } } 0xC4 3 0
      [(16, 1, e.twm.leader), (17, 1, theirs), (20, 4, e.twm.term)]

/-- The Lead compares a term and a leader it sees with its own (R273, R277). A wing that reintegrates, or holds no term as
yet, takes the higher term instead of entering FENCED (log entry 66). -/
def Eng.seeTerm (e : Eng) (term leader : Nat) : Eng :=
  if !e.isLead then e
  else
    let own := e.twm.term
    if own < term then
      if e.twm.wing == .reintegrating || own == 0 then { e with twm := { e.twm with term := term, leader := leader } }
      else e.fence 0 term
    else if term = own ∧ term ≠ 0 ∧ leader ≠ e.twm.leader then e.dualLead leader
    else e

/-- The Lead enters HANDOVER for a failed engine of its flutter: no more composing, admission and release; the partner is
told, or the witness on its behalf (R128, R274). -/
def Eng.enterHandover (e : Eng) (rank : Nat) : Eng :=
  let e := e.dropFlights
  let e := { e with twm := { e.twm with wing := .handover, snap := none }, cmp := { e.cmp with stopped := true } }
  let e := e.send (.twin (e.handoverBytes rank))
  if e.twm.handshake then e else e.askWitness 2 (1 - e.img.wing) false

/-- The twin is lost: cause 0 link down, 1 acknowledgement timeout (R256, R268, R269). -/
def Eng.loseTwin (e : Eng) (cause : Nat) : Eng :=
  let was := e.twm.handshake
  let e := { e with twm := { e.twm with handshake := false }, dir := { e.dir with asked := false } }
  let e := if was ∨ cause = 1 then e.raise 0xC0 3 0 [(16, 1, cause), (20, 4, e.twm.term)] else e
  if !e.isLead then
    let fresh (b : Batch) : Batch := { b with sent := false }
    Eng.pumpJournal { e with twm := { e.twm with twinLost := true, batches := e.twm.batches.map fresh } }
  else match e.twm.wing with
    | .paired =>
      let e := { e with twm := { e.twm with wing := .seeking, seekSince := e.now, feed := false, catchUp := none,
                                            snapForTwin := false } }
      e.askWitness 1 e.img.wing false
    | .solo => { e with twm := { e.twm with feed := false, catchUp := none, snapForTwin := false } }
    | .handover => e.askWitness 2 (1 - e.img.wing) false
    | _ => e

/-! ## Entering service -/

/-- Every batch that is not durable is launched again. -/
def Eng.relaunch (e : Eng) : Eng :=
  let fresh (b : Batch) : Batch := { b with sent := false }
  Eng.pumpJournal { e with twm := { e.twm with batches := e.twm.batches.map fresh } }

/-- The pause of R272 ends: the sessions are rebuilt by the commands that follow. -/
def Eng.endPause (e : Eng) : Eng :=
  if !e.twm.paused then e
  else
    let n := (e.live.filter fun x => x.state == .held && x.hold == 4).length
    Eng.raise { e with twm := { e.twm with paused := false } } 0xC6 3 0 [(16, 1, 0), (20, 4, n)]

/-- A journaled TERM record of this wing (Table 10-3), which names `term`. -/
def Eng.appendTerm (e : Eng) (kind term : Nat) : Eng := e.append 0 e.cmp.last [.term kind term e.twm.leader e.img.wing []]

/-- A PAIRED wing raises the pair's term (R267). The TERM record that tells the partner goes under the term before, so that
the partner, whose batches must bear its own term (R255), takes it and does not see a higher one in its header (R273; log
entry 125). -/
def Eng.raiseTerm (e : Eng) (kind term : Nat) : Eng :=
  let e := e.append 0 e.cmp.last [.term kind (max e.twm.term term) e.img.wing e.img.wing []]
  { e with twm := { e.twm with term := max e.twm.term term, leader := e.img.wing } }

/-- The pair forms: wing 0 asks for the first term. -/
def Eng.formPair (e : Eng) : Eng :=
  let e := { e with twm := { e.twm with wing := .paired, retryAt := e.now } }
  if e.img.wing = 0 then e.askWitness 0 0 false else e

/-- A FENCED wing that goes to SOLO keeps its directory: each session is as its summary says after the discard, and one
whose OPEN was discarded leaves. -/
def Eng.rebuildFenced (e : Eng) : Eng :=
  e.live.foldl (fun e x =>
    match Tab.get? e.twm.sums x.tag with
    | none => e.freeSessionEntry x
    | some s =>
      if x.state == .held then e
      else
        let y := x.fromSummary s
        let e := e.putEntry { y with kvLen := min x.kvLen (s.position - 1) }
        let e := e.rebuildTurn s (Tab.getD e.twm.logs x.tag [])
        if y.state == .queued && (Tab.get? e.dln.turns (turnKey x.tag s.turnSeq)).isNone then e.rebuildResv s else e) e

/-- SOLO service begins with a lease counted from `sent` (R267, Table 10-9): TERM KIND 2 goes to T3 with every record that
is not durable, and the partner's T3 journal is read. -/
def Eng.enterSolo (e : Eng) (sent : Nat) : Eng :=
  let e := if e.twm.wing == .fenced then e.rebuildFenced else e
  let guard := e.param 0x0C03 * 1000000
  let e := { e with twm := { e.twm with wing := .solo, lease := some (sent + 2000000000 - guard), retryAt := sent, reading := 3 } }
  let e := e.endPause.relaunch.appendTerm 2 e.twm.term
  e.send (.far (.read e.img.layout.t3Journal 3))

/-! ## Answers of the witness (R265, R267) -/

/-- A witness message of 64 bytes for this pair whose MAC holds; one whose MAC fails, or that comes from another address than the
witness's (14 R395), is counted. -/
def Eng.witnessOk (e : Eng) (d : Datagram) (typ : Nat) : Bool × Eng :=
  let b := d.body
  if d.src = e.img.layout.witnessIp ∧ b.length = 64 ∧ slice b 48 16 = e.witnessMac b then (u8 b 0 == typ && u32 b 4 == e.img.pairId, e)
  else (false, e.bump Reg.TWM_WITNESS 31 24 1)

/-- Takes the request that an answer's NONCE names. -/
def Eng.answered (e : Eng) (nonce : Nat) : Option WReq × Eng :=
  match e.twm.requests.find? fun r => r.nonce == nonce with
  | none => (none, e)
  | some r =>
    let rest := e.twm.requests.filter fun q => q ≠ r
    let w := match e.twm.wanted with
      | some q => if q.renew = r.renew ∧ q.reason = r.reason ∧ q.wing = r.wing then none else some q
      | none => none
    (some r, { e with twm := { e.twm with requests := rest, wanted := w } })

/-- GRANT (R267, Table 10-9). -/
def Eng.takeGrant (e : Eng) (d : Datagram) : Eng :=
  let b := d.body
  let (ok, e) := e.witnessOk d 0x81
  if !ok || !e.isLead then e
  else match e.answered (u32 b 12) with
    | (none, e) => e
    | (some r, e) =>
      let term := u32 b 8
      let guard := e.param 0x0C03 * 1000000
      if r.renew then
        if e.twm.wing == .solo then { e with twm := { e.twm with lease := some (r.at_ + 2000000000 - guard) } } else e
      else
        let e := e.raise 0xC1 2 0 [(16, 1, 0), (17, 1, u8 b 1), (20, 4, term)]
        if r.wing ≠ e.img.wing then e
        else
          let raised := { e with twm := { e.twm with term := max e.twm.term term, leader := e.img.wing } }
          match e.twm.wing with
          | .seeking | .fenced => raised.enterSolo r.at_
          | .solo => { raised with twm := { raised.twm with lease := some (r.at_ + 2000000000 - guard) } }
          | .start | .paired =>
            let e := (e.raiseTerm (match r.reason with | 0 => 0 | 2 => 4 | _ => 3) term).releaseLease
            if r.reason = 2 then e.adoptAll else e
          | .handover | .reintegrating => raised.releaseLease

/-- DENY (R267, R273, Table 10-9). -/
def Eng.takeDeny (e : Eng) (d : Datagram) : Eng :=
  let b := d.body
  let (ok, e) := e.witnessOk d 0x82
  if !ok || !e.isLead then e
  else match e.answered (u32 b 12) with
    | (none, e) => e
    | (some r, e) =>
      let term := u32 b 8
      let e := (e.bump Reg.TWM_WITNESS 23 16 1).raise 0xC1 2 0 [(16, 1, 1), (17, 1, u8 b 1), (20, 4, term)]
      let higher (e : Eng) : Eng :=
        if e.twm.wing != .reintegrating && e.twm.term != 0 && decide (e.twm.term < term) then e.fence 0 term else e
      match e.twm.wing with
      | .seeking => if r.wing = e.img.wing then e.fence 1 term else higher e
      | .solo => if r.renew then e.fence 1 term else higher e
      | _ => higher e

/-- A request that has had no answer within WITNESS_RTT_MS is sent again with a new NONCE, while its answer is wanted. -/
def Eng.retryWitness (e : Eng) : Eng :=
  match e.twm.wanted with
  | none => e
  | some r =>
    let w := e.twm.wing
    let wants := match r.reason with
      | 1 => w == .seeking
      | 3 => w == .fenced
      | 0 => w == .paired || w == .start
      | _ => w == .paired || w == .handover
    let wants := if r.renew then w == .solo else wants
    if !wants then { e with twm := { e.twm with wanted := none } }
    else if e.now < r.at_ + e.param 0x0C02 * 1000000 then e
    else e.askWitness r.reason r.wing r.renew

/-- The holder renews its lease every 500 ms. -/
def Eng.renewLease (e : Eng) : Eng :=
  if e.twm.wing == .solo && e.twm.lease.isSome && decide (e.twm.retryAt + 500000000 ≤ e.now) then
    Eng.askWitness { e with twm := { e.twm with retryAt := e.now } } 0 e.img.wing true
  else e

/-- The lease ends without a renewed GRANT. -/
def Eng.leaseOver (e : Eng) : Eng :=
  match e.twm.lease with
  | none => e
  | some t =>
    if e.now < t then e
    else (e.raise 0xC1 2 0 [(16, 1, 2), (17, 1, e.img.wing), (20, 4, e.twm.term)]).fence 2 e.twm.term

/-- A FENCED wing asks every 500 ms. -/
def Eng.askFenced (e : Eng) : Eng :=
  if e.twm.wing == .fenced && !e.twm.dual && decide (e.twm.retryAt + 500000000 ≤ e.now) then
    Eng.askWitness { e with twm := { e.twm with retryAt := e.now } } 3 e.img.wing false
  else e

/-- 30 s of SEEKING without an answer: every session is held (R272). -/
def Eng.pauseSeeking (e : Eng) : Eng :=
  if e.twm.wing != .seeking || e.twm.paused || decide (e.now < e.twm.seekSince + 30000000000) then e
  else
    let go := e.live.filter fun x => x.state != .held && x.state != .closing
    let e := go.foldl (fun e x => e.hold x.tag 4) e
    Eng.raise { e with twm := { e.twm with paused := true } } 0xC6 3 0 [(16, 1, 1), (20, 4, go.length)]

/-! ## Snapshots (R279 to R281) -/

/-- A snapshot is asked for; none starts while another is being cut or written, or in a hold-up. -/
def Eng.requestSnap (e : Eng) : Eng :=
  if !e.isLead || !e.up || e.twm.snap.isSome || e.stopping then e
  else { e with twm := { e.twm with snap := some { state := 1 }, lastSnap := e.now, snapFailed := false } }

/-- The bytes of a SNAP_DATA message (14 Table 14-4). -/
def snapDataBytes (rank offset : Nat) (b : Bytes) : Bytes :=
  layout 64 [(0, 1, 0x40), (4, 4, rank), (8, 8, offset), (16, 4, b.length)] ++ b

/-- Cuts a snapshot after instar `i` and the record of index `j`. The newest pages of the token logs, which are not full, are
written out beside the shard, whose page tables name them (R253, R280; log entry 126). -/
def Eng.cutAt (e : Eng) (i j : Nat) : Eng :=
  let b := e.shardBytes
  let s : Snap := { state := 2, instar := i, j := j, term := e.twm.term, shard := b, left := List.range e.img.n,
                    forTwin := e.twm.snapForTwin }
  let newest := e.twm.logs.filterMap fun p =>
    if p.2.length % 512 = 0 then none else some (Out.far (.logPage e.img.layout.t3Journal p.1 (p.2.length / 512)))
  let e := (Eng.sendAll { e with twm := { e.twm with snap := some s } } newest).send
    (.far (.snapshot e.img.layout.t3Snapshot b.length))
  if s.forTwin then e.send (.twin (snapDataBytes e.img.rank 0 b)) else e

/-- Cuts a snapshot at an instar boundary: at the commit made in this command, or, with no instar in flight and nothing
journaled since, at the last one (R279). -/
def Eng.cutSnap (e : Eng) : Eng :=
  match e.twm.snap with
  | some { state := 1, .. } =>
    match e.twm.boundary with
    | some (i, j) => if j = e.twm.appended then e.cutAt i j else e
    | none => if e.inFlight.isNone && e.twm.lastCommit.2 == e.twm.appended then e.cutAt e.twm.lastCommit.1 e.twm.appended else e
  | _ => e

/-- A Member or Tail writes its shard and sends it to its twin (R276, R279, R280). No message names the Lead's instar to it:
it writes at its own times (log entry 127). -/
def Eng.cutShard (e : Eng) : Eng :=
  let b := e.shardBytes
  (Eng.send { e with twm := { e.twm with lastSnap := e.now } } (.far (.snapshot e.img.layout.t3Snapshot b.length))).send
    (.twin (snapDataBytes e.img.rank 0 b))

/-- SNAP_PERIOD_S has passed since the last snapshot (R279). -/
def Eng.snapTick (e : Eng) : Eng :=
  if e.now < e.twm.lastSnap + e.param 0x0C05 * 1000000000 then e
  else if e.isLead then e.requestSnap
  else e.cutShard

/-- The header of the batch that the record of index `i` lies in. -/
def Eng.headOf (e : Eng) (i : Nat) : Option (Nat × Nat × Nat × Nat) := (e.twm.heads.filter fun h => decide (h.1 ≤ i)).getLast?

/-- Batches rebuilt from the ring's records from `first` to `last`, as they were first sent: each with its KIND, term, leader
and instar (R251); the first may begin inside one. -/
def Eng.batchesFrom (e : Eng) (first last : Nat) : List Batch :=
  let rs := e.twm.journal.filter fun r => decide (first ≤ r.2.1 ∧ r.2.1 ≤ last)
  ((rs.filterMap fun r => e.headOf r.2.1).dedup).filterMap fun h =>
    let g := rs.filter fun r => e.headOf r.2.1 == some h
    let recs := g.map fun r => r.2.2
    g.head?.map fun r =>
      { kind := h.2.1, term := r.1, leader := h.2.2.2, first := r.2.1, recs := recs, instar := h.2.2.1, launch := e.now,
        crc := crc32c (recs.flatMap JRec.bytes), sent := true }

/-- The snapshot is complete (R281): its records may be reclaimed. A returning twin is sent the manifest and the journal
after it (R276). -/
def Eng.snapDone (e : Eng) (s : Snap) : Eng :=
  let m := e.manifest s
  let e := (e.raise 0xC7 1 0 [(16, 1, 0), (20, 4, s.instar % 2 ^ 32), (24, 1, e.img.n)]).bump Reg.TWM_SNAP_STATUS 15 0 1
  let e := Eng.reclaimRing { e with twm := { e.twm with
    snap := none, snapInstar := s.instar, t3Flushed := max e.twm.t3Flushed s.j, covered := s.j } }
  if !e.twm.handshake then e
  else
    let e := e.send (.twin (snapDataBytes 0xFFFFFFFF 0 m))
    if !s.forTwin then e
    else
      let e := { e with twm := { e.twm with feed := true, catchUp := some e.twm.appended, snapForTwin := false } }
      (e.batchesFrom (s.j + 1) e.twm.appended).foldl (fun e b => e.send (.twin (e.batchBytes b))) e

/-- A write of a snapshot ends: the shard of `rank`, or the manifest where `rank` names no engine. `rep` reports a shard's
length, offset and digest; it is absent where the write failed. -/
def Eng.snapWritten (e : Eng) (rank : Nat) (rep : Option Bytes) : Eng :=
  match e.twm.snap with
  | none => e
  | some s =>
    if s.state ≠ 2 then e
    else match rep with
    | none =>
      Eng.raise { e with twm := { e.twm with snap := none, snapFailed := true } } 0xC7 1 0
        [(16, 1, 1), (20, 4, s.instar % 2 ^ 32), (24, 1, e.img.n)]
    | some b =>
      if e.img.n ≤ rank then (if s.left.isEmpty then e.snapDone s else e)
      else
        let left := s.left.filter (· ≠ rank)
        let e := { e with twm := { e.twm with snap := some { s with left := left, parts := Tab.put s.parts rank b } } }
        if left.isEmpty ∧ s.left ≠ [] then e.send (.far (.snapshot e.img.layout.t3Snapshot (64 + 64 * e.img.n))) else e

/-- A snapshot being cut or written when a hold-up warning arrives is abandoned (12 R341). -/
def Eng.abandonSnap (e : Eng) : Eng := { e with twm := { e.twm with snap := none } }

/-! ## Reintegration and restore (R276, R282) -/

/-- A wing that reintegrates drops its directory, journal and mirror; its chips free the sessions' pages. -/
def Eng.dropAll (e : Eng) : Eng :=
  let e := e.dropFlights
  let e := e.live.foldl (fun e x => e.order 6 0 x.tag) e
  { e with
    dir := { e.dir with entries := [], free := [], ownBase := 3, ownPlus := [], ownMinus := [], cache := [], fills := [],
                        heldRun := [], asked := false, granting := [], winCount := [], nextCount := [] }
    ing := { e.ing with windows := [], outcomes := [], waiting := [], looking := [], reading := [], amends := [] }
    ldg := { e.ldg with tenants := Tab.mapVals e.ldg.tenants fun _ (s : TenantSt) => { s with live := 0 } }
    dln := { e.dln with resv := [], turns := [] }
    smp := { e.smp with master := [], turnCount := [], tools := [] }
    pln := { e.pln with chrys := [], leadMoves := [], toLearn := [], matching := [], matched := [], migrating := [],
                        waitUses := [] }
    twm := { e.twm with batches := [], admits := [], unreleased := [], journal := [], heads := [], durable := e.twm.appended,
                        answers := [], commits := [], sums := [],
                        logs := [], durSums := [], durLogs := [], mirror := [], mirrorLogs := [], mirrorRecs := [],
                        mirrorPids := [], mirrorWin := [], emits := [], ackDirty := [], closed := [], endOnClose := [],
                        ownBefore := none, giving := false, givenAt := none, rx := [], loadedAt := none } }

/-- The wing starts to reintegrate. -/
def Eng.reintegrate (e : Eng) : Eng :=
  let e := e.dropAll
  let e := { e with twm := { e.twm with wing := .reintegrating, wanted := none, paused := false } }
  (e.raise 0xC3 1 0 [(16, 1, 0)]).send (.twin e.helloBytes)

/-- The manifest's place in `rx`. -/
def manifestKey : Nat := 0xFFFFFFFF

/-- The shard of this engine that is being loaded. -/
def Eng.rxShard (e : Eng) : Shard' := readShard (Tab.getD e.twm.rx e.img.rank [])

/-- The returning wing is caught up: it has acknowledged a batch launched after the manifest came (R276, log entry 96). -/
def Eng.backInPair (e : Eng) : Eng :=
  if e.twm.wing == .reintegrating && e.twm.loadedAt.isSome && decide (e.twm.rxAt < e.twm.rxLaunch) then
    Eng.raise { e with twm := { e.twm with wing := .paired } } 0xC3 1 0 [(16, 1, 2)]
  else e

/-- A returning wing loads the live wing's snapshot into its mirror, with the logs whose pages it has read; it takes the
blocks that the snapshot leaves it, and what the shard holds of the ledger, the wait records and the AMENDs (R280). -/
def Eng.loadSnap (e : Eng) (logs : Tab (List Nat)) : Eng :=
  let s := e.rxShard
  let j := u64 (Tab.getD e.twm.rx manifestKey []) 24
  let o := otherWing (s.ownBase, s.ownPlus, s.ownMinus)
  let wins := s.windows.flatMap fun w =>
    let id := (Tab.getD e.img.producers w.1 {}).id
    (w.2.seen.filter fun q => !w.2.pending.contains q).map fun q => (id, q, Tab.getD s.outcomes (outcomeKey w.1 q) 0)
  let put (t : Twm) (x : ShardSession) : Twm :=
    { t with mirror := Tab.put t.mirror x.sum.tag x.sum, mirrorPids := Tab.put t.mirrorPids x.sum.tag x.pid,
             mirrorLogs := Tab.put t.mirrorLogs x.sum.tag (Tab.getD logs x.sum.tag []) }
  let t := s.sessions.foldl put { e.twm with mirrorWin := wins }
  let rec_ (t : Twm) (r : Nat × Nat × JRec) : Twm :=
    if r.2.1 = t.mirrorNext then { t.mirrorRec r with mirrorRecs := t.mirrorRecs ++ [r], mirrorNext := r.2.1 + 1 } else t
  let t := e.twm.mirrorRecs.foldl rec_ { t with mirrorRecs := [], mirrorNext := j + 1 }
  let e := { e with
    twm := { t with rx := [], reading := 0, loadedAt := some e.now }
    ldg := { e.ldg with tenants := Tab.mapVals s.tenants fun _ (x : TenantSt) => { x with live := 0 } }
    ing := { e.ing with amendSeq := max e.ing.amendSeq s.amendSeq }
    pln := { e.pln with waits := s.waits } }
  let e := { e with dir := { e.dir with ownBase := o.1, ownPlus := o.2.1, ownMinus := o.2.2
                                        free := e.freeOfOwned o.1 o.2.1 o.2.2 } }
  (e.raise 0xC3 1 0 [(16, 1, 1)]).backInPair

/-- The log pages that the page tables of the shard name are read from T3, where both wings reach them (R247, R253, R280). -/
def Eng.readLogPages (e : Eng) : Eng :=
  Eng.send { e with twm := { e.twm with reading := 4 } } (.far (.read e.img.layout.t3Journal 4))

/-- SNAP_DATA: shard bytes, or the manifest (shard 0xFFFF_FFFF). A wing in service reclaims its mirror by a manifest
(R281); an engine other than the Lead takes its amended parameters. -/
def Eng.takeSnapData (e : Eng) (b : Bytes) : Eng :=
  if b.length < 64 ∨ b.length ≠ 64 + u32 b 16 then e
  else
    let rank := u32 b 4
    let body := b.drop 64
    if !e.isLead then
      if rank = e.img.rank ∧ 12 ≤ body.length then
        { e with ing := { e.ing with amendSeq := u64 body 0 }, pgv := { e.pgv with cap := u32 body 8 } }
      else e
    else if rank = manifestKey then
      if e.twm.wing == .reintegrating && e.twm.loadedAt.isNone && e.twm.reading != 4 then
        if e.manifestOk body e.twm.rx then
          Eng.readLogPages { e with twm := { e.twm with rx := Tab.put e.twm.rx manifestKey body, rxAt := e.now } }
        else { e with twm := { e.twm with rx := [] } }
      else if crcOk (body.take 64) 64 && e.twm.wing != .reintegrating then
        { e with twm := { e.twm with mirrorRecs := e.twm.mirrorRecs.filter fun r => decide (u64 body 24 < r.2.1) } }
      else e
    else if e.twm.wing == .reintegrating && e.twm.loadedAt.isNone && e.twm.reading != 4 then
      let old := Tab.getD e.twm.rx rank []
      { e with twm := { e.twm with rx := Tab.put e.twm.rx rank (old.take (u64 b 8) ++ body) } }
    else e

/-- The live wing sees that its partner is caught up: it leaves SOLO, or stays PAIRED, and gives back (R276). -/
def Eng.partnerBack (e : Eng) : Eng :=
  let solo := e.twm.wing == .solo
  let e := { e with twm := { e.twm with feed := false, catchUp := none, giving := decide (e.param 0x0C04 = 1) } }
  let e := if solo then
      let e := Eng.appendTerm { e with twm := { e.twm with wing := .paired } } 3 e.twm.term
      e.releaseLease.relaunch
    else e
  e.raise 0xC3 1 0 [(16, 1, 2)]

/-- Restores this wing from the Lead's shard that was read, with the logs whose pages were read after it (R282). -/
def Eng.restoreShard (e : Eng) (logs : Tab (List Nat)) : Eng :=
  let s := e.rxShard
  let j := u64 (Tab.getD e.twm.rx manifestKey []) 24
  let put (t : Twm) (x : ShardSession) : Twm :=
    { t with sums := Tab.put t.sums x.sum.tag x.sum, logs := Tab.put t.logs x.sum.tag (Tab.getD logs x.sum.tag []),
             emits := Tab.put t.emits x.sum.tag { pid := x.pid } }
  let t := s.sessions.foldl put e.twm
  { e with
    twm := { t with appended := j, durable := j, t3Flushed := j, covered := j, rx := [] }
    ldg := { e.ldg with tenants := Tab.mapVals s.tenants fun _ (x : TenantSt) => { x with live := 0 } }
    ing := { e.ing with windows := s.windows, outcomes := s.outcomes, amendSeq := s.amendSeq }
    pgv := { e.pgv with cap := s.cap }
    dir := { e.dir with ownBase := s.ownBase, ownPlus := s.ownPlus, ownMinus := s.ownMinus, free := s.free }
    pln := { e.pln with waits := s.waits } }

/-- One batch of the T3 journals is applied: an own one to the own stores, the partner's to the mirror. -/
def Eng.restoreBatch (e : Eng) (b : Bytes) : Eng :=
  match if batchCrcOk b then batchRecs b else none with
  | none => e
  | some rs =>
    if u8 b 2 = e.img.wing then
      rs.foldl (fun e r =>
        if r.2.1 ≤ e.twm.appended then e
        else
          let st := applyRec r.1 r.2.1 r.2.2 (e.twm.sums, e.twm.logs)
          let em := match r.2.2 with
            | .admitted kind _ tag pid .. => if kind = 0 then Tab.put e.twm.emits tag { pid := pid } else e.twm.emits
            | _ => e.twm.emits
          let e := { e with twm := { e.twm with sums := st.1, logs := st.2, emits := em, appended := r.2.1, durable := r.2.1
                                                journal := e.twm.journal ++ [r]
                                                heads := if r.2.1 = u64 b 8 then e.twm.heads ++ [(r.2.1, u8 b 0, u48 b 24, u8 b 3)]
                                                         else e.twm.heads } }
          match r.2.2.window? with
          | some w => e.rebuildWindows [w]
          | none => e) e
    else
      rs.foldl (fun (e : Eng) r =>
        if r.2.1 < e.twm.mirrorNext then e
        else
          let t := e.twm.mirrorRec r
          { e with twm := { t with mirrorRecs := t.mirrorRecs ++ [r], mirrorNext := r.2.1 + 1 } }) e

/-- Every session of the own stores enters the directory with RESIDENCY NONE. -/
def Eng.restoreSessions (e : Eng) : Eng :=
  (adoptOrder (Tab.vals e.twm.sums)).foldl (fun e s =>
    e.enterSession e.twm.journal s (e.emitOf s.tag).pid (Tab.getD e.twm.logs s.tag [])) e

/-- The partner's T3 journal past the mirror is applied (Table 10-9). -/
def Eng.mirrorT3 (e : Eng) (b : Bytes) : Eng :=
  (t3Batches b.length b).foldl (fun (e : Eng) x =>
    if u8 x 2 = e.img.wing then e
    else match if batchCrcOk x then batchRecs x else none with
      | none => e
      | some rs => rs.foldl (fun (e : Eng) r =>
          if r.2.1 < e.twm.mirrorNext then e
          else
            let t := e.twm.mirrorRec r
            { e with twm := { t with mirrorRecs := t.mirrorRecs ++ [r], mirrorNext := r.2.1 + 1 } }) e) e

/-- The log pages of the snapshot being loaded have been read. Pages that do not have the CRCs of the page tables are read
again (log entry 126). -/
def Eng.logPagesRead (e : Eng) (b : Bytes) : Eng :=
  match readLogs e.rxShard.sessions b with
  | none => e.send (.far (.read e.img.layout.t3Journal 4))
  | some logs =>
    if e.twm.wing == .reintegrating then e.loadSnap logs
    else
      let e := e.restoreShard logs
      Eng.send { e with twm := { e.twm with reading := 2 } } (.far (.read e.img.layout.t3Journal 2))

/-- A read from T3 is done (R282, Table 10-9). A snapshot's bytes are its manifest and this engine's shard; that every shard
digest verifies is `manifestOk`. -/
def Eng.t3Read (e : Eng) (b : Bytes) (manifestOk : Bool) : Eng :=
  match e.twm.reading with
  | 1 =>
    let m := b.take (64 + 64 * e.img.n)
    let shard := b.drop (64 + 64 * e.img.n)
    if manifestOk && e.manifestOk m [(e.img.rank, shard)] then
      Eng.readLogPages { e with twm := { e.twm with rx := [(e.img.rank, shard), (manifestKey, m)] } }
    else
      Eng.send { e with twm := { e.twm with skipped := e.twm.skipped + 1 } } (.far (.read e.img.layout.t3Snapshot 1))
  | 2 =>
    let e := (t3Batches b.length b).foldl Eng.restoreBatch e
    let e := { e with twm := { e.twm with reading := 0, restored := true } }
    let e := e.restoreSessions
    if e.twm.wing == .start && e.twm.handshake then e.formPair else e
  | 3 =>
    let e := Eng.mirrorT3 { e with twm := { e.twm with reading := 0 } } b
    if e.twm.wing == .solo then e.adoptAll else e
  | 4 => e.logPagesRead b
  | _ => e

/-! ## Handshake (R23, 14 R396) -/

/-- What a Lead does at a handshake that holds, by its state and the partner's (Table 10-9). A partner that holds no term
counts as in START (log entry 67). -/
def Eng.handshakeLead (e : Eng) (ps pterm : Nat) : Eng :=
  let may := decide (e.twm.retryAt + 500000000 ≤ e.now) && e.twm.wanted.isNone
  match e.twm.wing with
  | .start =>
    if ps = 0 ∨ pterm = 0 then
      if e.param 0x0C06 ≠ 0 ∧ !e.twm.restored then
        if e.twm.reading ≠ 0 then e
        else Eng.send { e with twm := { e.twm with reading := 1 } } (.far (.read e.img.layout.t3Snapshot 1))
      else e.formPair
    else e.reintegrate
  | .paired =>
    let asked := match e.twm.wanted with | some r => r.reason == 2 | none => false
    if ps = 5 ∧ !asked ∧ e.twm.ownBefore.isNone ∧ (may ∨ e.twm.wanted.isSome) then
      Eng.askWitness { e with twm := { e.twm with retryAt := e.now } } 2 e.img.wing false
    else if ps = 6 ∧ !e.twm.feed then { e with twm := { e.twm with snapForTwin := true } }.requestSnap
    else if e.twm.term = 0 ∧ e.img.wing = 0 ∧ may then
      Eng.askWitness { e with twm := { e.twm with retryAt := e.now } } 0 e.img.wing false
    else e
  | .seeking =>
    if (ps = 1 ∨ ps = 2) ∧ pterm = e.twm.term then
      Eng.relaunch (Eng.endPause { e with twm := { e.twm with wing := .paired } })
    else e
  | .solo => if ps = 6 ∧ !e.twm.feed then { e with twm := { e.twm with snapForTwin := true } }.requestSnap else e
  | .fenced => if ps = 1 ∨ ps = 3 then e.reintegrate else e
  | _ => e

/-- A HELLO arrives. One in START says that the partner's journal begins again at 1, or, where this wing was restored as its
partner was, goes on from where the restore left it; one that has come to REINTEGRATING, that it goes on past what it dropped
(log entry 41). -/
def Eng.takeHello (e : Eng) (b : Bytes) : Eng :=
  if !twinMsgOk b 0x20 then e
  else
    let e := e.heard
    if !e.sameShape b then { e with ing := { e.ing with mismatch := true }, twm := { e.twm with handshake := false } }
    else
      let ps := u8 b 3
      let pterm := u32 b 4
      let next := if ps = 0 ∧ !e.twm.restored then 1 else e.twm.mirrorNext
      let anew := (ps == 0 && e.twm.restored) || (ps == 6 && e.twm.partnerState != 6)
      let e := { e with
        ing := { e.ing with mismatch := false }
        dir := { e.dir with asked := false }
        twm := { e.twm with handshake := true, twinLost := false, partnerState := ps, partnerTerm := pterm, mirrorNext := next,
                            mirrorAny := e.twm.mirrorAny || anew } }
      let e := e.releaseDurable
      if !e.isLead then e
      else
        let backs := e.twm.wing == .fenced && (ps == 1 || ps == 3)
        let e := e.seeTerm pterm (u8 b 2)
        if e.twm.dual || (e.twm.wing == .fenced && !backs) then e else e.handshakeLead ps pterm

/-- HANDOVER from the partner (Table 10-9, R275). -/
def Eng.takeHandover (e : Eng) (b : Bytes) : Eng :=
  if !twinMsgOk b 0x21 then e
  else
    let e := e.heard
    let e := { e with twm := { e.twm with partnerState := 5 } }
    let asked := match e.twm.wanted with | some r => r.reason == 2 | none => false
    if e.isLead && e.twm.wing == .paired && !asked then
      Eng.askWitness { e with twm := { e.twm with retryAt := e.now } } 2 e.img.wing false
    else e

/-! ## Batches and acknowledgements (R255, R256) -/

/-- What a mirrored TERM record does here (R264, R267, R275, R276, 03 R51). -/
def Eng.mirrorTerm (e : Eng) (r : JRec) : Eng :=
  match r with
  | .term kind newTerm leader granting blocks =>
    let e := if kind = 0 ∨ kind = 3 ∨ kind = 4 then
        { e with twm := { e.twm with term := max e.twm.term newTerm, leader := leader } } else e
    if kind = 1 ∧ granting ≠ e.img.wing then (e.gainBlocks blocks).raise 0x36 0 0 [(16, 1, 0), (17, 2, blocks.length)]
    else if kind = 4 ∧ e.twm.wing = .handover then
      { e with dir := { e.dir with ownBase := 3, ownPlus := [], ownMinus := [], free := [] } }
    else if kind = 5 ∧ granting ≠ e.img.wing then
      let e := e.gainBlocks blocks
      let ss := (Tab.vals e.twm.mirror).filter fun s => blocks.contains (tagIndex s.tag / 256)
      let busy := ss.map fun s => tagIndex s.tag / 256
      let e := { e with dir := { e.dir with free := busy.dedup.foldl (fun l b => l.flatMap (FreeRun.without b)) e.dir.free } }
      let e := e.adopt ss
      { e with dir := { e.dir with free := e.dir.free ++ busy.dedup.flatMap e.freeOfBlock } }
    else e
  | _ => e

/-- A checked batch is journaled: written to the mirror, applied, acknowledged. -/
def Eng.mirrorBatch (e : Eng) (rs : List (Nat × Nat × JRec)) (stored launch : Nat) : Eng :=
  let waits := e.twm.wing == .reintegrating && e.twm.loadedAt.isNone
  let last := (rs.getLast?.map fun r => r.2.1).getD (e.twm.mirrorNext - 1)
  let t := e.twm
  let old := t.mirrorLogs
  let t := if waits then t else rs.foldl Twm.mirrorRec t
  let e := if waits then e else e.writeLogPages (rs.map fun r => r.2.2) old t.mirrorLogs
  let e := { e with twm := { t with mirrorRecs := t.mirrorRecs ++ rs, mirrorNext := last + 1, mirrorAny := false
                                    rxLaunch := max t.rxLaunch launch } }
  let e := if waits then e else rs.foldl (fun e r => e.mirrorTerm r.2.2) e
  e.send (.twin (e.ackBytes 0x10 last stored))

/-- A journal batch or control batch arrives (R255, R263). `stored` is the CRC of the body as read back. A batch whose first
index is not the next one expected is answered with NAK, also one that has come before. -/
def Eng.takeBatch (e : Eng) (b : Bytes) (stored : Nat) : Eng :=
  let nak (e : Eng) : Eng := e.send (.twin (e.ackBytes 0x11 e.twm.mirrorNext 0))
  if u8 b 0 = 2 then
    if batchCrcOk b then
      let e := e.heard.seeTerm (u32 b 4) (u8 b 3)
      { e with twm := e.twm.mirrorAcks (b.drop 64) (u32 b 16) }
    else e
  else if !batchCrcOk b then nak e
  else
    match batchRecs b with
    | none => nak e.heard
    | some rs =>
      let e := e.heard.seeTerm (u32 b 4) (u8 b 3)
      let back := e.twm.wing == .reintegrating
      let any := e.twm.mirrorAny || (back && e.twm.loadedAt.isNone && e.twm.mirrorRecs.isEmpty)
      if e.twm.dual then e
      else if e.twm.wing == .fenced || (u32 b 4 != e.twm.term && !(back && decide (u32 b 4 < e.twm.term))) then nak e
      else if u64 b 8 ≠ e.twm.mirrorNext ∧ !any then nak e
      else (e.mirrorBatch rs stored (u64 b 32)).backInPair

/-- Changes the batch that starts at `first`. -/
def Eng.modBatch (e : Eng) (first : Nat) (f : Batch → Batch) : Eng :=
  { e with twm := { e.twm with batches := updWhere (fun b => b.first == first) f e.twm.batches } }

/-- The sessions of a batch whose STORED_CRC differed twice are held (R278). The batch is not durable by its own ACK; a later
batch of which an ACK proves the stored copy makes it so (R256), and its sessions, which are held, release nothing. -/
def Eng.holdDiffering (e : Eng) (b : Batch) : Eng :=
  let tags := (b.recs.filterMap JRec.tag?).dedup
  let e := tags.foldl (fun e t => e.hold t 2) e
  (e.bump Reg.TWM_DIFFER 31 0 tags.length).raise 0xC5 2 0 [(16, 4, b.term), (24, 8, b.first)]

/-- An ACK arrives (R256). -/
def Eng.takeAck (e : Eng) (b : Bytes) : Eng :=
  if b.length ≠ 32 ∨ crcOk b 32 = false then e
  else
    let e := e.heard.seeTerm (u32 b 4) (u8 b 2)
    let index := u64 b 8
    if e.twm.dual || e.twm.wing == .fenced then e
    else
      let caught := match e.twm.catchUp with | some k => decide (k < index) | none => false
      match e.twm.batches.find? fun x => decide (x.first ≤ index ∧ index < x.first + x.recs.length) with
      | none => if caught then e.partnerBack else e
      | some x =>
        let rtt := min (e.now - x.launch) 0xFFFF
        let e := (e.setFld Reg.TWM_RTT 15 0 rtt).setFld Reg.TWM_RTT 31 16 (max (e.fld Reg.TWM_RTT 31 16) rtt)
        let counts := if e.isLead then e.twm.wing == .paired else !e.twm.twinLost
        let e :=
          if !counts then e
          else if u32 b 16 = x.crc then e.makeDurable index
          else if x.held then e
          else if x.differed then (e.holdDiffering x).modBatch x.first fun x => { x with held := true }
          else
            let y := { x with differed := true, launch := e.now }
            (e.modBatch x.first fun _ => y).send (.twin (e.batchBytes y))
        if caught then e.partnerBack else e

/-- A NAK arrives: the journal is sent again from the index it names (R255). -/
def Eng.takeNak (e : Eng) (b : Bytes) : Eng :=
  if b.length ≠ 32 ∨ crcOk b 32 = false then e
  else
    let e := (e.heard.seeTerm (u32 b 4) (u8 b 2)).bump Reg.TWM_RESENDS 31 16 1
    if e.twm.dual || e.twm.wing == .fenced || u32 b 4 != e.twm.term || !e.toTwin then e
    else
      let index := u64 b 8
      let e := (e.batchesFrom index e.twm.durable).foldl (fun e x => e.send (.twin (e.batchBytes x))) e
      let fresh (x : Batch) : Batch := if index < x.first + x.recs.length then { x with sent := false } else x
      Eng.pumpJournal { e with twm := { e.twm with batches := e.twm.batches.map fresh } }

/-- A batch has waited for its ACK twice the twin round-trip bound (R256). -/
def Eng.ackLate (e : Eng) (first : Nat) : Eng :=
  match e.twm.batches.find? fun b => b.first == first with
  | none => e
  | some b =>
    if !b.sent || b.held || !e.toTwin || decide (e.now < b.launch + 3600) then e
    else if b.timedOut then e.loseTwin 1
    else
      let y := { b with timedOut := true, launch := e.now }
      ((e.modBatch first fun _ => y).send (.twin (e.batchBytes y))).bump Reg.TWM_RESENDS 15 0 1

/-- A T3 journal write of a wing that writes single copy ends (R256). A second failure of a write makes the T3 journal target
failed (02 R405). -/
def Eng.t3Written (e : Eng) (first : Nat) (ok : Bool) : Eng :=
  match e.twm.batches.find? fun b => b.first == first with
  | none => e
  | some b =>
    if !b.sent || !e.toT3 then e
    else if ok then
      let last := b.first + b.recs.length - 1
      let e := { e with twm := { e.twm with t3Flushed := max e.twm.t3Flushed last
                                            t3Retried := e.twm.t3Retried.filter (· ≠ first) } }
      e.makeDurable last
    else if e.twm.t3Retried.contains first then e.failTarget e.img.layout.t3Journal 0
    else
      let e := { e with twm := { e.twm with t3Retried := first :: e.twm.t3Retried } }
      (e.modBatch first fun x => { x with launch := e.now }).send
        (.far (.journal e.img.layout.t3Journal first (first + b.recs.length - 1) (64 + b.body.length)))

/-- BLOCK_REQ (03 R51): the grant is journaled, and its blocks are withheld until it is durable. -/
def Eng.takeBlockReq (e : Eng) (b : Bytes) : Eng :=
  if !twinMsgOk b 0x22 then e
  else
    let e := e.heard
    if !e.isLead || e.twm.wing != .paired then e
    else
      let bs := e.grantable (u32 b 8)
      if bs.isEmpty then e else (e.withhold bs).append 0 e.cmp.last [.term 1 e.twm.term e.twm.leader e.img.wing bs]

/-! ## Emission again (R262) -/

/-- The timer of a session's unacknowledged records. -/
def Eng.emitAgainDue (e : Eng) (tag : Nat) : Eng :=
  let x := e.emitOf tag
  let releases := (e.twm.wing == .paired || e.twm.wing == .solo) && !e.twm.dual && !e.ing.mismatch
  if releases && (e.find tag).isSome && decide (x.lastSent + e.param 0x0C01 * 1000 ≤ e.now) then e.emitAgainNow tag else e

/-! ## Flush and trail (12 R341, R342) -/

/-- The next journal write of a flush or trail: the records after the last one written out, up to 1 MiB. -/
def Eng.flushNext (e : Eng) : Option (Nat × Nat × Nat) :=
  let after := e.twm.flushOut.getLast?.getD e.twm.t3Flushed
  let rs := e.twm.journal.filter fun r => decide (after < r.2.1)
  let from_ := (rs.head?.map fun r => r.2.1).getD (after + 1)
  let fits := rs.foldl (fun (st : Nat × Nat) r =>
    let n := st.2 + 32 * r.2.2.units
    if n ≤ 2 ^ 20 - 64 ∧ st.1 + 1 = r.2.1 then (r.2.1, n) else st) (from_ - 1, 0)
  if fits.1 < from_ then none else some (from_, fits.1, 64 + fits.2)

/-- Starts writes while at most `limit` are outstanding. -/
def Eng.startFlush (limit : Nat) : Nat → Eng → Eng
  | 0, e => e
  | fuel + 1, e =>
    if limit ≤ e.twm.flushOut.length then e
    else match e.flushNext with
      | none => e
      | some (a, b, n) =>
        let e := e.send (.far (.journal e.img.layout.t3Journal a b n))
        let e := { e with iml := { e.iml with flushed := e.iml.flushed + n } }
        Eng.startFlush limit fuel { e with twm := { e.twm with flushOut := e.twm.flushOut ++ [b] } }

/-- The oldest write outstanding completes. -/
def Eng.flushWritten (e : Eng) : Eng :=
  match e.twm.flushOut with
  | [] => e
  | b :: l => { e with twm := { e.twm with flushOut := l, t3Flushed := max e.twm.t3Flushed b } }

/-- Records trail to T3 outside a hold-up, one write at a time, where TRAIL_MB_S is not 0 (R342). -/
def Eng.trail (e : Eng) : Eng :=
  if e.param 0x0C07 = 0 ∨ e.stopping = true ∨ e.toT3 = true then e else Eng.startFlush 1 1 e

/-! ## Shedding (11 R309) -/

/-- The conditions of R309 that last: PAIRED, an allowance with IDLE_REQ, STRICT reservations. -/
def Eng.shedHolds (e : Eng) : Bool :=
  decide (e.param 0x0B14 ≠ 0) && e.twm.wing == .paired && (e.newestAll.any fun a => bit a.flags 1) && !(e.resvOf 2).isEmpty

/-- Since when they hold. -/
def Eng.noteShed (e : Eng) : Eng :=
  { e with twm := { e.twm with shedSince := if e.shedHolds then some (e.twm.shedSince.getD e.now) else none } }

/-- They have held for 50 ms with at least one STRICT miss: the Lead hands its sessions to the partner. HANDOVER names
the Lead's own rank (log entry 68). -/
def Eng.shed (e : Eng) (misses : Nat) : Eng :=
  match e.twm.shedSince with
  | none => e
  | some t =>
    if !e.shedHolds || misses = 0 || decide (e.now < t + 50000000) then e
    else
      let n := (e.resvOf 2).length
      (Eng.raise { e with twm := { e.twm with shedSince := none } } 0xBA 3 0 [(16, 4, misses), (20, 4, n)]).enterHandover e.img.rank

/-! ## What follows every command at a Lead -/

/-- Failures that the wing acts on, the snapshot, the give-back, the trail. -/
def Eng.settleTwin (e : Eng) : Eng :=
  let e := match e.twm.failedRank, e.twm.wing with
    | some r, .paired => e.enterHandover r
    | none, .paired => if e.failed then e.enterHandover e.img.rank else e
    | _, _ => e
  let e := if e.twm.wing == .solo && !(e.tgt e.img.layout.t3Journal).up then e.fence 3 e.twm.term else e
  let e := if e.ringBelow 8 then e.requestSnap else e
  let e := (e.cutSnap.launchWaiting.askBlocks.settleGiveBack.trail).noteShed
  { e with twm := { e.twm with boundary := none } }

end Sys2Proof.Machine
end

