-- ==== Sys2Proof/Machine/Image.lean ====
section
/-! DEFINITION. The flash and the configuration image in it (12 R321 to R333): discovery, reading a bank, the checks of
Table 12-4 and what a valid bank loads. -/

namespace Sys2Proof.Machine

/-! ## The flash device -/

/-- `n` bytes from the cells that `m` lists at or above address `a`; an unlisted cell is erased. -/
def readFrom : Nat → Nat → Tab Byte → Bytes
  | 0, _, _ => []
  | n + 1, a, [] => 0xFF :: readFrom n (a + 1) []
  | n + 1, a, (k, v) :: m => if k = a then v :: readFrom n (a + 1) m else 0xFF :: readFrom n (a + 1) ((k, v) :: m)

def readCells (m : Tab Byte) (a n : Nat) : Bytes := readFrom n a (m.filter fun p => decide (a ≤ p.1))

/-- The cells with the bytes `b` from address `a`. -/
def writeCells : Nat → Bytes → Tab Byte → Tab Byte
  | _, [], m => m
  | a, v :: b, m => writeCells (a + 1) b (Tab.write m 0xFF a v)

/-- The cells with `n` bytes from `a` erased. -/
def eraseCells (a n : Nat) (m : Tab Byte) : Tab Byte := m.filter fun p => decide (p.1 < a ∨ a + n ≤ p.1)

/-- The parameter header of the BFPT in the SFDP bytes, if one is there (ID 0xFF00). -/
def bfptHeader (s : Bytes) : Option Nat :=
  ((List.range (u8 s 6 + 1)).map fun k => 8 + 8 * k).find? fun o => u8 s o == 0x00 && u8 s (o + 7) == 0xFF

/-- Discovery steps 3 to 6 (R322): the mode found, or the cause of IML_FLASH_FAULT. Bit places are those of JESD216 (log
entry 31). -/
def discover (all : Bytes) : Sum Nat FlashMode :=
  let s := all.take 512
  if u32 s 0 ≠ 0x50444653 then .inl 0
  else match bfptHeader s with
  | none => .inl 1
  | some o =>
    let p := leAt s (o + 4) 3
    if u8 s (o + 3) < 16 ∨ s.length < p + 64 then .inl 1
    else
      let dw (i : Nat) := u32 s (p + 4 * (i - 1))
      let density := dw 2
      let log2 := (if density < 2 ^ 31 then Nat.log2 (density + 1) else density % 2 ^ 31) - 3
      let quad := bitsOf (dw 15) 22 20 != 7
      let mode := if quad && bit (dw 1) 21 then 2 else if quad && bit (dw 1) 22 then 1 else 0
      let dummy := match mode with
        | 2 => bitsOf (dw 3) 4 0 + bitsOf (dw 3) 7 5
        | 1 => bitsOf (dw 3) 20 16 + bitsOf (dw 3) 23 21
        | _ => 8
      let entry := bitsOf (dw 16) 31 24
      if 24 < log2 ∧ entry = 0 then .inl 2
      else
        let kind := ((List.range 4).find? fun i => u8 s (p + 28 + 2 * i) == 16).getD 0
        let unit := match bitsOf (dw 10) (10 + 7 * kind) (9 + 7 * kind) with | 0 => 1 | 1 => 16 | 2 => 128 | _ => 1000
        .inr { log2 := log2, dummy := dummy, mode := mode, addr4 := decide (24 < log2), minor := u8 s 4,
               pageSize := 2 ^ bitsOf (dw 11) 7 4,
               eraseMs := 2 * (bitsOf (dw 10) 3 0 + 1) * ((bitsOf (dw 10) (8 + 7 * kind) (4 + 7 * kind) + 1) * unit),
               progUs := 2 * (bitsOf (dw 11) 3 0 + 1) * ((bitsOf (dw 11) 12 8 + 1) * (if bit (dw 11) 13 then 64 else 8)) }

/-- The status writes of step 6: a quad-enable bit to set, or 4-byte addressing to enter. -/
def FlashMode.needsWrite (f : FlashMode) : Bool := f.mode != 0 || f.addr4

/-- The count of a read burst of `n` bytes [AON cycles] (R323). -/
def FlashMode.burst (f : FlashMode) (n : Nat) : Nat :=
  let a := if f.mode = 2 then (if f.addr4 then 8 else 6) else if f.addr4 then 32 else 24
  2 * (8 + a + f.dummy) + 4 + (if f.mode = 0 then 16 else 4) * n

/-- The count of reading `n` bytes in bursts of 65,536 (Table 12-6 step 8). -/
def FlashMode.read (f : FlashMode) (n : Nat) : Nat :=
  f.burst 0 * ceilDiv n 65536 + (f.burst n - f.burst 0)

def FlashMode.bankSize (f : FlashMode) : Nat := 2 ^ f.log2 / 2

/-! ## Banks (R324 to R328) -/

/-- A directory entry of the header page. -/
structure DirEnt where
  idx : Nat
  typ : Nat
  inst : Nat
  off : Nat
  len : Nat
  crc : Nat
  deriving DecidableEq, Repr

def parseDir (h : Bytes) : List DirEnt :=
  (List.range (u16 h 6)).map fun i =>
    let o := 64 + 16 * i
    { idx := i, typ := u16 h o, inst := u16 h (o + 2), off := u32 h (o + 4), len := u32 h (o + 8), crc := u32 h (o + 12) }

/-- Cause 1 or 2 of Table 12-4 for a header page, or 0. -/
def headerFault (h : Bytes) (bankSize : Nat) : Nat :=
  if u32 h 0 ≠ 0x52594947 ∨ u32 h 8 = 0xFFFFFFFF then 1
  else if u32 h 4092 ≠ crc32c (h.take 4092) ∨ u8 h 4 ≠ 1 ∨ u16 h 6 = 0 ∨ 248 < u16 h 6 ∨ u64 h 16 % 4096 ≠ 0
      ∨ u64 h 16 < 4096 ∨ bankSize < u64 h 16 + 4096 then 2
  else 0

/-- The directory obeys R325: ascending offsets on 4,096, no overlap, every record inside, no two of one type and instance,
unused entries 0. -/
def dirOk (h : Bytes) : Bool :=
  let ds := parseDir h
  let step (acc : Nat × Bool) (d : DirEnt) : Nat × Bool :=
    (d.off + max d.len 1, acc.2 && decide (acc.1 ≤ d.off ∧ d.off % 4096 = 0 ∧ d.off + d.len ≤ u64 h 16))
  (ds.foldl step (4096, true)).2
    && ds.all (fun d => (ds.filter fun x => x.typ == d.typ && x.inst == d.inst).length == 1)
    && (slice h (64 + 16 * ds.length) (16 * (248 - ds.length))).all fun x => x == 0

/-- A record of a bank: type, instance and bytes, with the directory entry it came from. -/
structure ImgRec where
  idx : Nat
  typ : Nat
  inst : Nat
  raw : Bytes
  deriving DecidableEq, Repr

def recOf (rs : List ImgRec) (typ inst : Nat) : Option ImgRec := rs.find? fun r => r.typ == typ && r.inst == inst
def recRaw (rs : List ImgRec) (typ : Nat) : Bytes := ((recOf rs typ 0).map ImgRec.raw).getD []

/-- The entries of `n` bytes of an array record. -/
def rows (n : Nat) (b : Bytes) : List Bytes := (List.range (b.length / n)).map fun i => slice b (n * i) n

/-! ## Records (R329, Table 12-2) -/

def parseKeys (b : Bytes) : Keys :=
  { salt := u64 b 0, sampling := u64 b 8, pk0 := u64 b 16, pk1 := u64 b 24, hk0 := u64 b 32, hk1 := u64 b 40,
    amend := slice b 48 32, witness := slice b 80 32 }

def parseClass (b : Bytes) : DClass := { kind := u8 b 0, ttftUs := u32 b 4, tbtUs := u32 b 8 }

/-- Table 4-8. -/
def factoryClasses : List DClass :=
  [{ kind := 2, ttftUs := 250000, tbtUs := 25000 }, { kind := 2, ttftUs := 800000, tbtUs := 40000 },
   { kind := 2, ttftUs := 2000000, tbtUs := 60000 }, { kind := 1, ttftUs := 1000000, tbtUs := 50000 },
   { kind := 1, ttftUs := 5000000, tbtUs := 100000 }, {}, {}, {}]

def parseTenant (b : Bytes) : TenantCfg :=
  { enabled := bit (u8 b 2) 0, tclass := u8 b 3, rate := u32 b 4, depth := u32 b 8, openCost := u16 b 12,
    prefillW := u16 b 14, decodeW := u16 b 16, weight := u16 b 18, maxSessions := u16 b 20, modelMask := u16 b 22,
    dclassMask := u16 b 24, expiry := u16 b 26 }

def parseProducer (b : Bytes) : Producer :=
  { valid := true, tenant := u16 b 2, id := u32 b 4, source := u32 b 8 % 2 ^ 20 }

def parseModel (b : Bytes) : ModelCfg :=
  { vocab := u32 b 0, context := u32 b 4, seqPs := u64 b 8, tokPs := u64 b 16, seq0Ps := u64 b 24, ctxPs := u64 b 32,
    fmt := u8 b 40, draftRank := u8 b 41, stepPart := u8 b 42, pages16 := (List.range 64).map fun r => u8 b (64 + r),
    slices := (List.range 64).map fun r => (u32 b (128 + 8 * r), u32 b (132 + 8 * r)) }

def parsePart (b : Bytes) : PartCfg :=
  { first := u16 b 0, groups := u16 b 2, isStep := bit (u8 b 4) 0, isTool := bit (u8 b 4) 1, semUsed := u8 b 5,
    creditPool := u16 b 6, semInit := (List.range 64).map fun i => u8 b (8 + i) }

def parseTarget (b : Bytes) : TargetCfg :=
  { tier := u8 b 2, weight := u16 b 4, rate := u16 b 6, regionBase := u64 b 8, regionSize := u64 b 16, ip := slice b 24 16,
    port := u16 b 40, qp := u32 b 44, nqn := (slice b 64 256).takeWhile (· ≠ 0), nsid := u32 b 48 }

def parseOp (b : Bytes) (i : Nat) : OpPoint :=
  { mhz := u16 b (8 * i), vcore := u16 b (8 * i + 2), vsram := u16 b (8 * i + 4), leak := u16 b (8 * i + 6) }

def parseRail (b : Bytes) (i : Nat) : RailCfg :=
  { addr := u8 b (96 + 8 * i), phases := u8 b (97 + 8 * i), rated := u16 b (98 + 8 * i), avs := u8 b (100 + 8 * i) }

def parseLayout (b : Bytes) : Layout :=
  { dirA := u8 b 0, dirB := u8 b 1, jrnA := u8 b 2, jrnB := u8 b 3, plcA := u8 b 4, plcB := u8 b 5,
    kvFrames := (List.range 8).map fun i => u32 b (8 + 4 * i), t0Frames := u32 b 40, t0Prefix := u32 b 44,
    logitAddr := u64 b 48, logitSize := u64 b 56, witnessIp := slice b 64 16, witnessPort := u16 b 80,
    t3Journal := u16 b 82, t3Snapshot := u16 b 84 }

/-- A table from a list of keyed rows; a later row of the same key replaces an earlier one. -/
def tabOf {α : Type} (l : List (Nat × α)) : Tab α := l.foldl (fun t p => Tab.put t p.1 p.2) []

/-- The records of a type, keyed by instance, read by `f`. -/
def byInstance {α : Type} (rs : List ImgRec) (typ : Nat) (f : Bytes → α) : Tab α :=
  tabOf ((rs.filter fun r => r.typ == typ).map fun r => (r.inst, f r.raw))

def modelsOf (rs : List ImgRec) : Tab ModelCfg := byInstance rs 7 parseModel
def partsOf (rs : List ImgRec) : Tab PartCfg := byInstance rs 8 parsePart
def stopSetsOf (rs : List ImgRec) : Tab (List Nat) :=
  tabOf ((rows 132 (recRaw rs 0x0D)).map fun b => (u16 b 0, (List.range (min (u16 b 2) 32)).map fun i => u32 b (4 + 4 * i)))

/-- A sampling-parameter record obeys Table 7-2 and R164. -/
def sparamOk (sets : Tab (List Nat)) (b : Bytes) : Bool :=
  let w (i : Nat) : Word := BitVec.ofNat 32 (u32 b i)
  let mode := u8 b 28
  u32 b 60 == crc32c (b.take 60)
    && (bit mode 0 || fPos (w 0)) && fPos (w 4) && fFinite (w 4) && fFinite (w 8) && fFinite (w 12)
    && (bit mode 0 || fFinite (w 0))
    && decide (signed 32 (u32 b 20) ≤ 0 ∧ u16 b 24 ≤ 1024 ∧ 16 ≤ u16 b 26 ∧ u16 b 26 ≤ 4096 ∧ u16 b 26 % 8 = 0)
    && !bit mode 7 && leAt b 29 3 == 0 && bitsOf (u32 b 36) 30 20 == 0 && bitsOf (u32 b 40) 30 20 == 0
    && bitsOf (u8 b 46) 7 1 == 0 && u8 b 47 == 0 && u32 b 56 == 0
    && (u16 b 44 == 0xFFFF || (Tab.get? sets (u16 b 44)).isSome)

/-- The edges of a state obey R187: LO strictly rising, no overlap, HI at or above LO, inside every vocabulary, NEXT a
state. -/
def edgesOk (vocab states : Nat) : Option Nat → List Nat → Bool
  | _, [] => true
  | last, w :: l =>
    let lo := w % 2 ^ 20
    let hi := bitsOf w 39 20
    decide (lo ≤ hi ∧ hi < vocab ∧ bitsOf w 55 40 < states) && (match last with | none => true | some h => decide (h < lo))
      && edgesOk vocab states (some hi) l

/-- A grammar record obeys R187. An edge array of no edges reaches and overlaps nothing, wherever EDGE_OFF points. -/
def grammarOk (models : Tab ModelCfg) (b : Bytes) : Bool :=
  let ns := u32 b 4
  let ne := u32 b 8
  let so := u32 b 12
  let eo := u32 b 16
  let vocab := minD (2 ^ 32) ((models.filter fun m => bit (u16 b 2) m.1).map fun m => m.2.vocab)
  decide (32 ≤ b.length ∧ u8 b 1 = 1 ∧ u64 b 20 = 0 ∧ 1 ≤ ns ∧ ns ≤ 65536 ∧ ne ≤ 16777216
    ∧ 32 ≤ so ∧ so + 16 * ns ≤ b.length
    ∧ (ne = 0 ∨ 32 ≤ eo ∧ eo + 8 * ne ≤ b.length ∧ (so + 16 * ns ≤ eo ∨ eo + 8 * ne ≤ so)))
    && u32 b 28 == crc32c (b.take 28 ++ slice b so (16 * ns) ++ slice b eo (8 * ne))
    && (List.range ns).all fun s =>
      let st := slice b (so + 16 * s) 16
      let f := u8 st 12
      decide (u32 st 0 + u32 st 4 ≤ ne ∧ u16 st 10 < ns ∧ ¬ (bit f 0 = true ∧ bit f 1 = true)
        ∧ ¬ (bit f 0 = true ∧ u16 st 8 = 0) ∧ ((bit f 0 = true ∨ bit f 1 = true) → u32 st 4 = 0))
      && edgesOk vocab ns none ((List.range (u32 st 4)).map fun i => u64 b (eo + 8 * (u32 st 0 + i)))

/-- The stores a valid bank's records fill, over the factory defaults (R331); invalid sampling-parameter and grammar
records are left out (R332). -/
def buildImage (rs : List ImgRec) (keys : Bytes) : Image :=
  let id := recRaw rs 1
  let models := modelsOf rs
  let sets := stopSetsOf rs
  let pw := recOf rs 0x10 0
  let sp := rows 64 (recRaw rs 0x0B)
  { n := u8 id 0, rank := u8 id 1, wing := u8 id 2, pairId := u32 id 4
    roles := (List.range 64).map fun r => u8 id (64 + r)
    identityRaw := id, modelsRaw := byInstance rs 7 (fun b => b), keys := parseKeys keys
    params := tabOf ((rows 16 (recRaw rs 3)).map fun b => (u16 b 0 * 65536 + u16 b 2, u64 b 8))
    classes := match recOf rs 4 0 with | some r => (rows 16 r.raw).map parseClass | none => factoryClasses
    tenants := tabOf ((rows 32 (recRaw rs 5)).map fun b => (u16 b 0, parseTenant b))
    producers := tabOf ((rows 12 (recRaw rs 6)).map fun b => (u16 b 0, parseProducer b))
    models := models, partitions := partsOf rs, programs := byInstance rs 9 (fun b => b)
    contexts := byInstance rs 0x0A List.length
    sparams := tabOf (((List.range sp.length).map fun i => (i, sp.getD i [])).filter fun p => sparamOk sets p.2)
    grammars := tabOf ((rs.filter fun r => r.typ == 0x0C && grammarOk models r.raw).map fun r => (r.inst, r.raw))
    stopSets := sets
    tools := tabOf (let ts := rows 96 (recRaw rs 0x0E); (List.range ts.length).map fun i => (i, { raw := ts.getD i [] }))
    targets := tabOf ((rows 320 (recRaw rs 0x0F)).map fun b => (u16 b 0, parseTarget b))
    ops := match pw with | some r => (List.range 8).map (parseOp r.raw) | none => []
    phases := match pw with | some r => (List.range 16).map fun p => (u8 r.raw (64 + 2 * p), u8 r.raw (65 + 2 * p)) | none => []
    rails := match pw with | some r => (List.range 6).map (parseRail r.raw) | none => []
    layout := parseLayout (recRaw rs 0x11) }

/-- TYPE and index of the records that R332 marks invalid. -/
def invalidRecords (rs : List ImgRec) : List (Nat × Nat) :=
  let sp := rows 64 (recRaw rs 0x0B)
  ((List.range sp.length).filter fun i => !sparamOk (stopSetsOf rs) (sp.getD i [])).map (fun i => (0x0B, i))
    ++ ((rs.filter fun r => r.typ == 0x0C && !grammarOk (modelsOf rs) r.raw).map fun r => (0x0C, r.inst))

/-! ## The checks of Table 12-4 (R332) -/

/-- The outcome of a check: REASON (0 valid), the directory entry, TYPE and INSTANCE it names, the rule class. -/
structure Verdict where
  reason : Nat := 0
  entry : Nat := 0
  typ : Nat := 0
  inst : Nat := 0
  cls : Nat := 1
  deriving DecidableEq, Repr

/-- A verdict that names the record of a type and instance. -/
def blame (rs : List ImgRec) (reason typ inst : Nat) (cls : Nat := 1) : Verdict :=
  { reason := reason, entry := ((recOf rs typ inst).map ImgRec.idx).getD 0, typ := typ, inst := inst, cls := cls }

/-- The number of parameters in each block of Table 12-3. -/
def paramCount : Nat → Nat
  | 0x00 => 1 | 0x01 => 2 | 0x05 => 2 | 0x06 => 3 | 0x07 => 1 | 0x08 => 13 | 0x0B => 27 | 0x0C => 8 | 0x0E => 2 | _ => 0

/-- (ID, INDEX) names a scalar parameter (R330, R331). Tiers use the encoding of RESIDENCY, as PRICE shows. -/
def paramOk (id idx : Nat) : Bool :=
  decide (id % 256 < paramCount (id / 256)) &&
    match id with
    | 0x0800 => decide (idx < 32)
    | 0x0805 => idx == 3 || idx == 4
    | 0x0806 => decide (idx < 8)
    | 0x0807 => decide (1 ≤ idx ∧ idx ≤ 4)
    | 0x0808 => decide (1 ≤ idx ∧ idx ≤ 4)
    | 0x0B18 => decide (idx < 6)
    | _ => idx == 0

/-- Cause 8: a mandatory record is missing (a record whose length is not its layout's is none), or PARAMS breaks R331. -/
def missing (rs : List ImgRec) (wrapped : Bool) : Option Verdict :=
  let ok (typ inst len : Nat) := match recOf rs typ inst with | some r => r.raw.length == len | none => false
  let need : List (Nat × Nat × Nat) := [(1, 0, 128), (2, 0, if wrapped then 136 else 128), (0x11, 0, 128)]
  let ms := (rs.filter fun r => r.typ == 7)
  let ps := (rs.filter fun r => r.typ == 8)
  match need.find? fun q => !ok q.1 q.2.1 q.2.2 with
  | some q => some (blame rs 8 q.1 q.2.1)
  | none =>
    if ms.isEmpty then some (blame rs 8 7 0)
    else if ps.isEmpty then some (blame rs 8 8 0)
    else match ms.find? fun m => m.raw.length != 640 with
    | some m => some (blame rs 8 7 m.inst)
    | none => match ps.find? fun p => p.raw.length != 72 with
    | some p => some (blame rs 8 8 p.inst)
    | none => match ms.find? fun m => (recOf rs 9 m.inst).isNone with
    | some m => some (blame rs 8 9 m.inst)
    | none => match ms.find? fun m => (recOf rs 0x0A (m.inst * 256 + u8 m.raw 42)).isNone with
    | some m => some (blame rs 8 0x0A (m.inst * 256 + u8 m.raw 42))
    | none =>
      let es := (rows 16 (recRaw rs 3)).map fun b => (u16 b 0, u16 b 2)
      if es.all fun p => paramOk p.1 p.2 && (es.filter (· == p)).length == 1 then none else some (blame rs 8 3 0)

/-- R21's rule on slices: in order of base they cover the vocabulary without a gap or an overlap. -/
def slicesOk (vocab : Nat) (l : List (Nat × Nat)) : Bool :=
  let s := sortBy (fun a b => decide (a.1 ≤ b.1)) (l.filter fun p => p.2 != 0)
  let r := s.foldl (fun (acc : Nat × Bool) p => (p.1 + p.2, acc.2 && p.1 == acc.1)) (0, true)
  r.2 && r.1 == vocab

/-- R290. -/
def opsOk (l : List OpPoint) : Bool :=
  l.all (fun o => decide (o.vcore ≤ o.vsram)) &&
    (l.zip (l.drop 1)).all fun p => decide (p.2.mhz < p.1.mhz ∧ p.2.vcore ≤ p.1.vcore ∧ p.2.vsram ≤ p.1.vsram)

/-- A partition's range breaks R132: it is empty, runs past group 1,599, or overlaps another partition. -/
def partBad (ps : Tab PartCfg) (p : Nat × PartCfg) : Bool :=
  p.2.groups == 0 || decide (1600 < p.2.first + p.2.groups) ||
    ps.any fun q => q.1 != p.1 && decide (p.2.first < q.2.first + q.2.groups ∧ q.2.first < p.2.first + p.2.groups)

/-- Cause 9: the rules that reject the image, R21 first. DESIGN CHOICE (log entry 116): R19 gives N its range and the ranks
theirs and no cause for an image outside them. An N of 0 or above 64 rejects the bank here, with the class of R21's rules; the
image's own RANK is not checked. -/
def crossFault (rs : List ImgRec) : Option Verdict :=
  let id := recRaw rs 1
  let n := u8 id 0
  let roles := (List.range n).map fun r => u8 id (64 + r)
  let tails := (List.range n).filter fun r => bit (roles.getD r 0) 1
  let leads := (List.range n).filter fun r => bit (roles.getD r 0) 0
  let ms := modelsOf rs
  let ps := partsOf rs
  let ly := parseLayout (recRaw rs 0x11)
  let targets := (rows 320 (recRaw rs 0x0F)).map fun b => u16 b 0
  if n = 0 ∨ 64 < n ∨ leads ≠ [0] ∨ tails.isEmpty ∨ 8 < tails.length then some (blame rs 9 1 0 0)
  else match ms.find? fun m => !slicesOk m.2.vocab (tails.map fun r => m.2.slices.getD r (0, 0)) with
  | some m => some (blame rs 9 7 m.1 0)
  | none => match ms.find? fun m => decide (m.2.seqPs < m.2.seq0Ps + m.2.ctxPs * ceilDiv m.2.context 1024) with
  | some m => some (blame rs 9 7 m.1)
  | none => match ps.find? (partBad ps) with
  | some p => some (blame rs 9 8 p.1)
  | none => match ms.find? fun m => !(Tab.getD ps m.2.stepPart {}).isStep with
  | some m => some (blame rs 9 7 m.1)
  | none => match ms.find? fun m => decide (4 ≤ m.2.fmt ∧ m.2.fmt ≤ 6)
      && tails.any fun r => (m.2.slices.getD r (0, 0)).1 % 32 != 0 && (m.2.slices.getD r (0, 0)).2 != 0 with
  | some m => some (blame rs 9 7 m.1)
  | none =>
    if (match recOf rs 0x10 0 with | some r => !opsOk ((List.range 8).map (parseOp r.raw)) | none => false) then
      some (blame rs 9 0x10 0)
    else match (rs.filter fun r => r.typ == 9).find? fun r =>
        (rows 32 r.raw).any fun c => cmdPhase c == 15 with
    | some r => some (blame rs 9 9 r.inst)
    | none =>
      if [ly.dirA, ly.dirB, ly.jrnA, ly.jrnB, ly.plcA, ly.plcB].any (fun s => decide (8 ≤ s))
          || !targets.contains ly.t3Journal || !targets.contains ly.t3Snapshot then some (blame rs 9 0x11 0)
      else none

/-- What the fuses hold (R326, R327). -/
structure Fuses where
  keyHash : Bytes
  sigRequired : Bool
  wrapKey : Bytes

/-- The signature check (R326): it fails for an unsigned bank only where SIG_REQUIRED is set. -/
def signatureOk (f : Fuses) (signed : Bool) (trailer digest : Bytes) : Bool :=
  if !signed then !f.sigRequired
  else
    let pub := slice trailer 32 64
    (f.keyHash.all (fun x => x == 0) || sha256 pub == f.keyHash) && ecdsaVerify pub digest (slice trailer 96 64)

/-- The KEYS body: unwrapped where the bank says so (R327). -/
def keysBody (f : Fuses) (wrapped : Bool) (rs : List ImgRec) : Option Bytes :=
  match recOf rs 2 0 with
  | none => some []
  | some r => if wrapped then (if r.raw.length = 136 then aesUnwrap f.wrapKey r.raw else none) else some r.raw

/-- A bank read in full. -/
structure BankRead where
  seq : Nat
  header : Nat
  v : Verdict := {}
  imageLen : Nat := 0
  signed : Bool := false
  wrapped : Bool := false
  digest : Bytes := []
  recs : List ImgRec := []
  keys : Bytes := []
  deriving DecidableEq, Repr

/-- The header page of the bank at `base`. -/
def readHeader (cells : Tab Byte) (base size : Nat) : BankRead :=
  let h := readCells cells base 4096
  let r := headerFault h size
  { seq := u32 h 8, header := r, v := { reason := r }, imageLen := u64 h 16, signed := bit (u8 h 5) 0,
    wrapped := bit (u8 h 5) 1, digest := [] }

/-- The bank at `base` read and checked by Table 12-4, the first cause that fails naming the reason (R332). -/
def readBank (f : Fuses) (cells : Tab Byte) (base size : Nat) : BankRead :=
  let b := readHeader cells base size
  if b.header ≠ 0 then b
  else
    let img := readCells cells base b.imageLen
    let tr := readCells cells (base + b.imageLen) 4096
    let h := img.take 4096
    let digest := sha256 img
    let b := { b with digest := tr.take 32 }
    if !dirOk h then { b with v := { reason := 3 } }
    else
      let rs := (parseDir h).map fun d => ({ idx := d.idx, typ := d.typ, inst := d.inst, raw := slice img d.off d.len } : ImgRec)
      match ((parseDir h).zip rs).find? fun p => crc32c p.2.raw != p.1.crc with
      | some p => { b with v := { reason := 4, entry := p.1.idx, typ := p.1.typ, inst := p.1.inst } }
      | none =>
        if u32 tr 4092 ≠ crc32c (tr.take 4092) ∨ digest ≠ tr.take 32 then { b with v := { reason := 5 } }
        else if !signatureOk f b.signed tr digest then { b with v := { reason := 6 } }
        else match keysBody f b.wrapped rs with
        | none => { b with v := blame rs 7 2 0 }
        | some keys =>
          let v := ((missing rs b.wrapped).orElse fun _ => crossFault rs).getD {}
          { b with v := v, recs := rs, keys := keys }

/-- Sequence `a` is newer than `b` (R328). -/
def newer (a b : Nat) : Bool :=
  let d := (a + 2 ^ 32 - b) % 2 ^ 32
  decide (1 ≤ d ∧ d ≤ 2 ^ 31 - 1)

/-- What R333 settles: the bank in use, the tie's cause, and which banks were read in full, in order. -/
structure BankChoice where
  use : Option Nat := none
  tie : Option Nat := none
  full : List Nat := []
  deriving DecidableEq, Repr

/-- R333. `a` and `b` are the banks as a full read gives them. -/
def chooseBank (a b : BankRead) : BankChoice :=
  let ok (r : BankRead) := decide (r.v.reason = 0)
  if a.header ≠ 0 ∧ b.header ≠ 0 then {}
  else if a.header ≠ 0 then { use := if ok b then some 1 else none, full := [1] }
  else if b.header ≠ 0 then { use := if ok a then some 0 else none, full := [0] }
  else if a.seq = b.seq then
    { use := if ok a then some 0 else if ok b then some 1 else none
      tie := if ok a && ok b && a.digest != b.digest then some 0 else none
      full := [0, 1] }
  else
    let first := if newer b.seq a.seq then 1 else 0
    let r := if first = 0 then a else b
    let other := if first = 0 then b else a
    let half := decide ((a.seq + 2 ^ 32 - b.seq) % 2 ^ 32 = 2 ^ 31)
    if ok r then { use := some first, tie := if half then some 1 else none, full := [first] }
    else { use := if ok other then some (1 - first) else none, full := [first, 1 - first] }

/-- The count of steps 8 and 9 for a bank read in full (Table 12-6). -/
def bankCount (f : FlashMode) (b : BankRead) : Nat :=
  f.read (b.imageLen + 4096) + 80 + (if b.wrapped then 4000 else 0) + (if b.signed then 1200000 else 0) + 20000

end Sys2Proof.Machine
end

