-- ==== Sys2Proof/Machine/Observe.lean ====
section
/-! DEFINITION. Operations of TEL (13 R349 to R369): the timestamp's discipline, snapshot epochs, tenant view pages, the event
rings and their signals, the trace port, range markers. -/

namespace Sys2Proof.Machine

/-! ## The rings (R363 to R365) -/

def Eng.ring (e : Eng) (p : Nat) : Ring := e.tel.rings.getD p {}
def Eng.setRing (e : Eng) (p : Nat) (r : Ring) : Eng := { e with tel := { e.tel with rings := e.tel.rings.set p r } }

/-- C: CONS rounded down to the start of the notice that contains entry CONS. -/
def Ring.c (r : Ring) : Nat :=
  match r.items.find? fun i => decide (i.1 ≤ r.cons ∧ r.cons < i.1 + i.2) with
  | some i => i.1
  | none => r.cons

/-- The fill of a ring: PROD − max(C, OLDEST). -/
def Ring.fill (r : Ring) : Nat := r.prod - max r.c r.oldest

/-- The ring has no free slot. -/
def Ring.full (r : Ring) : Bool := decide (r.fill = 1024)

/-- The ring's signal as THRESH and HOLDOFF have it (R365). -/
def Eng.signalRing (e : Eng) (p : Nat) : Eng :=
  let r := e.ring p
  let thresh := e.fld (Reg.TEL_RING_CTRL p) 30 20
  let holdoff := e.fld (Reg.TEL_RING_CTRL p) 19 12 * 1000
  let rested := match r.lastSig with | none => true | some t => decide (t + holdoff ≤ e.now)
  if thresh = 0 then e
  else if r.fill < thresh then e.setRing p { r with armed := true }
  else if r.armed && rested then (e.setRing p { r with armed := false, lastSig := some e.now }).send (.interrupt p)
  else e

/-- Passes over whole notices, oldest first, until `n` entries fit. -/
def Ring.makeRoom (n : Nat) : List (Nat × Nat) → Ring → Ring
  | [], r => r
  | i :: l, r => if r.prod - r.oldest + n ≤ 1024 then r else Ring.makeRoom n l { r with oldest := i.1 + i.2, items := l }

/-- The ring with a notice's entries written at PROD. -/
def Ring.write (r : Ring) (entries : List Bytes) : Ring :=
  let put (s : Tab Bytes × Nat) (b : Bytes) : Tab Bytes × Nat := (Tab.put s.1 (s.2 % 1024) b, s.2 + 1)
  let s := entries.foldl put (r.slots, r.prod)
  { r with slots := s.1, prod := s.2, items := r.items ++ [(r.prod, entries.length)] }

/-- Writes a notice's entries to ring `p` (R363); the second component says whether it was written. -/
def Eng.writeRing (e : Eng) (p : Nat) (entries : List Bytes) : Eng × Bool :=
  let n := entries.length
  let r := e.ring p
  let r := { r with oldest := max r.oldest r.c }
  let r := { r with items := r.items.filter fun i => decide (r.oldest ≤ i.1) }
  if r.prod - r.oldest + n ≤ 1024 then ((e.setRing p (r.write entries)).signalRing p, true)
  else if p = 3 then
    ((((e.setRing p r).noteLoss p 1 1).bump (Reg.TEL_RING_LOST p) 15 0 1).count 12 1, false)
  else
    let r' := Ring.makeRoom n r.items r
    let lost := r'.oldest - r.oldest
    let e := (((e.setRing p (r'.write entries)).noteLoss p lost 0).bump (Reg.TEL_RING_LOST p) 31 16 lost).count 12 lost
    (e.signalRing p, true)

/-- The island of the subsystem that owns an event type's block (Table 1-2). -/
def eventIsland (typ : Nat) : Nat :=
  match typ / 16 with
  | 2 => 1 | 3 => 2 | 4 => 6 | 5 => 7 | 6 => 8 | 7 => 9 | 8 => 10 | 9 => 11 | 10 => 12 | 11 => 14 | 12 => 15 | 13 => 16
  | 14 => 17 | _ => 0

/-- The island that presents a notice: of the islands of a subsystem, the slice or the lane's that the event is about. -/
def Eng.noticeIsland (e : Eng) (n : Notice) : Nat :=
  if n.typ = 0x32 then 2 + u8 n.data 0
  else if n.typ = 0x33 ∨ n.typ = 0x34 then 2 + e.sliceOf n.tag
  else if n.typ = 0xA0 then 12 + u8 n.data 0 / 32
  else eventIsland n.typ

/-- The entries of a notice (Table 13-5, R362). -/
def Notice.entries (n : Notice) : List Bytes :=
  let len := n.more.length / 32
  (layout 16 [(0, 1, n.typ), (1, 1, n.prio * 64 + len), (2, 6, n.ts), (8, 4, n.tag), (12, 4, n.instar)] ++ n.data)
    :: (List.range len).map fun i => slice n.more (32 * i) 32

/-- Writes a notice to the ring of its priority, and copies it to the trace (R361, R366). -/
def Eng.postNotice (e : Eng) (n : Notice) : Eng :=
  let r := e.writeRing n.prio n.entries
  if r.2 then ((r.1.count 11 1).occur 0x0E 1 { unit := some n.prio }).traceAt 0x0B (e.noticeIsland n) n.ts [(8, 1, n.typ), (9, 1, n.prio)]
  else r.1

/-- TEL_EVENT_LOSS for each ring with losses this epoch, once. -/
def Eng.tellLoss (e : Eng) : Eng :=
  (List.range 4).foldl (fun e p =>
    let r := e.ring p
    if r.lostEpoch = 0 || r.lossRaised then e
    else (e.setRing p { r with lossRaised := true }).raise 0xD1 2 0 [(16, 1, p), (17, 1, r.lossKind), (20, 4, r.lostEpoch)]) e

/-- TEL writes the event at the front of its input queue. -/
def Eng.postEvent (e : Eng) : Eng :=
  match e.tel.queue with
  | [] => e
  | n :: q => (Eng.postNotice { e with tel := { e.tel with queue := q } } n).tellLoss

/-- Posts every event accepted before a flush. -/
def Eng.postAll : Nat → Eng → Eng
  | 0, e => e
  | fuel + 1, e =>
    match e.tel.queue with
    | [] => e
    | n :: q => Eng.postAll fuel (Eng.postNotice { e with tel := { e.tel with queue := q } } n)

/-- FLUSH of ring `p` (R364). -/
def Eng.flushRing (e : Eng) (p : Nat) : Eng :=
  let e := Eng.postAll e.tel.queue.length e
  let r := e.ring p
  let seq := (r.flushSeq + 1) % 4096
  let e := e.setRing p { r with flushSeq := seq }
  (e.writeRing p [layout 32 [(1, 1, p * 64), (2, 6, e.now), (16, 2, seq)]]).1.tellLoss

/-- A write of CONS: a value above PROD is ignored (R363). -/
def Eng.writeCons (e : Eng) (p : Nat) (val : Nat) : Eng :=
  let r := e.ring p
  let d := (r.prod + 2 ^ 32 - val % 2 ^ 32) % 2 ^ 32
  if 2 ^ 31 ≤ d ∨ r.prod < d then e
  else (e.setRing p { r with cons := r.prod - d }).signalRing p

/-! ## The trace port and markers (R366 to R369) -/

/-- The next record leaves on the trace port. -/
def Eng.sendTrace (e : Eng) : Eng :=
  match e.tel.fifo with
  | [] => e
  | b :: l =>
    if e.fld Reg.TEL_TRACE_CTRL 31 31 = 0 then e
    else (Eng.send { e with tel := { e.tel with fifo := l, valid := !l.isEmpty, sentEpoch := e.tel.sentEpoch + 16 } } (.trace b)).count 13 1

/-- A write of RYV_TEL_MARK (R369). -/
def Eng.markRange (e : Eng) (val : Nat) : Eng :=
  let id := bitsOf val 31 16
  let opens := bit val 15
  let m := e.tel.marks
  let m := if opens then (if m.contains id || decide (16 ≤ m.length) then m else m ++ [id]) else m.filter (· ≠ id)
  let e := { e with tel := { e.tel with marks := m } }
  let e := e.trace 3 16 [(8, 2, id), (10, 1, b2n opens), (12, 4, e.noteInstar)]
  if bit val 14 then e.raise 0xD4 0 0 [(16, 2, id), (18, 1, b2n opens)] else e

/-! ## Epochs, selectors, tenant pages (R351 to R359) -/

/-- A selector register is written: its value waits for the next epoch (R354). -/
def Eng.selectCounter (e : Eng) (j val : Nat) : Eng :=
  let s := Tab.getD e.tel.sel j {}
  { e with tel := { e.tel with sel := Tab.put e.tel.sel j { s with pending := some (val &&& 0x03FFFFFF) } } }

/-- A tenant's page as the snapshot takes it; an engine that is not the Lead keeps ENERGY_UJ only (R358, R359). -/
def Eng.pageNow (e : Eng) (t : Nat) (s : TenantSt) : TPage :=
  let p := e.page t
  if !e.isLead then { energyUj := p.energyUj }
  else
    { p with level := unsigned 64 s.level, share := s.share, live := s.live
             pins := ((Tab.vals e.pln.chrys).filter fun c =>
               c.pinTier.isSome && ((e.find c.tag).map fun x => x.tenant == t).getD false).length
             reservations := ((Tab.vals e.dln.resv).filter fun r => r.tenant == t && e.kindOf r.dclass != 0).length }

/-- The first cycle of an epoch: the snapshot, then the pending selections (R351, R354, R356). -/
def Eng.startEpoch (e : Eng) : Eng :=
  let t := e.tel
  let e := if t.wrapEpoch = 0 then e else e.raise 0xD0 1 0 [(16, 4, t.wrapEpoch), (20, 4, t.epoch % 2 ^ 32)]
  let due := (List.range 16).filter fun j => (Tab.getD t.sel j {}).pending.isSome
  let live := due.foldl (fun m j => Tab.del m (16 + j)) t.live
  let sel := t.sel.map fun p =>
    match p.2.pending with
    | some v => (p.1, ({ force := v, pending := none, changed := true } : Selector))
    | none => (p.1, { p.2 with changed := false })
  let known := e.ldg.tenants.foldr (fun p (m : Tab TPage) => Tab.write m {} p.1 (e.pageNow p.1 p.2)) []
  let pages := (Tab.keys t.pages).foldl (fun m k => Tab.write m {} k (e.pageNow k (e.tst k))) known
  let e := e.setReg Reg.TEL_WRAPPED (due.foldl (fun w j => w &&& ~~~ (BitVec.ofNat 32 (2 ^ (16 + j)))) (e.reg Reg.TEL_WRAPPED))
  let looks := (List.range 4).map fun s => (s, e.reg64 (Reg.DIR_LOOKUPS_LO s))
  let e := { e with
    tel := { e.tel with epoch := t.epoch + 1, snap := t.live, live := live, sel := sel, wrapEpoch := 0, pagesSnap := pages,
                        dropsEpoch := 0, sentEpoch := 0, once := [],
                        rings := e.tel.rings.map fun r => { r with lossRaised := false, lostEpoch := 0 } }
    dir := { e.dir with lookMark := looks, lookLast := looks.map fun p => (p.1, p.2 - Tab.getD e.dir.lookMark p.1 0) }
    smp := { e.smp with p2Epoch := (0, 0), nfEpoch := 0, voidEpoch := 0 }
    pln := { e.pln with lateEpoch := 0, spillEpoch := 0 } }
  if e.fld Reg.TEL_TRACE_CTRL 31 31 = 0 then e
  else e.pushTrace 512 (traceRec 1 16 e.now [(8, 2, e.now / 2 ^ 48), (10, 4, e.tel.epoch)])

/-! ## The timestamp's discipline (R350) -/

/-- The offset as an i32, saturating. -/
def sat32i (i : Int) : Nat := unsigned 32 (max (-(2 ^ 31 : Nat)) (min ((2 ^ 31 : Nat) - 1) i))

/-- The discipline enters state `st`. -/
def Eng.timeState (e : Eng) (st : Nat) : Eng :=
  if st = e.tel.timeState then e
  else Eng.raise { e with tel := { e.tel with timeState := st } } 0xD3 2 0 [(16, 1, st), (20, 4, sat32i e.tel.offset)]

/-- A PTP measurement. The count is the command's own timestamp (log entry 71). -/
def Eng.measureTime (e : Eng) (offset : Int) : Eng :=
  let a := offset.natAbs
  let n := if a ≤ 100 then e.tel.inLock + 1 else 0
  let e := { e with tel := { e.tel with lastMeas := e.now, offset := offset, inLock := n } }
  e.timeState (if 1000000 < a then 4 else if 16 ≤ n then 2 else 1)

/-- No measurement for 2 s after LOCKING or LOCKED. -/
def Eng.holdTime (e : Eng) : Eng :=
  if (e.tel.timeState = 1 ∨ e.tel.timeState = 2) ∧ e.tel.lastMeas + 2000000000 ≤ e.now then
    Eng.timeState { e with tel := { e.tel with inLock := 0 } } 3 else e

end Sys2Proof.Machine
end

