-- ==== Sys2Proof/Machine/Debug.lean ====
section
/-! DEFINITION. Operations of DBG (13 R370 to R382): the locked sequence and its staging list, the structure windows, debug
mode and stepping, tests in service. -/

namespace Sys2Proof.Machine

/-! ## The locked sequence (R370 to R373) -/

def Eng.setLock (e : Eng) (l : Lock) : Eng := { e with dbg := { e.dbg with lock := l } }

/-- `req` holds the lock. -/
def Eng.holds (e : Eng) (req : Nat) : Bool := e.dbg.lock.held && e.dbg.lock.holder == req

/-- The lease's length [ns]: LEASE_AON cycles of 10 ns. -/
def Eng.leaseNs (e : Eng) : Nat := 10 * e.param 0x0E00

def Eng.noteLock (e : Eng) (code holder staged : Nat) : Eng := e.raise 0xE0 1 0 [(16, 1, code), (18, 2, holder), (20, 4, staged)]

/-- An ACQUIRE write (R370). -/
def Eng.acquireLock (e : Eng) (req : Nat) : Eng :=
  if e.dbg.lock.held then e
  else
    let l : Lock := { held := true, holder := req % 65536, leaseEnd := e.now + e.leaseNs, lastBreak := e.dbg.lock.lastBreak }
    (e.setLock l).noteLock 0 (req % 65536) 0

/-- A RENEW write of the holder. -/
def Eng.renewLock (e : Eng) (req : Nat) : Eng :=
  if e.holds req then e.setLock { e.dbg.lock with leaseEnd := e.now + e.leaseNs } else e

/-- The lock is free: the list is gone, and a deferred halt applies from now on (R378). -/
def Eng.freeLock (e : Eng) (brk : Option Nat) : Eng :=
  { e with dbg := { e.dbg with lock := { lastBreak := brk.getD e.dbg.lock.lastBreak }, haltPending := false } }

/-- One staged write takes effect: a lo half waits for its hi half (00 R13). -/
def Eng.commitWrite (e : Eng) (s : Staged) : Eng :=
  match regAt s.off with
  | none => e
  | some r =>
    let mask := sumN (r.fields.map fun f => if f.acc = .rwl then 2 ^ (f.hi + 1) - 2 ^ f.lo else 0)
    let merge (off : Nat) (v : Word) : Word := (e.reg off &&& ~~~ (BitVec.ofNat 32 mask)) ||| (v &&& BitVec.ofNat 32 mask)
    match r.half with
    | .one => e.setReg s.off (merge s.off s.val)
    | .lo => { e with loStage := Tab.put e.loStage s.off s.val }
    | .hi =>
      let lo := s.off - 4
      let e' := match Tab.get? e.loStage lo with
        | some v => Eng.setReg { e with loStage := Tab.del e.loStage lo } lo v
        | none => e
      e'.setReg s.off (merge s.off s.val)

/-- A write of a staged RWL field by the holder enters the list of 256 (R371, R372). -/
def Eng.stageWrite (e : Eng) (off : Nat) (v : Word) : Eng :=
  let l := e.dbg.lock
  if 256 ≤ l.staged.length then e.setLock { l with overflow := true }
  else e.setLock { l with staged := l.staged ++ [{ off := off, val := v }] }

/-- A RELEASE write of the holder (R372). -/
def Eng.releaseLock (e : Eng) (req : Nat) (commit : Bool) : Eng :=
  if !e.holds req then e
  else
    let l := e.dbg.lock
    let n := l.staged.length
    let applies := commit && !l.overflow
    let e := if applies then l.staged.foldl Eng.commitWrite e else e
    (e.freeLock none).noteLock (if applies then 1 else 2) l.holder n

/-- The lease breaks: `brk` is LAST_BREAK's code, `code` DBG_LOCK's (R373). -/
def Eng.breakLock (e : Eng) (brk code : Nat) : Eng :=
  if !e.dbg.lock.held then e
  else
    let l := e.dbg.lock
    (e.freeLock (some brk)).noteLock code l.holder l.staged.length

/-! ## Debug mode and stepping (R376 to R378) -/

/-- A held descriptor is released (R377). -/
def Eng.releaseDesc (e : Eng) : Eng :=
  match e.cmp.heldDesc with
  | none => e
  | some (num, since) =>
    let e := { e with cmp := { e.cmp with heldDesc := none } }
    ((e.waitEnd 16 9 0 since).raise 0xE1 1 0 [(16, 1, 2), (20, 4, num % 2 ^ 32)]).launch num

/-- DEBUG changes (R376): `cause` 0 host, 1 hold-up. -/
def Eng.noteDebug (e : Eng) (old : Bool) (cause : Nat) : Eng :=
  if e.debug = old then e
  else
    let e := if e.debug then e else { e with dbg := { e.dbg with wdFrom := e.now } }
    e.raise 0xE3 1 0 [(16, 1, b2n e.debug), (17, 1, cause)]

/-- A write of DEBUG, INSTAR_STEP and BREAK_EN by the holder. A descriptor held stays held only while both are set. -/
def Eng.writeDebug (e : Eng) (val : Word) : Eng :=
  let old := e.debug
  let e := e.setReg Reg.DBG_CTRL (val &&& 0xD0000000#32)
  let e := e.noteDebug old 0
  if e.debug && bit (e.reg Reg.DBG_CTRL).toNat 30 then e else e.releaseDesc

/-- A hold-up warning ends stepping (R376). -/
def Eng.endStepping (e : Eng) : Eng :=
  let old := e.debug
  let e := e.setFld Reg.DBG_CTRL 31 30 0
  let e := (e.noteDebug old 1).setFld Reg.DSQ_STEP 0 0 0
  e.releaseDesc.releaseAllHeld

/-! ## Structure windows (R375) -/

/-- A chrysalis descriptor's bytes (09 Table 9-2). -/
def Chrys.bytes (c : Chrys) : Bytes :=
  let flags := b2n c.spilled + 2 * b2n c.eclPredicted + 4 * b2n c.pupatePending + 8 * b2n c.prefixCopied
  withCrc (layout 60 [(0, 4, c.tag), (4, 4, c.resEnd), (8, 4, c.t2Len), (12, 4, c.t3Len), (16, 8, c.tYield),
    (24, 4, c.q20.getD 0xFFFFFFFF), (28, 4, c.reviveUs), (32, 1, c.pinTier.getD 0xFF), (33, 1, c.chosen), (34, 1, flags),
    (40, 8, c.pinExp)])

/-- The structure that KIND and ARG name (Table 13-9); none where this engine has none. -/
def Eng.structure_ (e : Eng) (kind arg : Nat) : Option Bytes :=
  let lead := e.up && e.isLead
  let checked := (e.cmp.checked.map Desc.raw).getD []
  match kind with
  | 1 => if lead then (e.find arg).map entryBytes else none
  | 2 => if lead then ((Tab.get? e.twm.sums arg).orElse fun _ => Tab.get? e.twm.mirror arg).map Summary.bytes else none
  | 3 => if lead then ((Tab.get? e.pln.chrys arg).filter Chrys.made).map Chrys.bytes else none
  | 4 => if e.up then (Tab.get? e.pln.recs arg).map Eng.recBytes else none
  | 5 =>
    if arg = 0 then (if checked.isEmpty then none else some (checked.take 64))
    else if arg = 1 && lead then
      (e.cmp.heldDesc.bind fun h => e.cmp.flights.find? fun f => f.num == h.1).map fun f => f.hdr
    else none
  | 6 => if 64 + 32 * arg + 32 ≤ checked.length then some (slice checked (64 + 32 * arg) 32) else none
  | 7 => if e.up then Tab.get? e.img.sparams arg else none
  | 8 =>
    if lead then (Tab.get? e.cmp.newest arg).map Allow.bytes
    else if e.up && arg == e.img.rank then
      (((Tab.vals e.pgv.records).getLast?).orElse fun _ => e.pgv.startRecord).map fun a => { a with rank := arg }.bytes
    else none
  | _ => none

/-- A write of RYV_DBG_PEEK_ARG starts a copy. -/
def Eng.startPeek (e : Eng) (val : Word) : Eng :=
  let e := (e.legIn .peekCopy).setReg Reg.DBG_PEEK_ARG val
  { e with dbg := { e.dbg with valid := false, err := false, copying := some (e.fld Reg.DBG_PEEK_SEL 3 0, val.toNat) } }

/-- The copy completes. -/
def Eng.endPeek (e : Eng) : Eng :=
  match e.dbg.copying with
  | none => e
  | some (kind, arg) =>
    let d := { e.dbg with copying := none, valid := true }
    match e.structure_ kind arg with
    | some b => { e with dbg := { d with win := (b ++ zeros 64).take 64 } }
    | none => { e with dbg := { d with err := true, win := zeros 64 } }

/-! ## Tests in service (R379 to R382) -/

def Eng.setTest (e : Eng) (t : TestReq) : Eng := { e with dbg := { e.dbg with test := t } }

/-- DBG_TEST: 0 started, 1 passed, 2 failed, 3 ended by R381, 4 cancelled. A failure has a second entry. -/
def Eng.noteTest (e : Eng) (outcome : Nat) (more : Bytes) : Eng :=
  let t := e.dbg.test
  e.present (e.notice 0xE2 1 0 (evData [(16, 1, t.kind), (17, 1, t.index), (18, 1, outcome), (20, 4, t.waitedMs)]) more)

/-- The unit of a test exists here and is in service (R379). -/
def Eng.testable (e : Eng) (kind index : Nat) : Bool :=
  match kind with
  | 1 => e.isTail && (e.lane index).mode != 2
  | 2 => e.isLead && decide (index < 4) && !bit e.dir.failed index
  | 3 => true
  | _ => false

/-- A GO write of the holder. One that comes while a request waits or runs leaves that request as it is (log entry 72). -/
def Eng.requestTest (e : Eng) (val : Nat) : Eng :=
  let kind := bitsOf val 25 24
  let index := bitsOf val 5 0
  if e.dbg.test.state = 1 ∨ e.dbg.test.state = 2 then e
  else if !e.up || !e.testable kind index then e.setTest { state := 7, kind := kind, index := index, since := e.now }
  else
    let quiet := decide (kind = 3 ∧ e.param 0x0B0E = 0 ∧ e.pgv.quietReq = false)
    let e := e.setTest { state := 1, kind := kind, index := index, since := e.now, quiet := quiet }
    if quiet then e.modPgv fun g => { g with quietReq := true } else e

/-- CANCEL ends a waiting request; PGV's records then drop the QUIET_REQ that was set for it. -/
def Eng.cancelTest (e : Eng) : Eng :=
  if e.dbg.test.state = 1 then
    let e := if e.dbg.test.quiet then e.modPgv fun g => { g with quietReq := false } else e
    (e.setTest { e.dbg.test with state := 6 }).noteTest 4 []
  else e

/-- No kernel runs on the chip. -/
def Eng.noKernel (e : Eng) : Bool := !(e.dsq.parts.any fun p => p.2.jobs.any Job.kernelRuns)

/-- The start condition of Table 13-11 and R381. A slice test starts at a seal, so in a command of the time at which CMP sealed. -/
def Eng.testMayStart (e : Eng) : Bool :=
  let t := e.dbg.test
  match t.kind with
  | 1 =>
    let recent := match Tab.get? e.smp.tight (t.index / 32) with
      | some i => decide (((e.cmp.checked.map Desc.num).getD 0) < i + 64)
      | none => false
    (e.lane t.index).mode == 0 && !recent
  | 2 =>
    let calm := decide (Tab.getD e.dir.lookLast t.index 0 ≤ 10240 ∨ t.since + e.param 0x0E01 * 1000000 ≤ e.now)
    e.failedOrOffline == 0 && calm && e.cmp.sealAt == some e.now && e.cmp.sealCalm
  | _ => if e.param 0x0B0E ≠ 0 then e.noKernel else e.quietRuns

/-- A waiting test starts. -/
def Eng.startTest (e : Eng) : Eng :=
  let t := e.dbg.test
  if t.state ≠ 1 || !e.testMayStart then e
  else
    let e := (e.setTest { t with state := 2, since := e.now, waitedMs := min ((e.now - t.since) / 1000000) 0xFFFF }).noteTest 0 []
    match t.kind with
    | 1 => e.setLane t.index { e.lane t.index with mode := 3 }
    | 2 => (Eng.dropSlice { e with dir := { e.dir with offline := e.dir.offline ||| 2 ^ t.index } } t.index).markOffline
    | _ => e.modPgv fun g => { g with calUntil := some (e.now + 80000) }

/-- How long a test runs, at the nominal clock [ns] (Table 13-11). -/
def testNs : Nat → Nat
  | 1 => 2000000
  | 2 => 40000000
  | _ => 80000

/-- A test ends, once it has run its time. A sensor that fails calibration is a rail's current sense below 6, a thermal sensor from 6 on (log entry 72). -/
def Eng.endTest (e : Eng) (pass : Bool) (failAddr syndrome : Nat) : Eng :=
  let t := e.dbg.test
  if t.state ≠ 2 ∨ e.now < t.since + testNs t.kind then e
  else
    let e := e.setTest { t with state := if pass then 3 else 4 }
    let e := e.noteTest (if pass then 1 else 2) (if pass then [] else layout 32 [(0, 8, failAddr), (8, 8, syndrome)])
    match t.kind with
    | 1 =>
      let e := e.setLane t.index { e.lane t.index with mode := 0 }
      if pass then Eng.assignLanes 64 e else e.retireLane t.index 1
    | 2 =>
      let e := e.waitEnd 18 (2 + t.index) t.index t.since
      let e := { e with dir := { e.dir with offline := e.dir.offline &&& (0xF - 2 ^ t.index) } }
      if pass then e else e.failSlice t.index
    | _ =>
      let e := e.modPgv fun g => { g with calUntil := none }
      if pass then e
      else if failAddr < 2 then e.senseFailed failAddr 1
      else if failAddr < 6 then e
      else e.modPgv fun g => { g with badSensors := failAddr :: g.badSensors }

/-- A stream has waited 10 µs during a lane test: the lane returns (R381). -/
def Eng.abortLaneTest (e : Eng) : Eng :=
  let t := e.dbg.test
  let waits := e.smp.waiting.any fun s => decide (s.since + 10000 ≤ e.now) && e.streamReady s
  if t.state = 2 ∧ t.kind = 1 ∧ waits = true then
    let e := (e.setTest { t with state := 5 }).noteTest 3 []
    Eng.assignLanes 64 (e.setLane t.index { e.lane t.index with mode := 0 })
  else e

end Sys2Proof.Machine
end

