-- ==== Sys2Proof/Machine/Boot.lean ====
section
/-! DEFINITION. Start-up, resets, the hold-up and power-down, and the bank operations (12 R333 to R346, 01 R28). -/

namespace Sys2Proof.Machine

def Eng.modIml (e : Eng) (f : Iml → Iml) : Eng := { e with iml := f e.iml }

/-! ## Reset state (Table 12-7, 00 R14) -/

/-- The factory defaults that AON ROM holds (R331). -/
def factoryImage : Image := { classes := factoryClasses }

/-- Windows of the islands in `ns` begin now. -/
def Eng.startIslands (e : Eng) (ns : List Nat) : Eng :=
  { e with isl := ns.foldl (fun m n => Tab.put m n { tsStart := e.now, limit := e.fld Reg.ISL_STRETCH_LIMIT 15 0 }) e.isl }

/-! ## Pins (14 R400) -/

/-- IML runs a flash operation: SF_CS_N is low. The levels of the clock and of the data lines within the transfer are free values
(log entry 151). -/
def Eng.selectFlash (e : Eng) : Eng :=
  let (k, e) := e.freshN 2
  e.modIml fun i => { i with pins := { csN := false, clk := Config.unstated k % 2 == 1, io := some (Config.unstated (k + 1) % 16) } }

/-- IML runs no flash operation. -/
def Eng.releaseFlash (e : Eng) : Eng := e.modIml fun i => { i with pins := {} }

/-- AVSBus pins are driven while a voltage write is in flight, and PMBus pins while a poll is. -/
def Eng.busesReleased (e : Eng) : Bool := e.pgv.pmbBusy.isEmpty && e.pgv.seq.wait.isNone

/-- Every island but AON reset; PGV, TEL and DBG released, holding OP7 and k = 1 (11 R297). The timestamp and its
discipline, LAST_BREAK and what IML keeps stay. The pins stand as R400 has them, and CAP_FAIL_N is released where UNATTAINABLE
held it low (11 R308). -/
def Eng.afterReset (e : Eng) : Eng :=
  let e := if e.pgv.ladder = 5 then e.send (.capFail false) else e
  let r : Eng := { now := e.now, free := e.free, out := e.out, iml := { e.iml with pins := {} }, img := factoryImage
                   tel := { timeState := e.tel.timeState, inLock := e.tel.inLock, lastMeas := e.tel.lastMeas, offset := e.tel.offset }
                   dbg := { lock := { lastBreak := e.dbg.lock.lastBreak } } }
  let r := r.setFld Reg.ISL_STRETCH_LIMIT 15 0 (r.param 0)
  let r := r.modPgv fun g => { g with cap := r.param 0x0B00, level := r.depth }
  ((r.startIslands [0, 14, 16, 17]).send (.cluster (.skip 1 []))).send (.cluster (.clock (r.op 7).mhz))

/-! ## Start-up (R333, R334, R337) -/

def Eng.fuses (e : Eng) : Fuses := { keyHash := e.iml.keyHash, sigRequired := e.iml.sigRequired, wrapKey := e.iml.wrapKey }

def Eng.bankBase (e : Eng) (b : Nat) : Nat := b * e.iml.fm.bankSize
def Eng.headerOf (e : Eng) (b : Nat) : BankRead := readHeader e.iml.flash.cells (e.bankBase b) e.iml.fm.bankSize
def Eng.readBankOf (e : Eng) (b : Nat) : BankRead := readBank e.fuses e.iml.flash.cells (e.bankBase b) e.iml.fm.bankSize

def Eng.setBank (e : Eng) (b : Nat) (k : Bank) : Eng := e.modIml fun i => { i with banks := i.banks.set b k }

/-- IML_IMAGE_INVALID for bank `b`. -/
def Eng.tellInvalid (e : Eng) (b : Nat) (v : Verdict) : Eng :=
  e.raise 0x10 3 0 [(16, 1, b), (17, 1, v.reason), (18, 2, v.entry), (20, 2, v.typ), (22, 2, v.inst), (24, 1, v.cls)]

/-- IML_RECORD_INVALID for each record a home rule makes invalid (R332). -/
def Eng.tellRecords (e : Eng) (rs : List ImgRec) : Eng :=
  (invalidRecords rs).foldl (fun e p => e.raise 0x12 1 0 [(16, 2, p.1), (18, 2, p.2)]) e

/-- No bank is valid: the engine stays in start-up with the factory defaults (R334). -/
def Eng.noBank (e : Eng) : Eng := e.modIml fun i => { i with phase := 13 }

/-- Discovery has failed: start-up goes on as for an engine with no valid bank (R322). Each bank's reason is then that its
header was not found (log entry 70). -/
def Eng.noFlash (e : Eng) (cause : Nat) : Eng :=
  let e := (e.modIml fun i => { i with found := false }).raise 0x13 3 0 [(16, 1, cause)]
  let e := [0, 1].foldl (fun e b => (e.setBank b { reason := 1 }).tellInvalid b { reason := 1 }) e
  e.noBank

/-- A partition as it is once the image is loaded (06 R135). -/
def PartCfg.start (c : PartCfg) : Part := { sems := c.semInit, free := c.creditPool }

/-- The stores of a valid bank, and every subsystem as it leaves reset with them (03 R50, R61, 04 R89, 11 R297). The free list
of start-up holds the owned blocks in ascending order: 03 R52 gives an order to granted blocks only (DESIGN CHOICE, log entry
123). -/
def Eng.loadImage (e : Eng) (img : Image) : Eng :=
  let e := { e with img := img }
  let e := e.setFld Reg.ISL_STRETCH_LIMIT 15 0 (e.param 0)
  let e := (e.setFld Reg.PGV_CTRL 31 31 (e.param 0x0B19)).setFld Reg.PGV_CTRL 26 24 (e.param 0x0B1A)
  let e := e.modPgv fun g => { g with cap := e.param 0x0B00, level := e.depth, fixed := e.param 0x0B19 == 1, fixedOp := e.param 0x0B1A }
  let e := e.writeRate
  { e with
    dir := { e.dir with ownBase := if img.wing = 0 then 0 else 1
                        free := [.blocks (if img.wing = 0 then 0 else 1) 2 32768 0]
                        stackA := img.layout.dirA, stackB := img.layout.dirB }
    ldg := { tenants := (List.range 1024).map fun t => (t, { level := 256 * (e.tcfg t).depth, lastNs := e.now }) }
    dln := { e.dln with limit := e.param 0 }
    cmp := { e.cmp with active := true }
    dsq := { e.dsq with parts := img.partitions.map fun p => (p.1, p.2.start) }
    twm := { e.twm with lastRx := e.now, lastSnap := e.now } }

/-- BIST's verdict on a directory slice (01 R28, 03 R63): epoch 0 then starts on the slices left. -/
def Eng.bistSlice (e : Eng) (s : Nat) : Eng :=
  if bit e.dir.failed s ∨ 4 ≤ s then e
  else
    let second := decide (e.dir.failed ≠ 0)
    let e := { e with dir := { e.dir with failed := e.dir.failed ||| 2 ^ s } }
    let e := e.raise 0x32 3 0 [(16, 1, s), (17, 1, e.dir.failed)]
    if second then e.declareFailed else e

/-- The start-up report (05 R128): an allowance built with T as PERIOD_MAX_US, which the first two instars run under. What BIST
retired is part of this report's start, and the next report's bit 2 counts from here. -/
def Eng.startReport (e : Eng) : Eng :=
  let t := e.modPgv fun g => { g with lastPeriod := 1000 * e.param 0x0602 }
  let a : Allow := { t.buildAllowance 0 with instar := 0xFFFFFFFF }
  let e := Eng.modPgv { e with dsq := { e.dsq with retired := false } } fun g => { g with startRecord := some a }
  e.gatherReport (e.reportBytes 0xFFFFFFFF 0 0 (min e.sigmaChip 0xFFFF) a) true

/-- BIST fails a unit other than a lane (01 R28): it is retired as a failure of Table 1-6 retires it, and stays so until the next engine reset. -/
def Eng.bistFails (e : Eng) : BistUnit → Eng
  | .slice n => if e.isLead then e.bistSlice n else e
  | .channel n => e.retireChannel n
  | .core g c => e.fenceCore g c
  | .stack n lost => e.stackFailed n lost
  | .target n => if (Tab.get? e.img.targets n).isSome then e.failTarget n 0 else e
  | .phase r n => e.phaseFailed r n
  | .sense r => e.senseFailed r 1

/-- Steps 8 to 11 with bank `b`: the image is loaded, BIST runs, the islands leave reset (Table 12-6). -/
def Eng.startUp (e : Eng) (b : Nat) (r : BankRead) (bad : List Nat × List BistUnit) : Eng :=
  let e := (e.loadImage (buildImage r.recs r.keys)).tellRecords r.recs
  let e := e.modIml fun i => { i with phase := 12, bankInUse := b, signedOk := r.signed, digest := r.digest }
  let e := bad.2.foldl Eng.bistFails (bad.1.foldl (fun e n => e.retireLane n 1) e)
  let e := { e with dir := { e.dir with slots := [(0, { epoch := 0, k1 := e.iml.bootRandom, mask := 0xF - e.dir.failed % 16 })] } }
  let e := e.startIslands [1, 2, 3, 4, 5, 6, 7, 8, 9, 10, 11, 12, 13, 15]
  let e := e.raise 0x14 0 0 [(16, 1, b), (20, 4, r.seq), (24, 4, e.iml.bootCycles)]
  e.startReport

/-- Step 7 is over: the banks are read and one is chosen (R333), or none is valid (R334). -/
def Eng.readBanks (e : Eng) (bad : List Nat × List BistUnit) : Eng :=
  let a := e.readBankOf 0
  let b := e.readBankOf 1
  let c := chooseBank a b
  let bank (i : Nat) := if i = 0 then a else b
  let e := [0, 1].foldl (fun e i =>
    let r := bank i
    if c.full.contains i then
      let ok := decide (r.v.reason = 0)
      e.setBank i { seq := r.seq, checked := true, valid := ok, reason := r.v.reason, entry := if r.v.reason = 4 then r.v.entry else 0 }
    else e) e
  let e := c.full.foldl (fun e i => if (bank i).v.reason = 0 then e else e.tellInvalid i (bank i).v) e
  let more := sumN (c.full.map fun i => bankCount e.iml.fm (bank i))
  let e := e.modIml fun i => { i with bootCycles := (i.bootCycles + more) % 2 ^ 32 }
  match c.use with
  | none => e.noBank
  | some i =>
    let e := match c.tie with
      | some cause => (e.modIml fun m => { m with tie := true }).raise 0x11 2 0 [(16, 1, cause), (20, 4, a.seq), (24, 4, b.seq)]
      | none => e
    let e := e.modIml fun m => { m with bootCycles := (m.bootCycles + 400896) % 2 ^ 32 }
    e.startUp i (bank i) bad

/-- Step 6: both header pages, whose faults are told; then step 7, or the end where neither header is valid (R333, R334). -/
def Eng.readHeaders (e : Eng) : Eng :=
  let e := e.modIml fun i => { i with phase := 7, bootCycles := i.bootCycles + 2 * i.fm.burst 4096 }
  let e := [0, 1].foldl (fun e b =>
    let h := e.headerOf b
    let e := e.setBank b { seq := h.seq, reason := h.header }
    if h.header ≠ 0 then e.tellInvalid b h.v else e) e
  if (e.headerOf 0).header ≠ 0 ∧ (e.headerOf 1).header ≠ 0 then e.noBank
  else match e.iml.hbm with
  | some h => e.readBanks h
  | none => e

/-- Steps 3 to 5. -/
def Eng.findFlash (e : Eng) : Eng :=
  let e := e.modIml fun i => { i with phase := 5, bootCycles := i.bootCycles + 100072 + 16548 }
  match discover e.iml.flash.sfdp with
  | .inl c => e.noFlash c
  | .inr f =>
    let e := e.modIml fun i => { i with fm := f, found := true, bootCycles := i.bootCycles + 512 }
    if f.needsWrite then e.selectFlash else e.readHeaders

/-- The quad-enable or 4-byte status write completes. -/
def Eng.statusWritten (e : Eng) (ok : Bool) : Eng :=
  if e.iml.phase ≠ 5 ∨ !e.iml.found ∨ !e.iml.fm.needsWrite then e
  else
    let e := e.releaseFlash
    if ok then e.readHeaders else e.noFlash 2

/-- HBM-ready is sampled high. -/
def Eng.hbmIsReady (e : Eng) (bad : List Nat × List BistUnit) : Eng :=
  if e.iml.phase = 7 then (e.modIml fun i => { i with hbm := some bad }).readBanks bad
  else if e.iml.phase < 7 ∧ e.iml.phase ≠ 0 then e.modIml fun i => { i with hbm := some bad }
  else e

/-- The order in which rails are enabled (Table 12-6 step 2), by Table 11-15's indices. -/
def railOrder : List Nat := [4, 3, 2, 1, 0]

def Eng.enableRail (e : Eng) (r : Nat) (on : Bool) : Eng :=
  (e.modIml fun i => { i with enabled := i.enabled.set r on }).send (.enable r on)

/-- The next enable of step 2, or step 3 once every rail is good. -/
def Eng.nextRail (e : Eng) : Eng :=
  match railOrder.find? fun r => !e.iml.pg.getD r false with
  | none => e.findFlash
  | some r => if e.iml.enabled.getD r false then e else e.enableRail r true

/-- A rail's power good rises. -/
def Eng.railGood (e : Eng) (r : Nat) : Eng :=
  if !e.iml.enabled.getD r false then e
  else
    let e := e.modIml fun i => { i with pg := i.pg.set r true }
    if e.iml.phase = 2 then e.nextRail else e

/-- The state with VAON down: all is cleared but the flash's contents (Table 12-7). How many cold boots there were is the
model's own count, the argument of Config.bootRandom. -/
def Eng.powerOff (e : Eng) : Eng :=
  { now := e.now, free := e.free, out := e.out, iml := { flash := e.iml.flash, boots := e.iml.boots } }

/-- VAON is good: a cold boot (R337), the fuses and boot_random read in step 1. -/
def Eng.coldBoot (e : Eng) (fuses : Bytes) : Eng :=
  if e.iml.phase ≠ 0 then e
  else
    let e := e.powerOff.modIml fun i => { i with
      phase := 2, keyHash := (fuses ++ zeros 32).take 32, sigRequired := bit (u8 fuses 32) 0,
      wrapKey := (fuses.drop 33 ++ zeros 32).take 32, bootRandom := (Config.bootRandom i.boots).toNat, boots := i.boots + 1,
      bootCycles := 2048 + 80 }
    e.afterReset.nextRail

/-! ## Resets (R338, R339) -/

/-- The bytes of a flash range that an interrupted or failed operation leaves: nothing is stated of them (log entry 20). -/
def Eng.spoilFlash (e : Eng) (a n : Nat) : Eng :=
  let k := e.free
  let b := (List.range n).map fun i => Config.opaqueByte (k + i)
  { e.modIml fun i => { i with flash := { i.flash with cells := writeCells a b i.flash.cells } } with free := k + n }

/-- Where a bank operation of address `addr` falls in the flash: the alternate bank, or with no valid bank either one, the
second from the bank size on (log entry 69). -/
def Eng.flashAddr (e : Eng) (addr : Nat) : Nat :=
  if e.iml.phase = 12 then e.bankBase (1 - e.iml.bankInUse) + addr else addr

/-- A bank operation that is cut short leaves its range as it may. -/
def Eng.cutFlashOp (e : Eng) : Eng :=
  match e.iml.opBusy with
  | some (0, a) => e.spoilFlash (e.flashAddr a) 65536
  | some (1, a) => e.spoilFlash (e.flashAddr a) 4096
  | _ => e

/-- An engine reset of a cause (Table 12-7), performed now. -/
def Eng.resetNow (e : Eng) (cause : Nat) : Eng :=
  let l := e.dbg.lock
  let brk (e : Eng) : Eng := if l.held then e.noteLock 5 l.holder l.staged.length else e
  let e := if l.held then e.setLock { lastBreak := 4 } else e
  let e := e.cutFlashOp
  let i := e.iml
  let i := { i with fm := {}, found := false, bankInUse := 0, signedOk := false, tie := false, banks := [{}, {}], digest := []
                    bootCycles := 0, cause := cause, resets := min (i.resets + 1) 0xFFFF, hbm := none, deferred := none
                    opBusy := none, opSince := 0, wrState := 0, wrCode := 0 }
  let e := brk ({ e with iml := i }.afterReset)
  if e.iml.phase = 2 then e else e.findFlash

/-- An engine reset is asked for: it waits for the checkpoint of a hold-up (R339). The message to the children goes at once
(Table 12-7). -/
def Eng.askReset (e : Eng) (cause : Nat) (flutter : Bool) : Eng :=
  if !e.aonUp then e
  else
    let e := if flutter then e.down 0x01 (layout 64 [(0, 6, e.cmp.last)]) else e
    if 1 ≤ e.iml.hold ∧ e.iml.hold ≤ 3 then e.modIml fun i => { i with deferred := some { flutter := flutter, cause := cause } }
    else if e.iml.hold = 4 then e
    else e.resetNow cause

/-! ## The hold-up (R340 to R342) -/

def Eng.flushedMiB (e : Eng) : Nat := e.iml.flushed / 2 ^ 20

/-- IML_HOLDUP. -/
def Eng.noteHoldup (e : Eng) (phase : Nat) : Eng := e.raise 0x15 3 0 [(16, 1, phase), (20, 4, e.flushedMiB)]

/-- Enters a state of Table 12-8. -/
def Eng.setHold (e : Eng) (st : Nat) : Eng := e.modIml fun i => { i with hold := st, since := e.now }

/-- The sequence starts: STOPPING. Stepping ends and a snapshot is abandoned (13 R376, R341). -/
def Eng.startHoldup (e : Eng) : Eng :=
  let e := e.bump Reg.IML_HOLDUP 7 0 1
  let e := (e.setHold 1).modIml fun i => { i with flushed := 0, flushPages := [], flushCut := false }
  (e.abandonSnap.endStepping).noteHoldup 0

/-- Two low samples in a row count as a warning. -/
def Eng.warned (e : Eng) : Eng :=
  if !e.aonUp || e.iml.warn then e
  else
    let e := e.modIml fun i => { i with warn := true }
    match e.iml.hold with
    | 0 => e.startHoldup
    | 5 => e.bump Reg.IML_HOLDUP 15 8 1
    | _ => e

/-- The engine resumes: a deferred reset takes the place of resuming (R339). -/
def Eng.resume (e : Eng) : Eng :=
  let e := e.setHold 5
  match e.iml.deferred with
  | some d => e.resetNow d.cause
  | none => e.noteHoldup 2

/-- The warning clears. -/
def Eng.warnCleared (e : Eng) : Eng :=
  if !e.aonUp then e
  else
    let e := e.modIml fun i => { i with warn := false }
    if e.iml.hold = 3 then e.resume else e

/-- The instars in flight on this engine (R340): at the Lead the launched ones not committed, elsewhere the shards held. -/
def Eng.shardsInFlight (e : Eng) : List Nat :=
  if e.isLead then (e.cmp.flights.filter fun f => f.launched && !f.done).map Flight.num else e.dsq.shards.map Shard.num

/-- Sessions whose last log page is partial, and that page (R341). -/
def Eng.partialPages (e : Eng) : List (Nat × Nat) :=
  (e.twm.durLogs.filter fun p => decide (p.2.length % 512 ≠ 0)).map fun p => (p.1, p.2.length / 512)

/-- Starts flush writes, records first and then partial log pages, at most 8 outstanding. -/
def Eng.pumpFlush (e : Eng) : Eng :=
  let e := if e.iml.flushCut then e else Eng.startFlush 8 8 e
  if e.flushNext.isSome || e.iml.flushCut then e
  else
    let n := 8 - e.twm.flushOut.length
    let now := e.iml.flushPages.take n
    let last := e.twm.flushOut.getLast?.getD e.twm.t3Flushed
    let e := now.foldl (fun e p => (e.send (.far (.logPage e.img.layout.t3Journal p.1 p.2)))) e
    { e with iml := { e.iml with flushPages := e.iml.flushPages.drop n }
             twm := { e.twm with flushOut := e.twm.flushOut ++ now.map fun _ => last } }

/-- The checkpoint (R341), which no flash operation in flight may pass (R344). A flush ended by a lost rail counts as done
(log entry 70). -/
def Eng.checkpoint (e : Eng) : Bool :=
  let paired := if e.isLead then e.twm.wing == .paired else e.twm.handshake && !e.twm.twinLost
  let written := e.twm.flushOut.isEmpty && e.flushNext.isNone && e.iml.flushPages.isEmpty
  (e.iml.flushCut || (written && (!paired || e.twm.durable == e.twm.appended))) && e.iml.opBusy.isNone

/-- STOPPING ends: the flush starts. -/
def Eng.beginFlush (e : Eng) : Eng :=
  ((e.setHold 2).modIml fun i => { i with flushPages := e.partialPages }).pumpFlush

/-- What the hold-up does as its conditions come true (Table 12-8). -/
def Eng.settleHold (e : Eng) : Eng :=
  let e := if e.iml.hold = 1 ∧ e.shardsInFlight.isEmpty then e.beginFlush else e
  if e.iml.hold ≠ 2 then e
  else
    let e := e.pumpFlush
    if !e.checkpoint then e
    else if e.iml.warn then (e.setHold 3).noteHoldup 1
    else e.resume

/-- The last-word bound of R126 and the watchdog bound of R128 [ns]. -/
def Eng.watchdogNs (e : Eng) (period width : Nat) : Nat :=
  2 * (period + treeDepth e.img.n * 1200 + ceilDiv (64 + 32 * width) 200)

/-- The watchdog bound of the instar in flight passes in STOPPING: it is dropped uncommitted (Table 12-8). -/
def Eng.dropInFlight (e : Eng) : Eng :=
  if e.iml.hold ≠ 1 then e
  else if e.isLead then
    match e.cmp.flights.filter fun f => f.launched && !f.done with
    | [] => e
    | f :: l =>
      let g := l.getLast?.getD f
      if e.now < max g.launch e.dbg.wdFrom + e.watchdogNs g.periodNs g.entries.length then e
      else (e.abortFrom f.num e.img.rank).beginFlush
  else
    match e.dsq.shards, e.cmp.checked with
    | s :: _, some d =>
      if e.now < u64 d.raw 16 + e.watchdogNs (u32 d.raw 24) (u16 d.raw 12) then e else (e.applyAbort s.num).beginFlush
    | _, _ => e

/-- The oldest flush or trail write completes. -/
def Eng.flushDone (e : Eng) : Eng := e.flushWritten

/-- The dwell of 100 ms ends; a warning that is present starts the sequence again. -/
def Eng.endDwell (e : Eng) : Eng :=
  if e.iml.hold ≠ 5 ∨ e.now < e.iml.since + 100000000 then e
  else if e.iml.warn then e.startHoldup
  else e.setHold 0

/-! ## Power-down (R344, R345) -/

/-- IML_RAIL_FAULT; the first drives PD_FAULT_N. -/
def Eng.railFault (e : Eng) (r kind : Nat) : Eng :=
  let e := e.raise 0x16 3 0 [(16, 1, r), (17, 1, kind)]
  if e.iml.pdFault then e else (e.modIml fun i => { i with pdFault := true }).send .pdFault

/-- Takes the next rail down: its enable is deasserted, and a rail that has fallen already is passed. -/
def Eng.powerDown : Nat → Eng → Eng
  | 0, e => e
  | fuel + 1, e =>
    match (List.range 6).find? fun r => e.iml.enabled.getD r false with
    | none => e.modIml fun i => { i with pdRail := none }
    | some r =>
      let e := e.enableRail r false
      if e.iml.pg.getD r false then e.modIml fun i => { i with pdRail := some r, since := e.now }
      else Eng.powerDown fuel e

/-- RIDE_MS has passed since the checkpoint: power-down, with k = 1 on every cluster. -/
def Eng.rideOut (e : Eng) : Eng :=
  if e.iml.hold ≠ 3 ∨ e.now < e.iml.since + e.param 0x0100 * 1000000 then e
  else Eng.powerDown 6 ((e.setHold 4).limFall.noteHoldup 3)

/-- A rail's power good falls. -/
def Eng.railFell (e : Eng) (r : Nat) : Eng :=
  if !e.iml.pg.getD r false then e
  else
    let e := e.modIml fun i => { i with pg := i.pg.set r false }
    if r = 5 then e.powerOff
    else if e.iml.pdRail = some r then Eng.powerDown 6 e
    else if e.iml.hold = 0 || !e.iml.enabled.getD r false then e
    else
      let e := (e.modIml fun i => { i with early := i.early ||| 2 ^ r }).railFault r 0
      if e.iml.hold = 2 then
        { e with iml := { e.iml with flushCut := true, flushPages := [] }, twm := { e.twm with flushOut := [] } }
      else e

/-- A rail is still up PD_RAIL_MS after its enable fell. -/
def Eng.railLate (e : Eng) : Eng :=
  match e.iml.pdRail with
  | none => e
  | some r =>
    if e.now < e.iml.since + e.param 0x0101 * 1000000 then e
    else Eng.powerDown 6 ((e.modIml fun i => { i with late := i.late ||| 2 ^ r }).railFault r 1)

/-! ## Bank operations (R335, R336, Table 12-5) -/

/-- The code of the first refusal that applies, 0 for none (Table 12-25). -/
def Eng.opRefused (e : Eng) (op req addr : Nat) : Nat :=
  let inUse := decide (e.iml.phase = 12)
  if (op = 0 ∧ addr % 65536 ≠ 0) ∨ addr % 4096 ≠ 0 then 1
  else if (if inUse then e.iml.fm.bankSize else 2 * e.iml.fm.bankSize) ≤ addr then 2
  else if e.iml.hold ≠ 0 then 3
  else if !e.holds req then 6
  else 0

/-- The transfer buffer's bytes. -/
def Eng.wrBuf (e : Eng) : Bytes := (List.range 1024).flatMap fun i => leBytes 4 (e.reg (Reg.IML_WR_BUF i)).toNat

/-- VALIDATE fills the bank's registers. -/
def Eng.validateBank (e : Eng) (b : Nat) : Eng :=
  let r := e.readBankOf b
  let ok := decide (r.v.reason = 0)
  let e := e.setBank b { seq := r.seq, checked := r.header == 0, valid := ok, reason := r.v.reason
                         entry := if r.v.reason = 4 then r.v.entry else 0 }
  if ok then e.tellRecords r.recs else e.tellInvalid b r.v

/-- How long the erase or program in flight may take [ns]: the BFPT's maximum, for each page of a program (R336). -/
def Eng.opMax (e : Eng) (op : Nat) : Nat :=
  if op = 0 then e.iml.fm.eraseMs * 1000000 else ceilDiv 4096 e.iml.fm.pageSize * e.iml.fm.progUs * 1000

/-- Twice the maximum has passed: the completion fails (R336). -/
def Eng.opLate (e : Eng) (op : Nat) : Bool := decide (e.iml.opSince + 2 * e.opMax op < e.now)

/-- An operation is over: what it did, and its event. -/
def Eng.tellOp (e : Eng) (op addr code : Nat) : Eng :=
  let e := e.releaseFlash.modIml fun i => { i with opBusy := none, wrState := if code = 0 then 2 else 3, wrCode := code }
  let e := if code = 0 then e.bump Reg.IML_WR_STATUS 15 0 1 else e
  e.raise 0x17 1 0 [(16, 1, op), (17, 1, code), (20, 4, addr)]

/-- READ: 4 KiB of the flash go to the buffer. -/
def Eng.readFlash (e : Eng) (addr : Nat) : Eng :=
  let b := readCells e.iml.flash.cells (e.flashAddr addr) 4096
  (List.range 1024).foldl (fun e i => e.setReg (Reg.IML_WR_BUF i) (BitVec.ofNat 32 (u32 b (4 * i)))) e

/-- A write of RYV_IML_WR_CTRL with GO. While an operation runs it starts nothing (log entry 69). An erase or a program goes on
until the flash completes it; the reads of READ and VALIDATE are the engine's own (R323). -/
def Eng.startFlashOp (e : Eng) (op req addr : Nat) : Eng :=
  if !e.aonUp || e.iml.opBusy.isSome then e
  else
    let c := e.opRefused op req addr
    if c ≠ 0 then e.modIml fun i => { i with wrState := 3, wrCode := c }
    else
      let e := e.setReg Reg.IML_WR_ADDR (BitVec.ofNat 32 addr)
      match op with
      | 2 => (e.readFlash addr).tellOp 2 addr 0
      | 3 => (e.validateBank (if e.iml.phase = 12 then 1 - e.iml.bankInUse else addr / e.iml.fm.bankSize)).tellOp 3 addr 0
      | _ => e.selectFlash.modIml fun i => { i with opBusy := some (op, addr), opSince := e.now, wrState := 1, wrCode := 0 }

/-- The erase or program in flight completes, or times out: `result` 4, which takes effect once twice the maximum has passed, when
any completion fails with that code. `result` 5 is a verify mismatch of a PROGRAM; programming clears bits only, so a page that
was not erased fails its verify. -/
def Eng.endFlashOp (e : Eng) (result : Nat) : Eng :=
  match e.iml.opBusy with
  | none => e
  | some (op, addr) =>
    let late := e.opLate op
    if result = 4 ∧ late = false then e
    else
      let a := e.flashAddr addr
      let cells := e.iml.flash.cells
      let buf := e.wrBuf
      let after := List.zipWith (· &&& ·) (readCells cells a 4096) buf
      let bad := decide (op = 1 ∧ result = 5)
      let code := if late then 4 else if bad = true ∨ (op = 1 ∧ after ≠ buf) then 5 else 0
      let put (e : Eng) (m : Tab Byte) : Eng := e.modIml fun i => { i with flash := { i.flash with cells := m } }
      let e :=
        if op = 1 then (if late || bad then e.spoilFlash a 4096 else put e (writeCells a after cells))
        else if late then e.spoilFlash a 65536 else put e (eraseCells a 65536 cells)
      e.tellOp op addr code

end Sys2Proof.Machine
end

