-- ==== Sys2Proof/Machine/Relay.lean ====
section
/-! DEFINITION. The flutter tree's traffic at one engine: descriptors with their resend, instar-end reports, the instar
watchdog and bad frames (05 R125 to R128, 14 R387, R388), and legs that time out (02 R40, R405). -/

namespace Sys2Proof.Machine

/-! ## Descriptors (R126) -/

/-- The instar that this engine expects a descriptor of next: the one after the last checked; `n` before the first. -/
def Eng.nextInstar (e : Eng) (n : Nat) : Nat :=
  match e.cmp.checked with
  | some d => (d.num + 1) % 2 ^ 48
  | none => n

/-- BCAST_RESEND's event: outcome 0 recovered, 1 failed. -/
def Eng.noteResend (e : Eng) (outcome : Nat) : Eng :=
  e.raise 0x64 1 0 [(16, 1, e.img.rank), (17, 1, e.parent), (18, 1, outcome)]

/-- A descriptor fails its checks, or its last word does not come: it is asked for once, and a second failure ends the
engine's roles. -/
def Eng.descriptorFailed (e : Eng) (n : Nat) : Eng :=
  if e.isLead then e
  else if e.cmp.askedFor.isSome then
    (Eng.noteResend { e with cmp := { e.cmp with askedFor := none } } 1).declareFailed
  else
    let e := { e with cmp := { e.cmp with askedFor := some n } }
    (e.bump Reg.CMP_BCAST 15 0 1).upward 0x05 (layout 16 [(0, 6, n), (8, 1, e.img.rank)])

/-- A descriptor arrives: forwarded, checked and dispatched. A copy of an instar already checked changes nothing; a resent
copy is forwarded as the first was, so a child that asks while this engine waits is answered by it (log entry 74). -/
def Eng.receiveDescriptor (e : Eng) (raw : Bytes) : Eng :=
  let n := e.nextInstar (u48 raw 0)
  if e.isLead || (descOk raw && u48 raw 0 != n) then e
  else
    let e := { e with cmp := { e.cmp with kept := e.cmp.kept.filter fun d => d.num != u48 raw 0 } }
    let e := e.forwardDesc raw
    if !descOk raw then e.descriptorFailed n
    else
      let e := if e.cmp.askedFor.isSome then Eng.noteResend { e with cmp := { e.cmp with askedFor := none } } 0 else e
      e.takeDescriptor raw e.now (bit (u8 raw 7) 2)

/-- The bytes of a resent descriptor: RESEND set, HDR_CRC recomputed. -/
def resentDesc (raw : Bytes) : Bytes :=
  withCrc (raw.take 7 ++ [BitVec.ofNat 8 (u8 raw 7 ||| 4)] ++ slice raw 8 52) ++ raw.drop 64

/-- A child asks for a descriptor again. -/
def Eng.resendDescriptor (e : Eng) (b : Bytes) : Eng :=
  let n := u48 b 0
  let r := u8 b 8
  if b.length ≠ 16 ∨ !e.children.contains r ∨ e.cmp.askedFor = some n then e
  else match e.cmp.kept.find? fun d => d.num == n with
    | none => e
    | some d => (e.bump Reg.CMP_BCAST 31 16 1).send (.frame 0x04 0 r (resentDesc d.raw))

/-! ## The instar watchdog (R128) -/

/-- Rank `r` has not reported instar `n`, whose barrier is open. -/
def Eng.reportMissing (e : Eng) (n r : Nat) : Bool :=
  (e.cmp.flights.any fun f => f.num == n && f.launched && f.endTs == 0) && !e.cmp.reported.contains (repKey (n % 2 ^ 32) r)

/-- The Tails whose summary of instar `n` is missing. -/
def Eng.summariesMissing (e : Eng) (n : Nat) : List Nat :=
  e.tails.filter fun r => e.smp.merged.any fun m => m.instar == n && !m.got.contains r

/-- The bound has passed for the instar in flight, its last summary not in. DEBUG suspends the watchdog (13 R376). -/
def Eng.watchdogDue (e : Eng) (f : Flight) : Bool :=
  f.launched && !f.idle && !f.quiet && !f.turned && !e.debug && !e.cmp.stopped &&
    ((e.smp.merged.filter fun m => m.instar == f.num).isEmpty || !(e.summariesMissing f.num).isEmpty) &&
    decide (max f.launch e.dbg.wdFrom + e.watchdogNs f.periodNs f.entries.length ≤ e.now)

/-- The instar watchdog fires. -/
def Eng.instarLate (e : Eng) : Eng :=
  match e.inFlight with
  | none => e
  | some f =>
    if !e.watchdogDue f then e
    else
      let tell (cause : Nat) (e : Eng) (r : Nat) : Eng :=
        (e.raise 0x65 3 0 [(16, 1, r), (17, 1, cause), (20, 4, f.num % 2 ^ 32)]).treatFailed r
      match e.ranks.find? fun r => e.reportMissing (f.num - 1) r || e.reportMissing f.num r with
      | some r => tell 0 e r
      | none => (e.summariesMissing f.num).foldl (tell 1) e

/-! ## Frames (14 R387, R388) -/

/-- The message length that a class allows (Table 14-2). -/
def frameFits (cls len : Nat) : Bool :=
  let from_ (base step : Nat) : Bool := decide (base ≤ len) && (len - base) % step == 0
  match cls with
  | 0x01 | 0x02 | 0x03 | 0x06 | 0x07 | 0x08 | 0x20 => len == 64
  | 0x04 => from_ 64 32
  | 0x05 => len == 16
  | 0x10 => from_ 448 16
  | 0x11 => from_ 16 8
  | 0x12 => from_ 16 48
  | 0x13 | 0x21 => len == 32
  | 0x14 => len == 64 || len == 8256
  | 0x18 => from_ 16 16
  | 0x22 => from_ 32 16
  | _ => false

/-- A frame, header first, whose class is unknown or whose length disagrees with it is discarded and counted. -/
def Eng.badFrame (e : Eng) (b : Bytes) : Eng :=
  if frameFits (u8 b 0) (u32 b 4) && b.length == 16 + u32 b 4 then e
  else if u8 b 0 = 4 then e.descriptorFailed (e.nextInstar 0)
  else e.bump Reg.CMP_BCAST 15 0 1

/-! ## Legs (02 R40, R405) -/

/-- Bound [ns] of the HBM read of a stream of `n` bytes (07 R161), of up to 256 B with `n` = 0 (Table 2-3). -/
def hbmReadNs (n : Nat) : Nat := 480 + ceilDiv n 400

/-- Bound [ns] of a descriptor's leg for one page: its read and its write (Table 2-3, 09 Table 9-11). -/
def Eng.pageNs (e : Eng) (d : MDesc) : Nat :=
  let far : Nat := 6000 + ceilDiv pageSize (max 1 (Tab.getD e.img.targets d.target {}).rate)
  (match d.src with | 2 => hbmReadNs pageSize | 3 => far | 4 => 120000 | _ => 0)
    + (match d.dst with | 2 => hbmReadNs pageSize | 3 => far | 4 => 200000 | _ => 0)

/-- Bound [ns] of a second-pass round at a Tail rank, its cycles at the nominal period (07 R180). -/
def Eng.roundNs (e : Eng) (m : Merged) (rank : Nat) : Nat :=
  let c := e.model (((e.flightEntry m).map DEntry.model).getD 0)
  let len := (c.slices.getD rank (0, 0)).2
  ceilDiv ((64 + 48 + ceilDiv len 16) * 417) 1000 + 2 * 1200 + hbmReadNs (logitBytes c.fmt len) + ceilDiv 8256 200

/-- The external legs that something at this engine waits for: the leg, which of its kind it is, its bound [ns]. A series of
reads for one result (draft edges, a prefix match) has the bound of the first (log entry 152). -/
def Eng.awaited (e : Eng) : List (Leg × List Nat × Nat) :=
  let read := hbmReadNs 0
  let pidOf (r : InRec) : Nat := u32 r.raw 4 % 65536
  (match e.ing.waiting.head? with
    | some r => if e.ing.cached.contains (pidOf r) then [] else [(.window (pidOf r), [u64 r.raw 8, r.at_], read)]
    | none => [])
  ++ e.ing.reading.map (fun r => (.outcome (pidOf r) (u64 r.raw 8), [r.at_], read))
  ++ e.dir.fills.map (fun f => (if f.2.copyB then .copyB f.1 else .copyA f.1, [], read))
  ++ (List.range 64).filterMap (fun n => match (e.lane n).stream with
    | some s => if s.needRead then some (.lane n, [s.tag, s.pos, s.instar], hbmReadNs (logitBytes s.fmt s.count)) else none
    | none => none)
  ++ e.smp.merged.flatMap (fun m => match m.round with
    | some r => (e.tails.filter fun k => !r.replies.any fun x => x.rank == k).map
        fun k => (.round m.tag m.pos k, [m.instar, r.num], e.roundNs m k)
    | none => [])
  ++ e.smp.edgeReads.map (fun tag => (.draftEdge tag, [], read))
  ++ (match e.twm.batches.find? fun b => b.sent with
    | some b => if e.toT3 then [(.t3Journal, [b.first, b.launch], 200000)] else []
    | none => [])
  ++ (List.range 64).filterMap (fun n => match (e.chan n).cur with
    | some (d, k) => some (.page n, [d.seq, d.list, k, b2n (e.chan n).retriedLeg, b2n (e.chan n).refetched], e.pageNs d)
    | none => none)
  ++ e.pln.moves.filterMap (fun m => (e.awaitedMig m.1).map fun x => (.migrate m.1, [x.order.seq], 1800))
  ++ e.pln.waitUses.map (fun u => (.waitRecord (u.1 / 65536) (u.1 % 65536), [], read))
  ++ e.pln.matching.map (fun tag => (.prefixMatch tag, [], read))
  ++ e.dsq.slots.map (fun t => (.groupMove t.group, [t.kind, t.part, t.job], if t.kind = 2 then 2600 else 18000))
  ++ (match e.dbg.copying with
    | some (k, a) => [(.peekCopy, [k, a], 1000 + read)]
    | none => [])

/-- The engine's record of the legs that it times: a leg awaited since before keeps its start, a new one starts now. -/
def Eng.noteLegs (e : Eng) : Eng :=
  { e with legs := e.awaited.map fun x =>
      (e.legs.find? fun r => r.leg == x.1 && r.part == x.2.1).getD { leg := x.1, part := x.2.1, since := e.now } }

/-- The leg is still incomplete at twice its bound (R40). A descriptor's is timed by the far side's launch, which an engine
that lacks its last word does not have: the command says so (log entry 152). -/
def Eng.legDue (e : Eng) (l : Leg) : Bool :=
  match l with
  | .descriptor _ => true
  | _ => e.awaited.any fun x => x.1 == l && e.legs.any fun r =>
      r.leg == l && r.part == x.2.1 && decide (r.since + 2 * x.2.2 ≤ e.now)

/-- The second failure of a Tail's leg: the Tail is treated as failed (07 R182). -/
def Eng.failTail (e : Eng) (rank tag : Nat) : Eng :=
  let e := (e.bump Reg.SMP_SUMMARY_ERR 31 16 1).raise 0xA3 2 tag [(16, 1, rank), (17, 1, 0), (18, 1, 1)]
  let e := if e.isLead then e.treatFailed rank else e
  if rank = e.img.rank then e.declareFailed else e

/-- A leg fails: the first time it is retried, by `again`, from now on; the second time `lost` follows (R405). -/
def Eng.retryLeg (e : Eng) (l : Leg) (again lost : Eng → Eng) : Eng :=
  if e.legs.any fun r => r.leg == l && r.again then lost (e.legIn l)
  else again { e with legs := e.legs.map fun r => if r.leg == l then { r with since := e.now, again := true } else r }

/-- An external leg is incomplete at twice its bound. A leg that nothing waits for, or whose time has not come, changes
nothing. The read of an outcome word, a draft's edges, a wait record, a peeked structure or a prefix match is begun again
at its second failure too: R405 lists none of them (DESIGN CHOICE, log entry 152). -/
def Eng.legTimeout (e : Eng) (l : Leg) : Eng :=
  if !e.legDue l then e
  else match l with
  | .window slot => e.retryLeg l id fun e => e.windowReadFailed slot
  | .copyA tag =>
    match Tab.get? e.dir.fills tag with
    | some f => if f.copyB then e else e.copyAFailed tag f
    | none => e
  | .copyB tag =>
    match Tab.get? e.dir.fills tag with
    | some f => if f.copyB then e.copyBFailed tag f else e
    | none => e
  | .lane n =>
    match (e.lane n).stream with
    | some s => if s.needRead then e.retryLeg l id fun e => e.failTail e.img.rank s.tag else e
    | none => e
  | .round tag pos rank =>
    match e.positionAt tag pos with
    | some m =>
      match m.round with
      | some r => e.retryLeg l (fun e => e.toRank 0x13 rank (requestBytes tag pos r.num r.kind r.lo r.theta))
          fun e => e.failTail rank tag
      | none => e
    | none => e
  | .descriptor n => if n = e.nextInstar n then e.descriptorFailed n else e
  | .t3Journal =>
    match e.twm.batches.find? fun b => b.sent with
    | some b => e.t3Written b.first false
    | none => e
  | .page n => e.legDone n false 0 .held
  | .migrate tag => e.migLate tag
  | .groupMove g =>
    match e.dsq.slots.find? fun t => t.group == g with
    | none => e
    | some t => if t.kind = 0 then e.groupSaved g false else if t.kind = 1 then e.groupRestored g false else e.contextLoaded g false
  | .outcome .. | .draftEdge _ | .waitRecord .. | .peekCopy | .prefixMatch _ => e.retryLeg l id id

end Sys2Proof.Machine
end

