-- ==== Sys2Proof/Machine/Flags.lean ====
section
/-! DEFINITION. What every BAR2 register shows: the fields that are views of the engine's state, beside the stored fields
(00 R10 to R14 and the field maps that 14 R404 indexes). Field names are those of the field maps. -/

namespace Sys2Proof.Machine

/-- A register's value from its fields (hi, lo, value); each value is cut to its field. -/
def pack (fs : List (Nat × Nat × Nat)) : Nat := sumN (fs.map fun f => f.2.2 % 2 ^ (f.1 + 1 - f.2.1) * 2 ^ f.2.1)

/-- The half of a 64-bit value that the register at `off` of the pair at `lo` shows. -/
def halfOf (off lo v : Nat) : Nat := if off = lo then v % 2 ^ 32 else v / 2 ^ 32 % 2 ^ 32

/-- 16 bits that saturate. -/
def sat16 (n : Nat) : Nat := min n 0xFFFF

/-! ## Global, islands, IML -/

/-- 14 Table 14-9 to 14-12, 13 Tables 13-14 to 13-16. -/
def Eng.viewGlb (e : Eng) (off : Nat) : Nat :=
  let l := e.dbg.lock
  if off = Reg.GLB_ID then 0x52595641
  else if off = Reg.GLB_VERSION then 0x01000000
  else if off = Reg.GLB_ROLE then
    pack [(31, 31, b2n e.isLead), (30, 30, b2n e.isTail), (29, 29, e.img.wing), (22, 16, e.img.n), (13, 8, e.img.rank)]
  else if off = Reg.GLB_PAIR then e.img.pairId
  else if off = Reg.GLB_LOCK_STATUS then
    pack [(31, 31, b2n l.held), (30, 30, b2n l.overflow), (28, 20, l.staged.length), (19, 16, l.lastBreak), (15, 0, l.holder)]
  else if off = Reg.GLB_LOCK_LEASE then (if l.held then (l.leaseEnd - e.now) / 10 else 0)
  else 0

/-- Nominal clock in MHz (02 Table 2-1). -/
def islandMhz (n : Nat) : Nat :=
  [100, 1800, 2000, 2000, 2000, 2000, 1200, 1200, 2000, 2000, 1000, 1600, 2400, 2400, 400, 1500, 800, 200].getD n 0

/-- 02 Tables 2-7 to 2-13. The fields of an island held in reset read their reset values (14 R398). -/
def Eng.viewIsl (e : Eng) (off : Nat) : Nat :=
  let n := (off - 0x10000) / 0x100
  if 18 ≤ n then (e.reg off).toNat
  else if off = Reg.ISL_STATUS n then
    pack [(31, 16, islandMhz n), (0, 0, b2n (e.islandRuns n && (Tab.getD e.isl n {}).stretching))]
  else if e.islandRuns n then (e.reg off).toNat else 0

/-- The bytes that a flush would write: records above T3_FLUSHED and partial log pages (12 R341). -/
def Eng.flushLeft (e : Eng) : Nat :=
  sumN ((e.twm.journal.filter fun r => decide (e.twm.t3Flushed < r.2.1)).map fun r => 32 * r.2.2.units)
    + sumN ((Tab.vals e.twm.durLogs).map fun l => 8 * (l.length % 512))

/-- 12 Tables 12-12 to 12-26. -/
def Eng.viewIml (e : Eng) (off : Nat) : Nat :=
  let i := e.iml
  let bank (b : Nat) := i.banks.getD b {}
  if off = Reg.IML_STATUS then
    pack [(31, 28, i.phase), (27, 27, i.bankInUse), (26, 26, b2n i.signedOk), (25, 25, b2n i.tie)]
  else if off = Reg.IML_BANK_SEQ 0 then (bank 0).seq
  else if off = Reg.IML_BANK_SEQ 1 then (bank 1).seq
  else if off = Reg.IML_BANK_STATE 0 ∨ off = Reg.IML_BANK_STATE 1 then
    let k := bank ((off - Reg.IML_BANK_STATE 0) / 8)
    pack [(31, 31, b2n k.checked), (30, 30, b2n k.valid), (23, 16, k.reason), (7, 0, k.entry)]
  else if off = Reg.IML_FLASH then
    if i.found then pack [(31, 24, i.fm.log2), (23, 16, i.fm.dummy), (15, 12, i.fm.mode), (11, 11, b2n i.fm.addr4), (7, 0, i.fm.minor)]
    else 0
  else if off = Reg.IML_BOOT_CYCLES then i.bootCycles
  else if off = Reg.IML_RESET_CAUSE then pack [(31, 28, i.cause), (15, 0, sat16 i.resets)]
  else if off = Reg.IML_HOLDUP then (e.reg off).toNat + pack [(31, 28, i.hold), (27, 27, b2n i.warn)]
  else if off = Reg.IML_FLUSH_LO ∨ off = Reg.IML_FLUSH_HI then halfOf off Reg.IML_FLUSH_LO e.flushLeft
  else if off = Reg.IML_PD_LOG then pack [(13, 8, i.late), (5, 0, i.early)]
  else if Reg.IML_DIGEST 0 ≤ off ∧ off ≤ Reg.IML_DIGEST 7 then u32 i.digest (off - Reg.IML_DIGEST 0)
  else if off = Reg.IML_WR_STATUS then (e.reg off).toNat + pack [(31, 30, i.wrState), (23, 16, i.wrCode)]
  else (e.reg off).toNat

/-! ## ING, DIR, LDG, DLN (04 Tables 4-12 to 4-37, 03 Tables 3-7 to 3-24) -/

def Eng.viewIng (e : Eng) (off : Nat) : Nat :=
  let slot := e.fld Reg.ING_PROD_SEL 15 0
  let p := Tab.getD e.img.producers slot {}
  if off = Reg.ING_STATUS then pack [(3, 1, e.stopReason), (0, 0, b2n (e.stopReason == 0))]
  else if off = Reg.ING_PROD_ID then p.id
  else if off = Reg.ING_PROD_BIND then pack [(31, 31, b2n p.valid), (29, 20, p.tenant), (19, 0, p.source)]
  else if off = Reg.ING_PROD_HIGH_LO ∨ off = Reg.ING_PROD_HIGH_HI then halfOf off Reg.ING_PROD_HIGH_LO (e.win slot).high
  else if off = Reg.ING_AMEND_SEQ_LO ∨ off = Reg.ING_AMEND_SEQ_HI then halfOf off Reg.ING_AMEND_SEQ_LO e.ing.amendSeq
  else (e.reg off).toNat

/-- A slice's MODE; 3 on an engine that is not the Lead (log entry 75). -/
def Eng.sliceMode (e : Eng) (s : Nat) : Nat :=
  if !e.isLead then 3 else if bit e.dir.failed s then 2 else if bit e.dir.offline s then 1 else 0

def Eng.viewDir (e : Eng) (off : Nat) : Nat :=
  let s := (off - 0x80000) / 0x10000
  let lines := e.dir.cache.filter fun l => l.slice == s
  if off = Reg.DIR_STATUS s then e.sliceMode s
  else if off = Reg.DIR_LIVE s then e.sliceLive s
  else if off = Reg.DIR_CACHE_OCC s then
    let sticky := (lines.filter fun l => ((e.find l.tag).map Entry.sticky).getD false).length
    pack [(31, 18, min sticky 0x3FFF), (17, 0, lines.length)]
  else if off = Reg.DIR_SALT_EPOCH then e.dir.epoch
  else if Reg.DIR_SLOT_LIVE 0 ≤ off ∧ off ≤ Reg.DIR_SLOT_LIVE 3 then e.slotLive ((off - Reg.DIR_SLOT_LIVE 0) / 4)
  else if off = Reg.DIR_WIN_MAX then pack [(22, 21, e.dir.winSlice), (20, 0, e.dir.winMax)]
  else if off = Reg.DIR_SESSIONS then e.live.length
  else if off = Reg.DIR_FREE then e.freeCount
  else if off = Reg.DIR_BLOCKS then e.ownedCount
  else if off = Reg.DIR_SLICE_MAP then pack [(7, 4, e.dir.offline), (3, 0, e.dir.failed)]
  else if off = Reg.DIR_BACKING then
    pack [(8, 8, b2n (!(e.dir.aOk && e.dir.bOk))), (7, 4, e.dir.stackB), (3, 0, e.dir.stackA)]
  else if off = Reg.DIR_HELD then e.heldCount
  else (e.reg off).toNat

def Eng.viewLdg (e : Eng) (off : Nat) : Nat :=
  let t := e.fld Reg.LDG_TENANT_SEL 9 0
  let c := e.tcfg t
  let s := e.tst t
  if off = Reg.LDG_T_CONFIG then
    pack [(31, 31, b2n c.enabled), (30, 28, c.tclass), (27, 20, c.dclassMask), (15, 0, c.weight)]
  else if off = Reg.LDG_T_RATE then c.rate
  else if off = Reg.LDG_T_DEPTH then c.depth
  else if off = Reg.LDG_T_COSTS then pack [(31, 16, c.prefillW), (15, 0, c.decodeW)]
  else if off = Reg.LDG_T_ADMIT then pack [(31, 16, c.openCost), (15, 0, c.modelMask)]
  else if off = Reg.LDG_T_LIMITS then pack [(31, 16, c.maxSessions), (15, 0, c.expiry)]
  else if off = Reg.LDG_T_LEVEL_LO ∨ off = Reg.LDG_T_LEVEL_HI then halfOf off Reg.LDG_T_LEVEL_LO (unsigned 64 s.level)
  else if off = Reg.LDG_T_LIVE then s.live
  else if off = Reg.LDG_T_SHARE_LO ∨ off = Reg.LDG_T_SHARE_HI then halfOf off Reg.LDG_T_SHARE_LO s.share
  else if off = Reg.LDG_VMIN_LO ∨ off = Reg.LDG_VMIN_HI then halfOf off Reg.LDG_VMIN_LO e.vmin
  else (e.reg off).toNat

def Eng.viewDln (e : Eng) (off : Nat) : Nat :=
  let c := (off - 0x100000) / 0x10
  if c < 8 ∧ off = Reg.DLN_CLASS_TTFT c then (e.classOf c).ttftUs
  else if c < 8 ∧ off = Reg.DLN_CLASS_TBT c then pack [(31, 30, e.kindOf c), (29, 0, (e.classOf c).tbtUs)]
  else if c < 8 ∧ off = Reg.DLN_CLASS_RESERVED c then ((Tab.vals e.dln.resv).filter fun r => r.dclass == c).length
  else if off = Reg.DLN_LOAD 0 then sat32 (e.loadD 2 / 1000)
  else if off = Reg.DLN_LOAD 1 then sat32 (e.loadD 1 / 1000)
  else if off = Reg.DLN_LOAD 2 then sat32 (e.loadB 2 / 1000)
  else if off = Reg.DLN_LOAD 3 then sat32 (e.loadB 1 / 1000)
  else if off = Reg.DLN_PMEAS then sat32 e.pmeas
  else if off = Reg.DLN_SIGMA then e.dln.sigma
  else if off = Reg.DLN_REVIVE then e.param 0x0500
  else (e.reg off).toNat

/-! ## CMP and DSQ (05 Tables 5-13 to 5-30, 06 Tables 6-9 to 6-25) -/

def Eng.viewCmp (e : Eng) (off : Nat) : Nat :=
  let c := e.cmp
  if off = Reg.CMP_STATUS then
    pack [(17, 16, treeDepth e.img.n), (14, 8, e.img.n), (1, 1, b2n c.draft.running), (0, 0, b2n (c.active && e.isLead))]
  else if off = Reg.CMP_INSTAR_LO ∨ off = Reg.CMP_INSTAR_HI then halfOf off Reg.CMP_INSTAR_LO c.last
  else if off = Reg.CMP_LAST then
    pack [(27, 27, b2n c.lastQuiet), (26, 26, b2n c.lastIdle), (25, 20, c.lastBindRank), (18, 16, c.lastBind), (14, 0, c.lastWidth)]
  else if off = Reg.CMP_PERIOD then sat32 c.lastPeriod
  else if off = Reg.CMP_EFORECAST then sat32 c.lastForecast
  else if off = Reg.CMP_POOL then pack [(27, 19, c.draft.standby.length), (18, 0, e.pool.length)]
  else if off = Reg.CMP_LIMITS then pack [(31, 16, e.chunkMax), (14, 0, e.param 0x0601)]
  else if off = Reg.CMP_PERIOD_MAX then e.param 0x0602
  else if off = Reg.CMP_BARRIER then c.barrier
  else if Reg.CMP_ALLOW 0 ≤ off ∧ off ≤ Reg.CMP_ALLOW 63 then
    let k := (off - Reg.CMP_ALLOW 0) / 4
    if k < e.img.n then ((Tab.get? c.newest k).map Allow.eAllow).getD 0 else 0
  else (e.reg off).toNat

/-- MEASURED of a partition: kernel time over scaled WCET in units of 1/4,096. -/
def Part.measuredOver (p : Part) : Nat :=
  let w := sumN (p.measured.map fun m => m.2.2)
  if w = 0 then 0 else sat16 (sumN (p.measured.map fun m => m.2.1) * 4096 / w)

/-- The registers of a partition block; one of an unconfigured partition reads MODE 3 and otherwise 0 (06 R158). -/
def Eng.viewPart (e : Eng) (p off : Nat) : Nat :=
  let at_ := off - Reg.DSQ_P_CONFIG p
  match Tab.get? e.img.partitions p with
  | none => if at_ = 8 then pack [(31, 30, 3)] else 0
  | some c =>
    let x := e.part p
    let gs := e.partGroups p
    if at_ = 0 then pack [(31, 31, b2n c.isStep), (30, 30, b2n c.isTool), (26, 16, c.first), (10, 0, c.groups)]
    else if at_ = 4 then maskOf 16 fun m => ((Tab.get? e.img.models m).map fun d => d.stepPart == p).getD false
    else if at_ = 8 then
      let tools := x.jobs.filter Job.isTool
      let parked := tools.filter fun j => j.st == .saved || j.st == .saving || j.st == .restoring
      let run := x.jobs.flatMap fun j => if j.kernelRuns then (j.kern.map Kern.groups).getD [] else []
      let free := gs.filter fun g => (e.group g).busy.isNone && (e.group g).working != 0
      pack [(31, 30, x.mode), (29, 26, tools.length), (25, 22, parked.length), (21, 11, run.length), (10, 0, free.length)]
    else if at_ = 0xC then pack [(31, 16, e.coresC p), (15, 0, e.coresW p)]
    else if at_ = 0x10 then pack [(31, 16, x.measuredOver), (15, 0, sat16 (e.sigmaP p))]
    else if at_ = 0x1C ∨ at_ = 0x20 then
      let runs := (x.busySince.map fun t => e.now - t).getD 0
      halfOf off (Reg.DSQ_P_BUSY_NS_LO p) (e.reg64 (Reg.DSQ_P_BUSY_NS_LO p) + runs)
    else if at_ = 0x24 then pack [(31, 16, c.creditPool), (15, 0, x.free)]
    else (e.reg off).toNat

def Eng.viewDsq (e : Eng) (off : Nat) : Nat :=
  if Reg.DSQ_P_CONFIG 0 ≤ off then e.viewPart ((off - Reg.DSQ_P_CONFIG 0) / 0x400) off
  else if off = Reg.DSQ_STATUS then
    pack [(22, 16, e.img.partitions.length), (14, 0, sumN ((Tab.vals e.dsq.groups).map fun g => popcount 16 g.fenced))]
  else if off = Reg.DSQ_SIGMA then sat16 e.sigmaChip
  else if off = Reg.DSQ_SAVES then pack [(21, 16, max (e.fld Reg.DSQ_SAVES 21 16) e.dsq.slots.length), (5, 0, e.dsq.slots.length)]
  else if off = Reg.DSQ_STEP then (e.reg off).toNat + pack [(1, 1, b2n (!e.dsq.held.isEmpty))]
  else (e.reg off).toNat

/-! ## PLN and MOV (09 Tables 9-14 to 9-38) -/

def Eng.viewPln (e : Eng) (off : Nat) : Nat :=
  let k := waitKey (e.fld Reg.PLN_PRED_SEL 25 16) (e.fld Reg.PLN_PRED_SEL 15 0)
  let r := e.waitRec k
  let t := (off - Reg.PLN_TGT_CONFIG 0) / 0x10
  let cfg := Tab.get? e.img.targets t
  if off = Reg.PLN_STATUS then
    pack [(2, 2, b2n (if e.isLead then (Tab.vals e.pln.chrys).any Chrys.spilled else (Tab.vals e.pln.recs).any ChipRec.spilled)), (1, 1, b2n (e.up && e.shortOf e.framesFree e.img.rank 16)),
      (0, 0, b2n e.isLead)]
  else if off = Reg.PLN_RESIDENT then
    (if e.isLead then e.residents else ((Tab.vals e.pln.recs).filter fun r => r.resPages != 0).length)
  else if off = Reg.PLN_FRAMES_FREE then e.framesFree
  else if off = Reg.PLN_FRAMES_TOTAL then e.framesTotal
  else if Reg.PLN_TIER 0 ≤ off ∧ off ≤ Reg.PLN_TIER 4 then
    (e.live.filter fun x => x.residency == (off - Reg.PLN_TIER 0) / 4).length
  else if off = Reg.PLN_PINS then (e.reg off).toNat + pack [(15, 0, sat16 e.pinsInForce)]
  else if off = Reg.PLN_PREFIX then
    (e.reg off).toNat + pack [(31, 15, ((Tab.vals e.pln.library).filter Prefix.resident).length)]
  else if off = Reg.PLN_PRED_STATUS then
    pack [(31, 31, b2n r.isSome), (30, 30, b2n (e.ready k).isSome), (10, 0, (r.map WaitRec.n).getD 0)]
  else if off = Reg.PLN_PRED_Q20 then
    match e.ready k with | some q => min q 0xFFFFFFFE | none => 0xFFFFFFFF
  else if off = Reg.PLN_BW_EST then pack [(31, 16, sat16 (e.bwEst 4)), (15, 0, sat16 (e.bwEst 3))]
  else if Reg.PLN_PRED_BIN 0 ≤ off ∧ off < Reg.PLN_TGT_CONFIG 0 then
    (r.map fun r => Tab.getD r.bins ((off - Reg.PLN_PRED_BIN 0) / 4) 0).getD 0
  else if Reg.PLN_TGT_CONFIG 0 ≤ off ∧ off = Reg.PLN_TGT_CONFIG t then
    (cfg.map fun c => pack [(31, 31, 1), (30, 28, c.tier), (15, 0, c.weight)]).getD 0
  else if Reg.PLN_TGT_CONFIG 0 ≤ off ∧ off = Reg.PLN_TGT_SIZE t then
    (cfg.map fun c => sat32 (c.regionSize / 2 ^ 21)).getD 0
  else if Reg.PLN_TGT_CONFIG 0 ≤ off ∧ off = Reg.PLN_TGT_USED t then sat32 (sumN ((Tab.vals (e.tgt t).extents).map Prod.fst))
  else if Reg.PLN_TGT_CONFIG 0 ≤ off ∧ off = Reg.PLN_TGT_STATE t then
    (e.reg off).toNat + pack [(31, 30, if cfg.isNone then 2 else if (e.tgt t).up then 0 else 1)]
  else (e.reg off).toNat

def Eng.viewMov (e : Eng) (off : Nat) : Nat :=
  let n := (off - 0x200000) / 0x1000
  let c := e.chan n
  if off = Reg.MOV_STATUS then e.workingChannels.length
  else if 64 ≤ n then (e.reg off).toNat
  else if off = Reg.MOV_CH_STATUS n then
    pack [(31, 30, if c.retired then 2 else if c.cur.isSome then 1 else 0), (21, 11, c.high.length), (10, 0, c.low.length)]
  else if off = Reg.MOV_CH_TAG n then c.tag
  else (e.reg off).toNat

/-! ## SMP (07 Tables 7-10 to 7-26, 08 Tables 8-11 to 8-18) -/

/-- Working lanes of SMP0 or SMP1. -/
def Eng.lanesOf (e : Eng) (i : Nat) : Nat := ((List.range 32).filter fun k => (e.lane (32 * i + k)).mode != 2).length

def Eng.viewSmp (e : Eng) (off : Nat) : Nat :=
  let n := (off - 0x290000) / 0x400
  let slice (m : Nat) : Nat × Nat := if e.isTail then (e.model m).slices.getD e.img.rank (0, 0) else (0, 0)
  if Reg.SMP_LANE_STATUS 0 ≤ off ∧ off = Reg.SMP_LANE_STATUS n then
    let l := e.lane n
    pack [(31, 30, l.mode), (29, 29, n / 32), (20, 0, if l.mode = 1 then (l.stream.map Stream.count).getD 0 else 0)]
  else if Reg.SMP_LANE_STATUS 0 ≤ off ∧ off = Reg.SMP_LANE_TAG n then (e.lane n).tag
  else if off = Reg.SMP_STATUS then
    pack [(31, 31, b2n e.isTail), (30, 30, b2n e.isLead), (29, 27, e.tails.length - 1), (13, 8, e.lanesOf 1), (5, 0, e.lanesOf 0)]
  else if off = Reg.SMP_KEY_ID_LO ∨ off = Reg.SMP_KEY_ID_HI then u32 e.keyId (off - Reg.SMP_KEY_ID_LO)
  else if Reg.SMP_SLICE_BASE 0 ≤ off ∧ off < Reg.SMP_GRAMMAR then
    let m := (off - Reg.SMP_SLICE_BASE 0) / 8
    if off = Reg.SMP_SLICE_BASE m then (slice m).1 else (slice m).2
  else if off = Reg.SMP_GRAMMAR then (e.reg off).toNat + pack [(8, 0, e.img.grammars.length)]
  else if off = Reg.SMP_TOOL_JOBS then
    let run := (e.smp.tools.filter ToolRun.running).length
    pack [(24, 9, sat16 (e.smp.tools.length - run)), (8, 0, run)]
  else (e.reg off).toNat

/-! ## PGV and TWM (11 Tables 11-15 to 11-32, 10 Tables 10-15 to 10-29) -/

/-- A mean over the last 1 ms of samples. -/
def meanOf (l : List Nat) : Nat := if l.isEmpty then 0 else sumN l / l.length

def Eng.viewPgv (e : Eng) (off : Nat) : Nat :=
  let g := e.pgv
  let failed (r : Nat) : Nat := (Tab.getD g.failedPh r []).length
  if off = Reg.PGV_STATUS then
    pack [(31, 28, g.ladder), (27, 27, b2n g.fixed), (26, 25, e.policy), (24, 24, b2n (!g.senseBad.isEmpty)),
      (23, 23, b2n e.lowConfidence), (22, 22, b2n g.coolLost.isSome), (21, 21, b2n (g.alertLow.isSome || g.alertHold.isSome)),
      (20, 16, min 31 (failed 0 + failed 1)), (15, 0, g.reasons)]
  else if off = Reg.PGV_CAP then pack [(31, 16, sat16 e.capEff), (15, 0, sat16 e.edc)]
  else if off = Reg.PGV_POWER then
    pack [(31, 16, sat16 (meanOf (g.powerHist.map Prod.fst))), (15, 0, sat16 (meanOf (g.powerHist.map Prod.snd)))]
  else if off = Reg.PGV_BUCKET then unsigned 32 g.level
  else if off = Reg.PGV_OP then
    pack [(27, 25, g.seq.cur), (24, 22, g.seq.target), (21, 19, g.seq.kept.getD 0), (18, 18, b2n g.seq.kept.isSome),
      (17, 15, e.opCeil), (14, 12, g.seq.st), (11, 0, g.railV.getD 0 0)]
  else if off = Reg.PGV_SKIP then pack [(22, 16, g.kLim), (14, 8, g.kFast), (6, 0, g.kMean)]
  else if off = Reg.PGV_THERMAL then pack [(31, 16, sat16 g.tHot), (15, 8, g.hotSensor)]
  else if off = Reg.PGV_MODEL then
    pack [(31, 31, b2n g.entryM.hold), (30, 30, b2n g.phaseM.hold), (29, 29, b2n g.quietReq), (24, 0, min g.sinceRef (2 ^ 25 - 1))]
  else if off = Reg.PGV_ENERGY_LO ∨ off = Reg.PGV_ENERGY_HI then halfOf off Reg.PGV_ENERGY_LO g.energyUj
  else if off = Reg.PGV_UNATTR_LO ∨ off = Reg.PGV_UNATTR_HI then halfOf off Reg.PGV_UNATTR_LO g.unattr
  else if Reg.PGV_RAIL 0 ≤ off ∧ off ≤ Reg.PGV_RAIL 5 then
    let d := (off - Reg.PGV_RAIL 0) / 4
    let n := (e.rail d).phases
    pack [(31, 16, sat16 (g.railW.getD d 0)), (15, 8, n - failed d), (7, 0, n)]
  else if Reg.PGV_COEF 0 ≤ off then
    let j := (off - Reg.PGV_COEF 0) / 4
    ((if j < 4 then g.entryM.theta.getD j 0 else g.phaseM.theta.getD (j - 4) 0) : Word).toNat
  else (e.reg off).toNat

def Eng.viewTwm (e : Eng) (off : Nat) : Nat :=
  let t := e.twm
  let state : Nat := match t.snap with | some s => s.state | none => if t.snapFailed then 3 else 0
  if off = Reg.TWM_STATUS then
    pack [(31, 28, e.wingCode), (27, 27, b2n t.lease.isSome), (26, 26, b2n t.paused), (25, 25, b2n t.dual), (24, 24, t.leader),
      (23, 23, e.img.wing), (22, 22, b2n t.handshake)]
  else if off = Reg.TWM_TERM then t.term
  else if off = Reg.TWM_APPENDED_LO ∨ off = Reg.TWM_APPENDED_HI then halfOf off Reg.TWM_APPENDED_LO t.appended
  else if off = Reg.TWM_DURABLE_LO ∨ off = Reg.TWM_DURABLE_HI then halfOf off Reg.TWM_DURABLE_LO t.durable
  else if off = Reg.TWM_AHEAD then
    (e.reg off).toNat + pack [(31, 16, sat16 ((e.ringBytes - e.ringFull) * 65536 / max 1 e.ringBytes)), (3, 0, e.ahead)]
  else if off = Reg.TWM_LEASE_EXP_LO ∨ off = Reg.TWM_LEASE_EXP_HI then halfOf off Reg.TWM_LEASE_EXP_LO (t.lease.getD 0)
  else if off = Reg.TWM_ADOPTED then t.adopted
  else if off = Reg.TWM_SNAP_STATUS then (e.reg off).toNat + pack [(31, 30, state)]
  else if off = Reg.TWM_SNAP_INSTAR_LO ∨ off = Reg.TWM_SNAP_INSTAR_HI then halfOf off Reg.TWM_SNAP_INSTAR_LO t.snapInstar
  else (e.reg off).toNat

/-! ## TEL, the tenant pages, DBG (13 Tables 13-4, 13-17 to 13-41) -/

def Eng.viewTel (e : Eng) (off : Nat) : Nat :=
  let t := e.tel
  let p := (off - Reg.TEL_RING_PROD 0) / 0x20
  let counter (base i : Nat) : Nat := halfOf off base (Tab.getD t.snap i 0)
  if off = Reg.TEL_STATUS then
    pack [(25, 21, t.marks.length), (20, 11, t.fifo.length), (10, 4, t.queue.length), (3, 0, maskOf 4 fun p => (e.ring p).full)]
  else if off = Reg.TEL_EPOCH then t.epoch
  else if off = Reg.TEL_TS_LO ∨ off = Reg.TEL_TS_HI then halfOf off Reg.TEL_TS_LO e.now
  else if off = Reg.TEL_TIME then
    pack [(31, 29, t.timeState), (23, 0, unsigned 24 (max (-(2 ^ 23 : Nat)) (min ((2 ^ 23 : Nat) - 1) t.offset)))]
  else if Reg.TEL_AON_LO 0 ≤ off ∧ off < Reg.TEL_SETA_SEL 0 then
    let i := (off - Reg.TEL_AON_LO 0) / 8
    counter (Reg.TEL_AON_LO i) i
  else if Reg.TEL_SETA_SEL 0 ≤ off ∧ off ≤ Reg.TEL_SETB_SEL 7 then
    let s := Tab.getD t.sel ((off - Reg.TEL_SETA_SEL 0) / 4) {}
    pack [(31, 31, b2n s.pending.isSome), (30, 30, b2n s.changed), (25, 0, s.pending.getD s.force)]
  else if Reg.TEL_RING_PROD 0 ≤ off ∧ off < Reg.TEL_TRACE_CTRL then
    let r := e.ring p
    if off = Reg.TEL_RING_PROD p then r.prod
    else if off = Reg.TEL_RING_CONS p then r.cons
    else if off = Reg.TEL_RING_OLDEST p then r.oldest
    else if off = Reg.TEL_RING_CTRL p then (e.reg off).toNat + pack [(11, 0, r.flushSeq)]
    else (e.reg off).toNat
  else if Reg.TEL_RING_ENTRY 0 ≤ off then
    let i := off - Reg.TEL_RING_ENTRY 0
    u32 (Tab.getD (e.ring (i / 0x8000)).slots (i % 0x8000 / 0x20) (zeros 32)) (i % 0x20)
  else (e.reg off).toNat

/-- A word of a tenant view page (Table 13-4). -/
def Eng.viewPage (e : Eng) (off : Nat) : Nat :=
  let t := (off - 0x400000) / 0x1000
  let a := off % 0x1000
  let p := Tab.getD e.tel.pagesSnap t {}
  let pair (base v : Nat) : Nat := halfOf a base v
  if a = 0 then pack [(31, 31, b2n e.isLead), (9, 0, t)]
  else if a = 4 then e.tel.epoch
  else if a < 0x10 then pair 0x8 p.admitted
  else if a < 0x18 then pair 0x10 p.fed
  else if a < 0x20 then pair 0x18 p.committed
  else if a < 0x28 then pair 0x20 p.engineNs
  else if a < 0x30 then pair 0x28 p.energyUj
  else if a < 0x38 then pair 0x30 p.level
  else if a < 0x40 then pair 0x38 p.share
  else if a = 0x40 then p.live
  else if a = 0x44 then p.pins
  else if a = 0x48 then p.reservations
  else if 0x50 ≤ a ∧ a < 0x98 then sat32 (Tab.getD p.reject ((a - 0x50) / 4 + 1) 0)
  else if 0xA0 ≤ a ∧ a < 0xE0 then
    let k := (a - 0xA0) / 8
    sat32 (if a % 8 = 0 then Tab.getD p.missTtft k 0 else Tab.getD p.missTbt k 0)
  else 0

def Eng.viewDbg (e : Eng) (off : Nat) : Nat :=
  let d := e.dbg
  if off = Reg.DBG_STATUS then
    pack [(31, 31, b2n e.debug), (30, 30, b2n e.cmp.heldDesc.isSome), (29, 29, b2n d.haltPending)]
  else if off = Reg.DBG_HELD_INSTAR_LO ∨ off = Reg.DBG_HELD_INSTAR_HI then
    halfOf off Reg.DBG_HELD_INSTAR_LO ((e.cmp.heldDesc.map Prod.fst).getD 0)
  else if off = Reg.DBG_PEEK_SEL then (e.reg off).toNat + pack [(31, 31, b2n d.valid), (30, 30, b2n d.err)]
  else if Reg.DBG_PEEK_WIN 0 ≤ off ∧ off < Reg.DBG_TEST_REQ then u32 d.win (off - Reg.DBG_PEEK_WIN 0)
  else if off = Reg.DBG_TEST_STATUS then
    pack [(31, 29, d.test.state), (28, 27, d.test.kind), (26, 21, d.test.index), (15, 0, sat16 d.test.waitedMs)]
  else (e.reg off).toNat

/-! ## Which engines keep a register, and when it is served (14 R398, R402) -/

/-- The engine keeps the register: its roles use it (R102, R130, R185, R208, R245, R284). -/
def Eng.keeps (e : Eng) (off : Nat) : Bool :=
  let lead := e.isLead
  if off < 0x40000 then true
  else if off < 0x80000 then
    lead || off == Reg.ING_STATUS || off == Reg.ING_DROPPED || off == Reg.ING_AMEND_SEQ_LO || off == Reg.ING_AMEND_SEQ_HI
  else if off < 0x140000 then lead || (off < 0xC0000 && off % 0x10000 == 0)
  else if off < 0x180000 then lead || off == Reg.CMP_BCAST
  else if off < 0x1C0000 then true
  else if off < 0x200000 then
    lead || !(decide (Reg.PLN_TIER 0 ≤ off ∧ off ≤ Reg.PLN_TIER 4) || decide (Reg.PLN_PRED_SEL ≤ off ∧ off ≤ Reg.PLN_PRED_Q20)
      || decide (Reg.PLN_PRED_BIN 0 ≤ off ∧ off < Reg.PLN_TGT_CONFIG 0))
  else if off < 0x280000 then true
  else if off < 0x290000 then
    if off = Reg.SMP_GRAMMAR then e.isTail else if Reg.SMP_GRAMMAR < off then lead else lead || e.isTail
  else if off < 0x300000 then true
  else if off < 0x340000 then
    lead || off == Reg.TWM_STATUS || off == Reg.TWM_TERM || decide (Reg.TWM_APPENDED_LO ≤ off ∧ off ≤ Reg.TWM_DURABLE_HI)
  else true

/-- The island that holds the register runs, or AON serves it throughout start-up (R398). -/
def Eng.serves (e : Eng) (off : Nat) : Bool :=
  if off < 0x40000 then true
  else if (0x2C0000 ≤ off && off < 0x300000) || 0x340000 ≤ off then e.aonUp
  else e.up

/-- The live value of the register at `off`, as if this engine kept it. -/
def Eng.viewKept (e : Eng) (off : Nat) : Nat :=
  if off < 0x10000 then e.viewGlb off
  else if off < 0x20000 then e.viewIsl off
  else if off < 0x40000 then e.viewIml off
  else if off < 0x80000 then e.viewIng off
  else if off < 0xC0000 then e.viewDir off
  else if off < 0x100000 then e.viewLdg off
  else if off < 0x140000 then e.viewDln off
  else if off < 0x180000 then e.viewCmp off
  else if off < 0x1C0000 then e.viewDsq off
  else if off < 0x200000 then e.viewPln off
  else if off < 0x280000 then e.viewMov off
  else if off < 0x2C0000 then e.viewSmp off
  else if off < 0x300000 then e.viewPgv off
  else if off < 0x340000 then e.viewTwm off
  else if off < 0x380000 then e.viewTel off
  else e.viewDbg off

/-- The engine as it leaves reset with its image: what a register that this engine does not keep shows. The directory of an
engine without the Lead role stands at its reset values (03 Tables 3-18, 3-19); only what the image gives it shows. -/
def Eng.atReset (e : Eng) : Eng :=
  let r := Eng.loadImage { Eng.cold with iml := { Eng.cold.iml with phase := 12 } } e.img
  { r with dir := { stackA := e.img.layout.dirA, stackB := e.img.layout.dirB } }

/-- The live value that a register shows (R10, R12): 0 where there is none. -/
def Eng.view (e : Eng) (off : Nat) : Word :=
  if off % 4 ≠ 0 ∨ !e.serves off then 0
  else if 0x400000 ≤ off ∧ off < 0x800000 then BitVec.ofNat 32 (e.viewPage off)
  else match regAt off with
    | none => 0
    | some _ => BitVec.ofNat 32 (if e.keeps off then e.viewKept off else e.atReset.viewKept off)

end Sys2Proof.Machine
end

