-- ==== Sys2Proof/Machine/Operands.lean ====
section
/-! DEFINITION. Host accesses to BAR2: what a read returns and what it does, and what a write does, by the access codes of
00 Table 0-3, the pair rule (R13), the peek aperture (R12) and the locked sequence (13 R370 to R372). A command that has a
row of its own for one register's write runs the same write. -/

namespace Sys2Proof.Machine

/-- The bits of a register's fields of one access code. -/
def accMask (r : RegRow) (a : Acc) : Word :=
  BitVec.ofNat 32 (sumN (r.fields.map fun f => if f.acc = a then 2 ^ (f.hi + 1) - 2 ^ f.lo else 0))

/-- The value of 32 bits and the register there; none where host software reaches no register. -/
def Eng.hostReg (e : Eng) (off : Nat) : Option RegRow :=
  if off % 4 ≠ 0 ∨ 0x400000 ≤ off ∨ !e.serves off ∨ !e.keeps off then none else regAt off

/-! ## Reads -/

/-- The offset of the lo register of the pair that `off` belongs to; tenant view pages hold pairs from 0x008 to 0x03F. -/
def pairLo (off : Nat) : Option Nat :=
  if 0x400000 ≤ off ∧ off < 0x800000 then
    (if 8 ≤ off % 0x1000 ∧ off % 0x1000 < 0x40 then some (off - off % 8) else none)
  else match regAt off with
    | some r => match r.half with | .one => none | .lo => some off | .hi => some (off - 4)
    | none => none

/-- What an ordinary read returns: a hi register returns its shadow; an offset that is not aligned returns 0 (R9). -/
def Eng.readValue (e : Eng) (off : Nat) : Word :=
  if off % 4 ≠ 0 then 0
  else if 0x800000 ≤ off ∧ off < 0xC00000 then e.view (off - 0x800000)
  else match pairLo off with
    | some lo => if lo = off ∨ !e.serves off then e.view off else Tab.getD e.shadow lo 0
    | none => e.view off

/-- A peek read returns the live value, without side effect (R12): the value of the cycle of the read, to which a running
draft is brought for the view alone. -/
def Eng.peek (e : Eng) (off : Nat) : Eng :=
  { e with readData := if 0x800000 ≤ off ∧ off < 0xC00000 then e.catchUp.view (off - 0x800000) else 0 }

/-- An ordinary read: it latches the shadow of a pair, and clears RC fields but for `same`, what arrives in that cycle. -/
def Eng.hostRead (e : Eng) (off : Nat) (same : Word) : Eng :=
  let e' := { e with readData := e.readValue off }
  let e' := if pairLo off = some off then { e' with shadow := Tab.put e'.shadow off (e.view (off + 4)) } else e'
  match e.hostReg off with
  | none => e'
  | some r =>
    let m := accMask r .rc
    if m = 0 then e' else e'.setReg off ((e.reg off &&& ~~~m) ||| (same &&& m))

/-! ## Writes -/

/-- A write of RYV_GLB_LOCK. -/
def Eng.writeLock (e : Eng) (v req : Nat) : Eng :=
  let e := if bit v 31 then e.acquireLock req else e
  let e := if bit v 30 then e.renewLock req else e
  if bit v 29 then e.releaseLock req (bit v 28) else e

/-- The registers whose RWL fields change at once (13 R371). -/
def immediate (off : Nat) : Bool :=
  off == Reg.IML_WR_CTRL || off == Reg.IML_WR_ADDR || decide (Reg.IML_WR_BUF 0 ≤ off ∧ off ≤ Reg.IML_WR_BUF 1023)
    || off == Reg.IML_RESET || off == Reg.DSQ_STEP || off == Reg.DBG_CTRL || off == Reg.DBG_TEST_REQ

/-- A write of RYV_DSQ_STEP by the holder (06 R155): what the new selection no longer holds is released, then GO. -/
def Eng.writeStep (e : Eng) (v : Nat) : Eng :=
  let e := (e.setFld Reg.DSQ_STEP 15 10 (bitsOf v 15 10)).setFld Reg.DSQ_STEP 0 0 (v % 2)
  let keep (h : Nat × Nat × Nat) : Bool := bit v 0 && h.1 == bitsOf v 15 10
  let e := (e.dsq.held.filter fun h => !keep h).foldl Eng.releaseHeld e
  if bit v 31 then e.stepGo else e

/-- A holder's write of an immediate register. -/
def Eng.writeNow (e : Eng) (off : Nat) (val : Word) (req : Nat) : Eng :=
  let v := val.toNat
  if off = Reg.IML_WR_CTRL then
    let e := e.setFld off 30 28 (bitsOf v 30 28)
    if bit v 31 ∧ bitsOf v 30 28 < 4 then e.startFlashOp (bitsOf v 30 28) req (e.reg Reg.IML_WR_ADDR).toNat else e
  else if off = Reg.IML_RESET then
    if bit v 30 ∧ e.isLead ∧ e.up then e.askReset 2 true else if bit v 31 then e.askReset 1 false else e
  else if off = Reg.DSQ_STEP then e.writeStep v
  else if off = Reg.DBG_CTRL then
    let e := e.writeDebug val
    if bit v 29 then e.releaseDesc else e
  else if off = Reg.DBG_TEST_REQ then
    let e := (e.setFld off 25 24 (bitsOf v 25 24)).setFld off 5 0 (bitsOf v 5 0)
    let e := if bit v 31 then e.requestTest v else e
    if bit v 30 then e.cancelTest else e
  else e.setReg off val

/-- A write of RWL fields: discarded unless `req` holds the lock; a bank operation of another requester is refused by IML
(12 R335, CODE 6). -/
def Eng.writeRwl (e : Eng) (off : Nat) (val : Word) (req : Nat) : Eng :=
  if e.holds req then (if immediate off then e.writeNow off val req else e.stageWrite off val)
  else if off = Reg.IML_WR_CTRL ∧ bit val.toNat 31 ∧ bitsOf val.toNat 30 28 < 4 then
    e.startFlashOp (bitsOf val.toNat 30 28) req (e.reg Reg.IML_WR_ADDR).toNat
  else e

/-- The action of a WO field, or of a RW register that is not kept in the register file. -/
def Eng.writeAction (e : Eng) (off : Nat) (val : Word) (req : Nat) : Eng :=
  let v := val.toNat
  if off = Reg.GLB_LOCK then e.writeLock v req
  else if off = Reg.TWM_SNAP_CTRL then (if bit v 31 then e.requestSnap else e)
  else if off = Reg.TEL_MARK then e.markRange v
  else if off = Reg.DBG_PEEK_ARG then e.startPeek val
  else if Reg.TEL_RING_PROD 0 ≤ off ∧ off < Reg.TEL_TRACE_CTRL then
    let p := (off - Reg.TEL_RING_PROD 0) / 0x20
    if off = Reg.TEL_RING_CTRL p then (if bit v 31 then e.flushRing p else e).signalRing p else e
  else e

/-- A naturally aligned 32-bit write to BAR2 (R9 to R13). `same`: bits that the engine sets in the same cycle, which a W1C
clear leaves set. -/
def Eng.hostWrite (e : Eng) (off : Nat) (val : Word) (req : Nat) (same : Word := 0) : Eng :=
  match e.hostReg off with
  | none => e
  | some r =>
    if Reg.TEL_SETA_SEL 0 ≤ off ∧ off ≤ Reg.TEL_SETB_SEL 7 then e.selectCounter ((off - Reg.TEL_SETA_SEL 0) / 4) val.toNat
    else if Reg.TEL_RING_PROD 0 ≤ off ∧ off < Reg.TEL_TRACE_CTRL ∧ off % 0x20 = 4 then
      e.writeCons ((off - Reg.TEL_RING_PROD 0) / 0x20) val.toNat
    else
      let w1c := accMask r .w1c
      let rw := accMask r .rw
      let old := e.reg off
      let e := if w1c = 0 then e else e.setReg off ((old &&& ~~~(val &&& w1c)) ||| (same &&& w1c))
      let e := if rw = 0 then e else e.setReg off ((e.reg off &&& ~~~rw) ||| (val &&& rw))
      let e := e.writeAction off val req
      if accMask r .rwl = 0 then e else e.writeRwl off val req

/-- The register at `off` has a field of code `a`. -/
def Eng.hasAcc (e : Eng) (off : Nat) (a : Acc) : Bool :=
  match e.hostReg off with
  | some r => r.fields.any fun f => f.acc == a
  | none => false

end Sys2Proof.Machine
end

