-- ==== Sys2Proof/Machine/Wrap.lean ====
section
/-! DEFINITION. What follows every command at an engine that runs: the work of its subsystems that the command's effect has
made due, in one order; and the wrappers that a command's meaning uses. -/

namespace Sys2Proof.Machine

/-- Void notices of the Lead's own chip. -/
def Eng.takeOwnVoids (e : Eng) : Eng :=
  e.dsq.ownVoid.foldl Eng.leadVoid { e with dsq := { e.dsq with ownVoid := [] } }

/-- One pass over the Lead's subsystems: records whose entries are there, tools, learned prefixes, placement, sessions to free, the Lead's own Tail and chip,
the turnaround, composing, the wing. -/
def Eng.settleLead (e : Eng) : Eng :=
  let e := (e.takeFetched.settleTools).finishReady
  let e := (e.learn e.logIds).settlePlace.freeClosed
  let e := (Eng.answerOwn 64 e).takeOwnVoids
  e.advanceTurn.notePool.settleCompose.settleTwin

/-- What follows a command at an engine that runs. What one pass of the Lead makes due, the second carries out. -/
def Eng.settle (e : Eng) : Eng :=
  if !e.up then e
  else
    let e := e.settleDue
    let e := if e.isLead then e.settleLead.settleLead else e.trail
    e.settleHold.noteAdmission.noteLegs

/-- What follows a command, with the trace of the power state where it changed (13 Table 13-6). -/
def Eng.after (old e : Eng) : Eng :=
  let e := e.settle
  if e.aonUp then e.tracePower old.pgv else e

/-- An effect at an engine whose islands run: the draft is brought up to the present, the effect, what follows. -/
def Eng.engineDo (f : Eng → Eng) (e : Eng) : Eng := if e.up then Eng.after e (f e.catchUp) else e

/-- An effect at the Lead. -/
def Eng.leadDo (f : Eng → Eng) (e : Eng) : Eng := if e.isLead then Eng.engineDo f e else e

/-- An effect of the islands that leave reset first: PGV, TEL and DBG, and IML in AON. -/
def Eng.aonDo (f : Eng → Eng) (e : Eng) : Eng := if e.aonUp then Eng.after e (f e.catchUp) else e

/-- A host access, or an event that IML takes in any state: what it sets off follows. -/
def Eng.hostDo (f : Eng → Eng) (e : Eng) : Eng := Eng.after e (f e.catchUp)

end Sys2Proof.Machine
end

