-- ==== Sys2Proof/Machine/Access.lean ====
section
/-! DEFINITION. The commands of host software on BAR2 (00 R9 to R13, 13 R354 to R382): accesses, the lock, debug and test
registers. -/

namespace Sys2Proof.Machine

/-- BAR2_BAD_ACCESS (R9): no effect; a read returns 0. -/
def execBar2BadAccess (t : Nat) (write : Bool) (off : Nat) (s : State) : Host.Outcome State Fault Refusal :=
  s.run (.bar2BadAccess t write off) "BAR2_BAD_ACCESS" fun e => if write then e else { e with readData := 0 }

/-- REGISTER_WRITE (R11): a write takes effect by the access codes of the register's fields. -/
def execRegisterWrite (t off : Nat) (val : Word) (req : Nat) (s : State) : Host.Outcome State Fault Refusal :=
  s.run (.registerWrite t off val req) "REGISTER_WRITE" (Eng.hostDo fun e => e.hostWrite off val req)

/-- READ_CLEAR (R11): a read returns the current value, so a running draft is first brought up to the present, and clears RC
fields, keeping `same`, what arrives in that cycle. -/
def execReadClear (t off : Nat) (same : Word) (s : State) : Host.Outcome State Fault Refusal :=
  s.run (.readClear t off same) "READ_CLEAR" fun e => e.catchUp.hostRead off same

/-- W1C_CLEAR (R11): ones clear the bits of a W1C field, but for `same`, what the engine sets in that cycle. -/
def execW1cClear (t off : Nat) (val same : Word) (s : State) : Host.Outcome State Fault Refusal :=
  s.run (.w1cClear t off val same) "W1C_CLEAR" (Eng.hostDo fun e => if e.hasAcc off .w1c then e.hostWrite off val 0 same else e)

/-- PAIR_LO_READ (R13): a read of a lo register latches its hi half. -/
def execPairLoRead (t off : Nat) (s : State) : Host.Outcome State Fault Refusal :=
  s.run (.pairLoRead t off) "PAIR_LO_READ" fun e => if pairLo off = some off then e.catchUp.hostRead off 0 else e

/-- PAIR_LO_WRITE (R13): every writable pair is RWL and staged, so the write enters the staging list (13 R371). -/
def execPairLoWrite (t off : Nat) (val : Word) (req : Nat) (s : State) : Host.Outcome State Fault Refusal :=
  s.run (.pairLoWrite t off val req) "PAIR_LO_WRITE" (Eng.hostDo fun e =>
    if pairLo off = some off then e.hostWrite off val req else e)

/-- PAIR_HI_WRITE (R13): both halves commit at once, in the locked sequence's commit. -/
def execPairHiWrite (t off : Nat) (val : Word) (req : Nat) (s : State) : Host.Outcome State Fault Refusal :=
  s.run (.pairHiWrite t off val req) "PAIR_HI_WRITE" (Eng.hostDo fun e =>
    if pairLo off ≠ none ∧ pairLo off ≠ some off then e.hostWrite off val req else e)

/-- PEEK_READ (R12): the live value through the aperture, with no side effect. -/
def execPeekRead (t off : Nat) (s : State) : Host.Outcome State Fault Refusal :=
  s.run (.peekRead t off) "PEEK_READ" fun e => e.peek off

/-- STAGED_WRITE (13 R371): the holder's write of a staged RWL field is listed, another's is discarded. -/
def execStagedWrite (t off : Nat) (val : Word) (req : Nat) (s : State) : Host.Outcome State Fault Refusal :=
  s.run (.stagedWrite t off val req) "STAGED_WRITE" (Eng.hostDo fun e =>
    if e.hasAcc off .rwl && !immediate off then e.hostWrite off val req else e)

/-- COUNTER_SELECT (13 R354): a selector register is written. -/
def execCounterSelect (t off : Nat) (val : Word) (s : State) : Host.Outcome State Fault Refusal :=
  s.run (.counterSelect t off val) "COUNTER_SELECT" (Eng.hostDo fun e =>
    if Reg.TEL_SETA_SEL 0 ≤ off ∧ off ≤ Reg.TEL_SETB_SEL 7 then e.hostWrite off val 0 else e)

/-- RING_CONS_WRITE (13 R363). -/
def execRingConsWrite (t ring : Nat) (val : Word) (s : State) : Host.Outcome State Fault Refusal :=
  s.run (.ringConsWrite t ring val) "RING_CONS_WRITE" (Eng.hostDo fun e => e.hostWrite (Reg.TEL_RING_CONS ring) val 0)

/-- RING_FLUSH (13 R364): a write of RYV_TEL_RING[p]_CTRL with FLUSH set. -/
def execRingFlush (t ring : Nat) (val : Word) (s : State) : Host.Outcome State Fault Refusal :=
  s.run (.ringFlush t ring val) "RING_FLUSH" (Eng.hostDo fun e =>
    e.hostWrite (Reg.TEL_RING_CTRL ring) (val ||| 0x80000000#32) 0)

/-- MARK (13 R369): a write of RYV_TEL_MARK. -/
def execMark (t : Nat) (val : Word) (s : State) : Host.Outcome State Fault Refusal :=
  s.run (.mark t val) "MARK" (Eng.hostDo fun e => e.hostWrite Reg.TEL_MARK val 0)

/-- LOCK_ACQUIRE (13 R370). -/
def execLockAcquire (t req : Nat) (s : State) : Host.Outcome State Fault Refusal :=
  s.run (.lockAcquire t req) "LOCK_ACQUIRE" (Eng.hostDo fun e => e.hostWrite Reg.GLB_LOCK 0x80000000#32 req)

/-- LOCK_RENEW (13 R370). -/
def execLockRenew (t req : Nat) (s : State) : Host.Outcome State Fault Refusal :=
  s.run (.lockRenew t req) "LOCK_RENEW" (Eng.hostDo fun e => e.hostWrite Reg.GLB_LOCK 0x40000000#32 req)

/-- LOCK_RELEASE (13 R372): RELEASE without COMMIT. -/
def execLockRelease (t req : Nat) (s : State) : Host.Outcome State Fault Refusal :=
  s.run (.lockRelease t req) "LOCK_RELEASE" (Eng.hostDo fun e => e.hostWrite Reg.GLB_LOCK 0x20000000#32 req)

/-- LOCK_RELEASE_COMMIT (13 R372): RELEASE with COMMIT. -/
def execLockReleaseCommit (t req : Nat) (s : State) : Host.Outcome State Fault Refusal :=
  s.run (.lockReleaseCommit t req) "LOCK_RELEASE_COMMIT" (Eng.hostDo fun e => e.hostWrite Reg.GLB_LOCK 0x30000000#32 req)

/-- LOCK_LEASE_END (13 R373): the lease ends without a release. -/
def execLockLeaseEnd (t : Nat) (s : State) : Host.Outcome State Fault Refusal :=
  s.run (.lockLeaseEnd t) "LOCK_LEASE_END" (Eng.hostDo fun e =>
    if e.dbg.lock.held && decide (e.dbg.lock.leaseEnd ≤ e.now) then e.breakLock 1 3 else e)

/-- SERVICE_PORT_RESET (13 R373): cause 2 a function-level reset, 3 a hot reset or link down. -/
def execServicePortReset (t cause : Nat) (s : State) : Host.Outcome State Fault Refusal :=
  s.run (.servicePortReset t cause) "SERVICE_PORT_RESET" (Eng.hostDo fun e => e.breakLock (if cause = 2 then 2 else 3) 4)

/-- PEEK_ARG (13 R375): a write of RYV_DBG_PEEK_ARG starts a copy. -/
def execPeekArg (t : Nat) (val : Word) (s : State) : Host.Outcome State Fault Refusal :=
  s.run (.peekArg t val) "PEEK_ARG" (Eng.hostDo fun e => e.hostWrite Reg.DBG_PEEK_ARG val 0)

/-- PEEK_COPY_DONE (13 R375). -/
def execPeekCopyDone (t : Nat) (s : State) : Host.Outcome State Fault Refusal :=
  s.run (.peekCopyDone t) "PEEK_COPY_DONE" (Eng.aonDo Eng.endPeek)

/-- DBG_CTRL_WRITE (13 R376 to R378): a write of RYV_DBG_CTRL without GO. -/
def execDbgCtrlWrite (t : Nat) (val : Word) (req : Nat) (s : State) : Host.Outcome State Fault Refusal :=
  s.run (.dbgCtrlWrite t val req) "DBG_CTRL_WRITE" (Eng.hostDo fun e => e.hostWrite Reg.DBG_CTRL (val &&& 0xDFFFFFFF#32) req)

/-- INSTAR_GO (13 R377): a write of RYV_DBG_CTRL with GO set releases one held descriptor. -/
def execInstarGo (t : Nat) (val : Word) (req : Nat) (s : State) : Host.Outcome State Fault Refusal :=
  s.run (.instarGo t val req) "INSTAR_GO" (Eng.hostDo fun e => e.hostWrite Reg.DBG_CTRL (val ||| 0x20000000#32) req)

/-- DSQ_STEP_GO (06 R155): a write of RYV_DSQ_STEP with GO set. -/
def execDsqStepGo (t req : Nat) (val : Word) (s : State) : Host.Outcome State Fault Refusal :=
  s.run (.dsqStepGo t req val) "DSQ_STEP_GO" (Eng.hostDo fun e => e.hostWrite Reg.DSQ_STEP (val ||| 0x80000000#32) req)

/-- TEST_REQUEST (13 R379): a write of RYV_DBG_TEST_REQ with GO set. -/
def execTestRequest (t : Nat) (val : Word) (req : Nat) (s : State) : Host.Outcome State Fault Refusal :=
  s.run (.testRequest t val req) "TEST_REQUEST" (Eng.hostDo fun e =>
    e.hostWrite Reg.DBG_TEST_REQ ((val ||| 0x80000000#32) &&& 0xBFFFFFFF#32) req)

/-- TEST_CANCEL (13 R379): a write of RYV_DBG_TEST_REQ with CANCEL set. -/
def execTestCancel (t req : Nat) (s : State) : Host.Outcome State Fault Refusal :=
  s.run (.testCancel t req) "TEST_CANCEL" (Eng.hostDo fun e =>
    e.hostWrite Reg.DBG_TEST_REQ (e.reg Reg.DBG_TEST_REQ ||| 0x40000000#32) req)

/-- SNAP_START (10 R279): a write of RYV_TWM_SNAP_CTRL. -/
def execSnapStart (t : Nat) (val : Word) (s : State) : Host.Outcome State Fault Refusal :=
  s.run (.snapStart t val) "SNAP_START" (Eng.hostDo fun e => e.hostWrite Reg.TWM_SNAP_CTRL val 0)

/-- RESET_ENGINE (12 R338): a write of ENGINE to RYV_IML_RESET. -/
def execResetEngine (t req : Nat) (s : State) : Host.Outcome State Fault Refusal :=
  s.run (.resetEngine t req) "RESET_ENGINE" (Eng.hostDo fun e => e.hostWrite Reg.IML_RESET 0x80000000#32 req)

/-- RESET_FLUTTER (12 R338): a write of FLUTTER to RYV_IML_RESET. -/
def execResetFlutter (t req : Nat) (s : State) : Host.Outcome State Fault Refusal :=
  s.run (.resetFlutter t req) "RESET_FLUTTER" (Eng.hostDo fun e => e.hostWrite Reg.IML_RESET 0x40000000#32 req)

/-- A write of RYV_IML_WR_CTRL with GO set, RYV_IML_WR_ADDR holding `addr` (12 R335). The holder's address is written
first; another requester's operation is refused. -/
def Eng.flashOp (e : Eng) (op req addr : Nat) : Eng :=
  let e := e.hostWrite Reg.IML_WR_ADDR (BitVec.ofNat 32 addr) req
  e.hostWrite Reg.IML_WR_CTRL (BitVec.ofNat 32 (2 ^ 31 + op * 2 ^ 28)) req

/-- ERASE (12 R336). -/
def execFlashErase (t req addr : Nat) (s : State) : Host.Outcome State Fault Refusal :=
  s.run (.flashErase t req addr) "ERASE" (Eng.hostDo fun e => e.flashOp 0 req addr)

/-- PROGRAM (12 R336). -/
def execFlashProgram (t req addr : Nat) (s : State) : Host.Outcome State Fault Refusal :=
  s.run (.flashProgram t req addr) "PROGRAM" (Eng.hostDo fun e => e.flashOp 1 req addr)

/-- READ (12 R336). -/
def execFlashRead (t req addr : Nat) (s : State) : Host.Outcome State Fault Refusal :=
  s.run (.flashRead t req addr) "READ" (Eng.hostDo fun e => e.flashOp 2 req addr)

/-- VALIDATE (12 R336). -/
def execFlashValidate (t req addr : Nat) (s : State) : Host.Outcome State Fault Refusal :=
  s.run (.flashValidate t req addr) "VALIDATE" (Eng.hostDo fun e => e.flashOp 3 req addr)

end Sys2Proof.Machine
end

