-- ==== Sys2Proof/Machine/CmpRows.lean ====
section
/-! DEFINITION. The commands of composing and of the flutter tree (05, 14 R387, R388), and legs that time out (02 R40,
R405). -/

namespace Sys2Proof.Machine

/-- TAIL_SUMMARY (07 R175). -/
def execTailSummary (t : Nat) (msg : Bytes) (s : State) : Host.Outcome State Fault Refusal :=
  s.run (.tailSummary t msg) "TAIL_SUMMARY" (Eng.leadDo fun e => e.takeSummary msg)

/-- IDLE_INSTAR_END (R121). -/
def execIdleInstarEnd (t : Nat) (s : State) : Host.Outcome State Fault Refusal :=
  s.run (.idleInstarEnd t) "IDLE_INSTAR_END" (Eng.leadDo Eng.endIdle)

/-- INSTAR_DESCRIPTOR (R126). -/
def execInstarDescriptor (t : Nat) (msg : Bytes) (s : State) : Host.Outcome State Fault Refusal :=
  s.run (.instarDescriptor t msg) "INSTAR_DESCRIPTOR" (Eng.engineDo fun e => e.receiveDescriptor msg)

/-- RESEND_REQUEST (R126). -/
def execResendRequest (t : Nat) (msg : Bytes) (s : State) : Host.Outcome State Fault Refusal :=
  s.run (.resendRequest t msg) "RESEND_REQUEST" (Eng.engineDo fun e => e.resendDescriptor msg)

/-- INSTAR_END_REPORT (R127): a report of an engine of this engine's subtree. -/
def execInstarEndReport (t : Nat) (msg : Bytes) (s : State) : Host.Outcome State Fault Refusal :=
  s.run (.instarEndReport t msg) "INSTAR_END_REPORT" (Eng.engineDo fun e =>
    if msg.length = 64 then e.gatherReport msg false else e)

/-- INSTAR_WATCHDOG (R128). -/
def execInstarWatchdog (t : Nat) (s : State) : Host.Outcome State Fault Refusal :=
  s.run (.instarWatchdog t) "INSTAR_WATCHDOG" (Eng.leadDo Eng.instarLate)

/-- PREFIX_MATCH_DONE (R120). -/
def execPrefixMatchDone (t tag : Nat) (s : State) : Host.Outcome State Fault Refusal :=
  s.run (.prefixMatchDone t tag) "PREFIX_MATCH_DONE" (Eng.leadDo fun e => e.matchPrefix tag)

/-- FABRIC_FRAME_BAD (14 R388): the frame, its 16-byte header first. -/
def execFabricFrameBad (t : Nat) (msg : Bytes) (s : State) : Host.Outcome State Fault Refusal :=
  s.run (.fabricFrameBad t msg) "FABRIC_FRAME_BAD" (Eng.engineDo fun e => e.badFrame msg)

/-- LEG_TIMEOUT (02 R40, R405). -/
def execLegTimeout (t : Nat) (leg : Leg) (s : State) : Host.Outcome State Fault Refusal :=
  s.run (.legTimeout t leg) "LEG_TIMEOUT" (Eng.engineDo fun e => e.legTimeout leg)

end Sys2Proof.Machine
end

