-- ==== Sys2Proof/Machine/DirRows.lean ====
section
/-! DEFINITION. The commands of the session directory (03). -/

namespace Sys2Proof.Machine

/-- DIR_LOOKUP (R54, R61). -/
def execDirLookup (t tag requester : Nat) (s : State) : Host.Outcome State Fault Refusal :=
  s.run (.dirLookup t tag requester) "DIR_LOOKUP" (Eng.leadDo fun e => e.request tag requester)

/-- DIR_MISS_FILL (R68): the read of copy A returns. -/
def execDirMissFill (t tag : Nat) (r : ReadResult) (s : State) : Host.Outcome State Fault Refusal :=
  s.run (.dirMissFill t tag r) "DIR_MISS_FILL" (Eng.leadDo fun e =>
    match Tab.get? e.dir.fills tag with
    | some f => if f.copyB then e else match r with
      | .good => e.endFill tag f
      | _ => e.copyAFailed tag f
    | none => e)

/-- DIR_COPY_B_READ (R68): the read of copy B returns. Copy A is rewritten from it where A is there. -/
def execDirCopyBRead (t tag : Nat) (r : ReadResult) (s : State) : Host.Outcome State Fault Refusal :=
  s.run (.dirCopyBRead t tag r) "DIR_COPY_B_READ" (Eng.leadDo fun e =>
    match Tab.get? e.dir.fills tag with
    | some f => if !f.copyB then e else match r with
      | .good => e.endFill tag f
      | _ => e.copyBFailed tag f
    | none => e)

/-- INSERT_WINDOW_END (R62). -/
def execInsertWindowEnd (t : Nat) (s : State) : Host.Outcome State Fault Refusal :=
  s.run (.insertWindowEnd t) "INSERT_WINDOW_END" (Eng.leadDo Eng.judgeWindow)

/-- DIR_SLICE_FAILED (R63, R72). -/
def execDirSliceFailed (t slice : Nat) (s : State) : Host.Outcome State Fault Refusal :=
  s.run (.dirSliceFailed t slice) "DIR_SLICE_FAILED" (Eng.leadDo fun e => e.failSlice slice)

/-- BACKING_COPY_DONE (R69). -/
def execBackingCopyDone (t : Nat) (s : State) : Host.Outcome State Fault Refusal :=
  s.run (.backingCopyDone t) "BACKING_COPY_DONE" (Eng.leadDo Eng.backingDone)

/-- BLOCK_REQ (R51): the partner asks for index blocks. -/
def execBlockReq (t : Nat) (msg : Bytes) (s : State) : Host.Outcome State Fault Refusal :=
  s.run (.blockReq t msg) "BLOCK_REQ" (Eng.engineDo fun e => e.takeBlockReq msg)

/-- The session's idle expiry has come (R55, 04 Table 4-7). -/
def Eng.expired (e : Eng) (x : Entry) : Bool :=
  let c := e.tcfg x.tenant
  (x.state == .idle || x.state == .yielded) && x.residency == 0 && c.expiry != 0 && e.commits &&
    decide (x.lastAct + actTime (c.expiry * 60000000000) ≤ actTime e.now)

/-- SESSION_EXPIRY (R55): an expired session becomes CLOSING. -/
def execSessionExpiry (t tag : Nat) (s : State) : Host.Outcome State Fault Refusal :=
  s.run (.sessionExpiry t tag) "SESSION_EXPIRY" (Eng.leadDo fun e =>
    match e.find tag with
    | some x => if e.expired x then e.startClose x 1 0 0 none else e
    | none => e)

/-- SESSION_REBUILD (10 R278): a HELD session is rebuilt, or stays HELD where the copies differ. -/
def execSessionRebuild (t tag : Nat) (other : Bytes) (s : State) : Host.Outcome State Fault Refusal :=
  s.run (.sessionRebuild t tag other) "SESSION_REBUILD" (Eng.leadDo fun e => e.rebuildSession tag other)

end Sys2Proof.Machine
end

