-- ==== Sys2Proof/Machine/DsqRows.lean ====
section
/-! DEFINITION. The commands of dispatch (06). -/

namespace Sys2Proof.Machine

/-- KERNEL (R135, R139; at the head of a job). -/
def execDsqKernel (t part job : Nat) (raw : Bytes) (s : State) : Host.Outcome State Fault Refusal :=
  s.run (.dsqKernel t part job raw) "KERNEL" (Eng.engineDo fun e => e.headCommand 1 part job raw)

/-- ACQUIRE (R135, R146; at the head of a job). -/
def execDsqAcquire (t part job : Nat) (raw : Bytes) (s : State) : Host.Outcome State Fault Refusal :=
  s.run (.dsqAcquire t part job raw) "ACQUIRE" (Eng.engineDo fun e => e.headCommand 2 part job raw)

/-- RELEASE (R135, R146; at the head of a job). -/
def execDsqRelease (t part job : Nat) (raw : Bytes) (s : State) : Host.Outcome State Fault Refusal :=
  s.run (.dsqRelease t part job raw) "RELEASE" (Eng.engineDo fun e => e.headCommand 3 part job raw)

/-- LINK_GET (R135, R148; at the head of a job). -/
def execDsqLinkGet (t part job : Nat) (raw : Bytes) (s : State) : Host.Outcome State Fault Refusal :=
  s.run (.dsqLinkGet t part job raw) "LINK_GET" (Eng.engineDo fun e => e.headCommand 4 part job raw)

/-- LINK_PUT (R135; at the head of a job). -/
def execDsqLinkPut (t part job : Nat) (raw : Bytes) (s : State) : Host.Outcome State Fault Refusal :=
  s.run (.dsqLinkPut t part job raw) "LINK_PUT" (Eng.engineDo fun e => e.headCommand 5 part job raw)

/-- LAYER (R135; at the head of a job). -/
def execDsqLayer (t part job : Nat) (raw : Bytes) (s : State) : Host.Outcome State Fault Refusal :=
  s.run (.dsqLayer t part job raw) "LAYER" (Eng.engineDo fun e => e.headCommand 6 part job raw)

/-- END (R144, R127, R135; at the head of a job). -/
def execDsqEnd (t part job : Nat) (raw : Bytes) (s : State) : Host.Outcome State Fault Refusal :=
  s.run (.dsqEnd t part job raw) "END" (Eng.engineDo fun e => e.headCommand 15 part job raw)

/-- KERNEL_COMPLETE (R141, R144). -/
def execKernelComplete (t part job : Nat) (s : State) : Host.Outcome State Fault Refusal :=
  s.run (.kernelComplete t part job) "KERNEL_COMPLETE" (Eng.engineDo fun e => e.kernelDone part job)

/-- HALT_ACK (R142, R144). -/
def execHaltAck (t part job : Nat) (s : State) : Host.Outcome State Fault Refusal :=
  s.run (.haltAck t part job) "HALT_ACK" (Eng.engineDo fun e => e.halted part job)

/-- GROUP_SAVE_DONE (R143, R142, R144). -/
def execGroupSaveDone (t group : Nat) (ok : Bool) (s : State) : Host.Outcome State Fault Refusal :=
  s.run (.groupSaveDone t group ok) "GROUP_SAVE_DONE" (Eng.engineDo fun e => e.groupSaved group ok)

/-- GROUP_RESTORE_DONE (R144, R145). -/
def execGroupRestoreDone (t group : Nat) (ok : Bool) (s : State) : Host.Outcome State Fault Refusal :=
  s.run (.groupRestoreDone t group ok) "GROUP_RESTORE_DONE" (Eng.engineDo fun e => e.groupRestored group ok)

/-- CONTEXT_LOAD_DONE (R140). -/
def execContextLoadDone (t group : Nat) (ok : Bool) (s : State) : Host.Outcome State Fault Refusal :=
  s.run (.contextLoadDone t group ok) "CONTEXT_LOAD_DONE" (Eng.engineDo fun e => e.contextLoaded group ok)

/-- CORE_MACHINE_CHECK (R149, R150). -/
def execCoreMachineCheck (t group core : Nat) (s : State) : Host.Outcome State Fault Refusal :=
  s.run (.coreMachineCheck t group core) "CORE_MACHINE_CHECK" (Eng.engineDo fun e => e.fenceCore group core)

/-- KERNEL_WATCHDOG (R149, Table 6-5 cause 2). -/
def execKernelWatchdog (t part job : Nat) (s : State) : Host.Outcome State Fault Refusal :=
  s.run (.kernelWatchdog t part job) "KERNEL_WATCHDOG" (Eng.engineDo fun e => e.kernelLate part job)

/-- CLUSTER_HBM_ERROR (R149, Table 6-5 cause 5). -/
def execClusterHbmError (t part : Nat) (s : State) : Host.Outcome State Fault Refusal :=
  s.run (.clusterHbmError t part) "CLUSTER_HBM_ERROR" (Eng.engineDo fun e => 
    if (Tab.get? e.img.partitions part).isNone then e else (e.faultPart part 5 false).settleDsq part)

/-- PARTITION_READY (R149, R153). -/
def execPartitionReady (t part : Nat) (s : State) : Host.Outcome State Fault Refusal :=
  s.run (.partitionReady t part) "PARTITION_READY" (Eng.engineDo fun e => e.partReady part)

/-- VOID_NOTICE (R152). -/
def execVoidNotice (t : Nat) (msg : Bytes) (s : State) : Host.Outcome State Fault Refusal :=
  s.run (.voidNotice t msg) "VOID_NOTICE" (Eng.engineDo fun e => e.takeVoid msg)

/-- ABORT (R153). -/
def execAbortMsg (t : Nat) (msg : Bytes) (s : State) : Host.Outcome State Fault Refusal :=
  s.run (.abortMsg t msg) "ABORT" (Eng.engineDo fun e => e.takeAbort msg)

/-- TENSOR_DUMP_DONE (R154). -/
def execTensorDumpDone (t bytes : Nat) (s : State) : Host.Outcome State Fault Refusal :=
  s.run (.tensorDumpDone t bytes) "TENSOR_DUMP_DONE" (Eng.engineDo fun e => e.dumpDone bytes)

/-- LINK_CREDIT_RETURN (R135). -/
def execLinkCreditReturn (t part : Nat) (n : Nat) (s : State) : Host.Outcome State Fault Refusal :=
  s.run (.linkCreditReturn t part n) "LINK_CREDIT_RETURN" (Eng.engineDo fun e => 
    if (Tab.get? e.img.partitions part).isNone then e else e.creditsBack part n)

end Sys2Proof.Machine
end

