-- ==== Sys2Proof/Machine/ImlRows.lean ====
section
/-! DEFINITION. The commands of start-up, resets, flash and power loss (12). -/

namespace Sys2Proof.Machine

/-- VAON_GOOD (R337, Table 12-6 step 1). -/
def execVaonGood (t : Nat) (fuses : Bytes) (s : State) : Host.Outcome State Fault Refusal :=
  s.run (.vaonGood t fuses) "VAON_GOOD" (Eng.hostDo fun e => e.coldBoot fuses)

/-- RAIL_POWER_GOOD (R337, Table 12-6 step 2). -/
def execRailPowerGood (t rail : Nat) (s : State) : Host.Outcome State Fault Refusal :=
  s.run (.railPowerGood t rail) "RAIL_POWER_GOOD" (Eng.aonDo fun e => e.railGood rail)

/-- FLASH_STATUS_WRITE_DONE (R322). -/
def execFlashStatusWriteDone (t : Nat) (ok : Bool) (s : State) : Host.Outcome State Fault Refusal :=
  s.run (.flashStatusWriteDone t ok) "FLASH_STATUS_WRITE_DONE" (Eng.aonDo fun e => e.statusWritten ok)

/-- HBM_READY (R337, Table 12-6 step 6). -/
def execHbmReady (t : Nat) (lanes : List Nat) (units : List BistUnit) (s : State) : Host.Outcome State Fault Refusal :=
  s.run (.hbmReady t lanes units) "HBM_READY" (Eng.aonDo fun e => e.hbmIsReady (lanes, units))

/-- ENG_RESET_INPUT (R338, Table 12-7). -/
def execEngResetInput (t : Nat) (s : State) : Host.Outcome State Fault Refusal :=
  s.run (.engResetInput t) "ENG_RESET_INPUT" (Eng.aonDo fun e => e.askReset 4 false)

/-- FLUTTER_RESET (R338, Table 12-7). -/
def execFlutterReset (t : Nat) (msg : Bytes) (s : State) : Host.Outcome State Fault Refusal :=
  s.run (.flutterReset t msg) "FLUTTER_RESET" (Eng.aonDo fun e => (e.down 0x01 msg).askReset 2 false)

/-- AON_WATCHDOG (R339, Table 12-7). -/
def execAonWatchdog (t island : Nat) (s : State) : Host.Outcome State Fault Refusal :=
  s.run (.aonWatchdog t island) "AON_WATCHDOG" (Eng.aonDo fun e => if e.islandRuns island then e.askReset 3 false else e)

/-- FLASH_OP_DONE (R336). -/
def execFlashOpDone (t : Nat) (result : Nat) (s : State) : Host.Outcome State Fault Refusal :=
  s.run (.flashOpDone t result) "FLASH_OP_DONE" (Eng.aonDo fun e => e.endFlashOp result)

/-- PF_WARN (R340). -/
def execPfWarn (t : Nat) (s : State) : Host.Outcome State Fault Refusal :=
  s.run (.pfWarn t) "PF_WARN" (Eng.aonDo Eng.warned)

/-- PF_WARN_CLEAR (R340, R343). -/
def execPfWarnClear (t : Nat) (s : State) : Host.Outcome State Fault Refusal :=
  s.run (.pfWarnClear t) "PF_WARN_CLEAR" (Eng.aonDo Eng.warnCleared)

/-- HOLDUP_INSTAR_TIMEOUT (R340, Table 12-8). -/
def execHoldupInstarTimeout (t : Nat) (s : State) : Host.Outcome State Fault Refusal :=
  s.run (.holdupInstarTimeout t) "HOLDUP_INSTAR_TIMEOUT" (Eng.aonDo Eng.dropInFlight)

/-- FLUSH_WRITE_DONE (R341). -/
def execFlushWriteDone (t : Nat) (s : State) : Host.Outcome State Fault Refusal :=
  s.run (.flushWriteDone t) "FLUSH_WRITE_DONE" (Eng.aonDo Eng.flushDone)

/-- RIDE_TIMEOUT (R340, R345). -/
def execRideTimeout (t : Nat) (s : State) : Host.Outcome State Fault Refusal :=
  s.run (.rideTimeout t) "RIDE_TIMEOUT" (Eng.aonDo Eng.rideOut)

/-- DWELL_END (R340). -/
def execDwellEnd (t : Nat) (s : State) : Host.Outcome State Fault Refusal :=
  s.run (.dwellEnd t) "DWELL_END" (Eng.aonDo Eng.endDwell)

/-- RAIL_POWER_FAIL (R345). -/
def execRailPowerFail (t rail : Nat) (s : State) : Host.Outcome State Fault Refusal :=
  s.run (.railPowerFail t rail) "RAIL_POWER_FAIL" (Eng.aonDo fun e => e.railFell rail)

/-- PD_RAIL_TIMEOUT (R345). -/
def execPdRailTimeout (t : Nat) (s : State) : Host.Outcome State Fault Refusal :=
  s.run (.pdRailTimeout t) "PD_RAIL_TIMEOUT" (Eng.aonDo Eng.railLate)

end Sys2Proof.Machine
end

