-- ==== Sys2Proof/Machine/IngRows.lean ====
section
/-! DEFINITION. The commands of ingress (04): one meaning per record type, over one path of ING, LDG, DLN and DIR. -/

namespace Sys2Proof.Machine

/-- A record of the type that the command names is read from the NIC's ingress queue; its first byte decides what it is
(R75, R76). An engine in start-up reads no record (14 R391). -/
def Eng.readRecord (e : Eng) (r : Bytes) (src units : Nat) : Eng := Eng.engineDo (fun e => e.ingest r src units) e

/-- OPEN (R53). -/
def execIngOpen (t : Nat) (rec : Bytes) (src units : Nat) (s : State) : Host.Outcome State Fault Refusal :=
  s.run (.ingOpen t rec src units) "OPEN" fun e => e.readRecord rec src units

/-- TURN (R96). -/
def execIngTurn (t : Nat) (rec : Bytes) (src units : Nat) (s : State) : Host.Outcome State Fault Refusal :=
  s.run (.ingTurn t rec src units) "TURN" fun e => e.readRecord rec src units

/-- RESUME (03 R55). -/
def execIngResume (t : Nat) (rec : Bytes) (src units : Nat) (s : State) : Host.Outcome State Fault Refusal :=
  s.run (.ingResume t rec src units) "RESUME" fun e => e.readRecord rec src units

/-- CLOSE (R85). -/
def execIngClose (t : Nat) (rec : Bytes) (src units : Nat) (s : State) : Host.Outcome State Fault Refusal :=
  s.run (.ingClose t rec src units) "CLOSE" fun e => e.readRecord rec src units

/-- PIN (09 R230). -/
def execIngPin (t : Nat) (rec : Bytes) (src units : Nat) (s : State) : Host.Outcome State Fault Refusal :=
  s.run (.ingPin t rec src units) "PIN" fun e => e.readRecord rec src units

/-- PROBE (R86). -/
def execIngProbe (t : Nat) (rec : Bytes) (src units : Nat) (s : State) : Host.Outcome State Fault Refusal :=
  s.run (.ingProbe t rec src units) "PROBE" fun e => e.readRecord rec src units

/-- AMEND (R78). -/
def execIngAmend (t : Nat) (rec : Bytes) (src units : Nat) (s : State) : Host.Outcome State Fault Refusal :=
  s.run (.ingAmend t rec src units) "AMEND" fun e => e.readRecord rec src units

/-- INGRESS_UNKNOWN_TYPE (R76). -/
def execIngressUnknownType (t : Nat) (rec : Bytes) (src units : Nat) (s : State) : Host.Outcome State Fault Refusal :=
  s.run (.ingressUnknownType t rec src units) "INGRESS_UNKNOWN_TYPE" fun e => e.readRecord rec src units

/-- PRODUCER_WINDOW_FILL (R81). -/
def execProducerWindowFill (t slot : Nat) (s : State) : Host.Outcome State Fault Refusal :=
  s.run (.producerWindowFill t slot) "PRODUCER_WINDOW_FILL" (Eng.engineDo fun e => (e.legIn (.window slot)).windowFilled slot)

/-- OUTCOME_WORD_READ (R80). -/
def execOutcomeWordRead (t slot seq : Nat) (s : State) : Host.Outcome State Fault Refusal :=
  s.run (.outcomeWordRead t slot seq) "OUTCOME_WORD_READ" (Eng.engineDo fun e => e.outcomeRead slot seq)

end Sys2Proof.Machine
end

