-- ==== Sys2Proof/Machine/Islands.lean ====
section
/-! DEFINITION. The islands' own measurements (02 R44 to R48). -/

namespace Sys2Proof.Machine

/-- Nominal period in picoseconds, rounded to the nearest (Table 2-1). -/
def islandPs (n : Nat) : Nat :=
  if n = 0 then 10000 else if n = 1 then 556 else if n ≤ 5 then 500 else if n ≤ 7 then 833 else if n ≤ 9 then 500
  else if n = 10 then 1000 else if n = 11 then 625 else if n ≤ 13 then 417 else if n = 14 then 2500
  else if n = 15 then 667 else if n = 16 then 1250 else 5000

/-- The excess of a window of `ns` nanoseconds over 65,536 nominal periods, in picoseconds (R44). A window that falls short of
the rounded nominal periods has no excess time, and adds 0 to the total of R45. DESIGN CHOICE: the spec does not say what a
negative excess_ps adds (log entry 117). -/
def windowExcess (n ns : Nat) : Nat := ns * 1000 - 65536 * islandPs n

/-- The window stretch s_w in units of 1/4,096, truncated and clamped (R44). -/
def windowStretch (n ns : Nat) : Nat := min (windowExcess n ns * 4096 / (65536 * islandPs n)) 65535

/-- A window of 65,536 cycles of island `n` ends (R44 to R46, R48). -/
def Eng.windowEnd (e : Eng) (n : Nat) : Eng :=
  let w := Tab.getD e.isl n {}
  let ns := e.now - w.tsStart
  let sw := windowStretch n ns
  let win := Reg.ISL_STRETCH_WIN n
  let e := (e.bump64 (Reg.ISL_CYCLES_LO n) 65536).bump64 (Reg.ISL_STRETCH_PS_LO n) (windowExcess n ns)
  let e := e.occur 0x10 (windowExcess n ns) { unit := some n }
  let e := (e.setFld win 15 0 sw).setFld win 31 16 (max (e.fld win 31 16) sw)
  let e := if w.limit < sw then
      (e.setReg Reg.ISL_OVER_LIMIT (e.reg Reg.ISL_OVER_LIMIT ||| BitVec.ofNat 32 (2 ^ n))).raise 0x01 1 0
        [(16, 1, n), (18, 2, sw)]
    else e
  let w := { w with winStart := w.winStart + 65536, tsStart := e.now, limit := e.fld Reg.ISL_STRETCH_LIMIT 15 0 }
  { e with isl := Tab.put e.isl n w }

/-- STRETCH_WINDOW_END (R44). An island held in reset has no cycles, so nothing happens. -/
def execStretchWindowEnd (t island : Nat) (s : State) : Host.Outcome State Fault Refusal :=
  s.run (.stretchWindowEnd t island) "STRETCH_WINDOW_END" fun e => if e.islandRuns island then e.windowEnd island else e

/-- ISLAND_DROOP (R45, Table 2-9): the droop detector of an island starts or stops lengthening its cycles. -/
def execIslandDroop (t island : Nat) (on : Bool) (s : State) : Host.Outcome State Fault Refusal :=
  s.run (.islandDroop t island on) "ISLAND_DROOP" fun e =>
    if !e.islandRuns island then e
    else
      let w := Tab.getD e.isl island {}
      { e with isl := Tab.put e.isl island { w with stretching := on } }

end Sys2Proof.Machine
end

