-- ==== Sys2Proof/Machine/PgvRows.lean ====
section
/-! DEFINITION. The commands of power and heat (11). -/

namespace Sys2Proof.Machine

/-- The phases of the kernels that run. -/
def Eng.runningPhases (e : Eng) : List Nat :=
  (Tab.vals e.dsq.parts).flatMap fun p => p.jobs.filterMap fun j => if j.kernelRuns then j.kern.map Kern.phase else none

/-- One µs as it is sampled: a sensor that failed its calibration keeps the last temperature, and a calibration's heating is
no clean reference (13 R379). -/
def Eng.sampleUs (e : Eng) (vcoreMa vsramMa : List Int) (mv : List Nat) (stretch tHot sensor kMean : Nat) (pulses : List Nat)
    (tools : List (Nat × Nat)) : Eng :=
  let bad := e.pgv.badSensors.contains sensor
  let hot := if bad then e.pgv.tHot else tHot
  let at_ := if bad then e.pgv.hotSensor else sensor
  let e := e.fastLoop vcoreMa vsramMa mv stretch hot at_ kMean pulses tools e.runningPhases
  let heats := match e.pgv.calUntil with
    | some t => decide (e.now < t)
    | none => false
  if heats then e.modPgv fun g => { g with refUs := 0, refEnergy := 0, refStatic := 0 } else e

/-- A quiet instar is over: DSQ issues again (R304). -/
def Eng.endQuiet (e : Eng) : Eng :=
  match e.pgv.quietUntil with
  | some t =>
    if e.now < t then e
    else (Tab.keys e.dsq.parts).foldl Eng.settleDsq (e.modPgv fun g => { g with quietUntil := none })
  | none => e

/-- FAST_LOOP (R287, R296, R301, R315). -/
def execFastLoop (t : Nat) (vcoreMa vsramMa : List Int) (mv : List Nat) (stretch tHot sensor kMean : Nat) (pulses : List Nat) (toolPulses : List (Nat × Nat)) (s : State) :
    Host.Outcome State Fault Refusal :=
  s.run (.fastLoop t vcoreMa vsramMa mv stretch tHot sensor kMean pulses toolPulses) "FAST_LOOP" (Eng.aonDo fun e => 
    (e.sampleUs vcoreMa vsramMa mv stretch tHot sensor kMean pulses toolPulses).endQuiet)

/-- PMBUS_POLL (R288). -/
def execPmbusPoll (t : Nat) (s : State) : Host.Outcome State Fault Refusal :=
  s.run (.pmbusPoll t) "PMBUS_POLL" (Eng.aonDo Eng.pollAll)

/-- PMBUS_DONE (R288, R310, R311). -/
def execPmbusDone (t rail pout status : Nat) (phases : List Nat) (failed : List Nat) (s : State) :
    Host.Outcome State Fault Refusal :=
  s.run (.pmbusDone t rail pout status phases failed) "PMBUS_DONE" (Eng.aonDo fun e => e.polled rail pout failed)

/-- VDONE (R298, R299). -/
def execVdone (t rail mv : Nat) (s : State) : Host.Outcome State Fault Refusal :=
  s.run (.vdone t rail mv) "VDONE" (Eng.aonDo fun e => e.railDone rail mv)

/-- CLOCK_ACK (R298). -/
def execClockAck (t : Nat) (s : State) : Host.Outcome State Fault Refusal :=
  s.run (.clockAck t) "CLOCK_ACK" (Eng.aonDo Eng.clockDone)

/-- SLEW_TIMEOUT (R299). -/
def execSlewTimeout (t rail mv : Nat) (s : State) : Host.Outcome State Fault Refusal :=
  s.run (.slewTimeout t rail mv) "SLEW_TIMEOUT" (Eng.aonDo fun e => e.slewLate rail mv)

/-- EXCITATION_TEST (R302). -/
def execExcitationTest (t : Nat) (s : State) : Host.Outcome State Fault Refusal :=
  s.run (.excitationTest t) "EXCITATION_TEST" (Eng.aonDo Eng.exciteBoth)

/-- QUIET_REQUEST (R304). -/
def execQuietRequest (t : Nat) (s : State) : Host.Outcome State Fault Refusal :=
  s.run (.quietRequest t) "QUIET_REQUEST" (Eng.aonDo Eng.askQuiet)

/-- DEFICIT_MS (R307). -/
def execDeficitMs (t : Nat) (s : State) : Host.Outcome State Fault Refusal :=
  s.run (.deficitMs t) "DEFICIT_MS" (Eng.aonDo Eng.deficitMs)

/-- SURPLUS (R307). -/
def execSurplus (t : Nat) (s : State) : Host.Outcome State Fault Refusal :=
  s.run (.surplus t) "SURPLUS" (Eng.aonDo Eng.surplusMs)

/-- UNATTAINABLE_CHECK (R308). -/
def execUnattainableCheck (t meanW : Nat) (s : State) : Host.Outcome State Fault Refusal :=
  s.run (.unattainableCheck t meanW) "UNATTAINABLE_CHECK" (Eng.aonDo fun e => e.unattainable meanW)

/-- UNATTAINABLE_EXIT (R307, R308). -/
def execUnattainableExit (t meanW : Nat) (s : State) : Host.Outcome State Fault Refusal :=
  s.run (.unattainableExit t meanW) "UNATTAINABLE_EXIT" (Eng.aonDo fun e => e.attainable meanW)

/-- SHED_ON_CAP (R309). -/
def execShedOnCap (t misses : Nat) (s : State) : Host.Outcome State Fault Refusal :=
  s.run (.shedOnCap t misses) "SHED_ON_CAP" (Eng.leadDo fun e => e.shed misses)

/-- REG_ALERT (R312). -/
def execRegAlert (t rail addr status phase : Nat) (s : State) : Host.Outcome State Fault Refusal :=
  s.run (.regAlert t rail addr status phase) "REG_ALERT" (Eng.aonDo fun e => e.alert rail addr status phase)

/-- REG_ALERT_CLEAR (R312). -/
def execRegAlertClear (t : Nat) (s : State) : Host.Outcome State Fault Refusal :=
  s.run (.regAlertClear t) "REG_ALERT_CLEAR" (Eng.aonDo Eng.alertClear)

/-- REG_ALERT_TIMEOUT (R312). -/
def execRegAlertTimeout (t : Nat) (s : State) : Host.Outcome State Fault Refusal :=
  s.run (.regAlertTimeout t) "REG_ALERT_TIMEOUT" (Eng.aonDo Eng.alertLong)

/-- ALERT_HOLD_END (R312). -/
def execAlertHoldEnd (t : Nat) (s : State) : Host.Outcome State Fault Refusal :=
  s.run (.alertHoldEnd t) "ALERT_HOLD_END" (Eng.aonDo Eng.alertHeld)

/-- COOL_FLOW_LOST (R312). -/
def execCoolFlowLost (t : Nat) (s : State) : Host.Outcome State Fault Refusal :=
  s.run (.coolFlowLost t) "COOL_FLOW_LOST" (Eng.aonDo Eng.coolantLost)

/-- COOL_FLOW_ESCALATE (R312). -/
def execCoolFlowEscalate (t : Nat) (s : State) : Host.Outcome State Fault Refusal :=
  s.run (.coolFlowEscalate t) "COOL_FLOW_ESCALATE" (Eng.aonDo Eng.coolantEscalate)

/-- COOL_FLOW_RESTORED (R312). -/
def execCoolFlowRestored (t : Nat) (s : State) : Host.Outcome State Fault Refusal :=
  s.run (.coolFlowRestored t) "COOL_FLOW_RESTORED" (Eng.aonDo Eng.coolantBack)

/-- COOL_FLOW_OK_HIGH (R312). -/
def execCoolFlowOkHigh (t : Nat) (s : State) : Host.Outcome State Fault Refusal :=
  s.run (.coolFlowOkHigh t) "COOL_FLOW_OK_HIGH" (Eng.aonDo Eng.coolantHigh)

/-- THERMAL_CRIT (R313). -/
def execThermalCrit (t temp sensor : Nat) (s : State) : Host.Outcome State Fault Refusal :=
  s.run (.thermalCrit t temp sensor) "THERMAL_CRIT" (Eng.aonDo fun e => e.tooHot temp sensor)

/-- THERMAL_CRIT_TIMEOUT (R313). -/
def execThermalCritTimeout (t temp : Nat) (s : State) : Host.Outcome State Fault Refusal :=
  s.run (.thermalCritTimeout t temp) "THERMAL_CRIT_TIMEOUT" (Eng.aonDo fun e => e.stillHot temp)

end Sys2Proof.Machine
end

