-- ==== Sys2Proof/Machine/PlnRows.lean ====
section
/-! DEFINITION. The commands of placement and state movement (09). -/

namespace Sys2Proof.Machine

/-- PUPATE (R226, R227). -/
def execPupate (t : Nat) (msg : Bytes) (s : State) : Host.Outcome State Fault Refusal :=
  s.run (.pupate t msg) "PUPATE" (Eng.engineDo fun e => e.orderIn 1 msg)

/-- ECLOSE (R228, R226, R227). -/
def execEclose (t : Nat) (msg : Bytes) (s : State) : Host.Outcome State Fault Refusal :=
  s.run (.eclose t msg) "ECLOSE" (Eng.engineDo fun e => e.orderIn 2 msg)

/-- DEMOTE (R214, R227). -/
def execDemote (t : Nat) (msg : Bytes) (s : State) : Host.Outcome State Fault Refusal :=
  s.run (.demote t msg) "DEMOTE" (Eng.engineDo fun e => e.orderIn 3 msg)

/-- SPILL (R218, R227). -/
def execSpill (t : Nat) (msg : Bytes) (s : State) : Host.Outcome State Fault Refusal :=
  s.run (.spill t msg) "SPILL" (Eng.engineDo fun e => e.orderIn 4 msg)

/-- REFILL (R218, R227). -/
def execRefill (t : Nat) (msg : Bytes) (s : State) : Host.Outcome State Fault Refusal :=
  s.run (.refill t msg) "REFILL" (Eng.engineDo fun e => e.orderIn 5 msg)

/-- FREE (R227). -/
def execFree (t : Nat) (msg : Bytes) (s : State) : Host.Outcome State Fault Refusal :=
  s.run (.free t msg) "FREE" (Eng.engineDo fun e => e.orderIn 6 msg)

/-- CANCEL (R229, R227). -/
def execCancel (t : Nat) (msg : Bytes) (s : State) : Host.Outcome State Fault Refusal :=
  s.run (.cancel t msg) "CANCEL" (Eng.engineDo fun e => e.orderIn 7 msg)

/-- RESERVE (R216, R219, R227). -/
def execReserve (t : Nat) (msg : Bytes) (s : State) : Host.Outcome State Fault Refusal :=
  s.run (.reserve t msg) "RESERVE" (Eng.engineDo fun e => e.orderIn 8 msg)

/-- PREFIX (R227, R232). -/
def execPrefixCopy (t : Nat) (msg : Bytes) (s : State) : Host.Outcome State Fault Refusal :=
  s.run (.prefixCopy t msg) "PREFIX" (Eng.engineDo fun e => e.orderIn 9 msg)

/-- MIGRATE (R227, R234). -/
def execMigrate (t : Nat) (msg : Bytes) (s : State) : Host.Outcome State Fault Refusal :=
  s.run (.migrate t msg) "MIGRATE" (Eng.engineDo fun e => e.orderIn 10 msg)

/-- ORDER_TIME_DUE (R228). -/
def execOrderTimeDue (t tag : Nat) (s : State) : Host.Outcome State Fault Refusal :=
  s.run (.orderTimeDue t tag) "ORDER_TIME_DUE" (Eng.engineDo fun e => e.orderDue tag)

/-- CALENDAR_LOAD (R228). -/
def execCalendarLoad (t : Nat) (s : State) : Host.Outcome State Fault Refusal :=
  s.run (.calendarLoad t) "CALENDAR_LOAD" (Eng.engineDo Eng.loadCalendar)

/-- TTL_EXPIRY (R214; R215 for a T0 copy of a session in DECODE, which every engine drops). -/
def execTtlExpiry (t tag : Nat) (s : State) : Host.Outcome State Fault Refusal :=
  s.run (.ttlExpiry t tag) "TTL_EXPIRY" (Eng.engineDo fun e => e.ttlExpired tag)

/-- PIN_EXPIRY (R230). -/
def execPinExpiry (t tag : Nat) (s : State) : Host.Outcome State Fault Refusal :=
  s.run (.pinExpiry t tag) "PIN_EXPIRY" (Eng.leadDo fun e => e.pinExpired tag)

/-- WAIT_RECORD_FILL (R221). -/
def execWaitRecordFill (t tenant tool : Nat) (s : State) : Host.Outcome State Fault Refusal :=
  s.run (.waitRecordFill t tenant tool) "WAIT_RECORD_FILL" (Eng.leadDo fun e => e.waitFilled (waitKey tenant tool))

/-- WAIT_RECORD_DECAY (R222). -/
def execWaitRecordDecay (t tenant tool : Nat) (s : State) : Host.Outcome State Fault Refusal :=
  s.run (.waitRecordDecay t tenant tool) "WAIT_RECORD_DECAY" (Eng.leadDo fun e => e.decay (waitKey tenant tool))

/-- PREFIX_SKETCH_HALVE (R232). -/
def execPrefixSketchHalve (t : Nat) (s : State) : Host.Outcome State Fault Refusal :=
  s.run (.prefixSketchHalve t) "PREFIX_SKETCH_HALVE" (Eng.leadDo Eng.halveSketch)

/-- PAGE_LEG_DONE (R241, R242). -/
def execPageLegDone (t channel : Nat) (ok : Bool) (crc : Nat) (chk : MovCheck) (s : State) :
    Host.Outcome State Fault Refusal :=
  s.run (.pageLegDone t channel ok crc chk) "PAGE_LEG_DONE" (Eng.engineDo fun e => e.legDone channel ok crc chk)

/-- MOVE_END_REPORT (R228, R235). -/
def execMoveEndReport (t : Nat) (msg : Bytes) (s : State) : Host.Outcome State Fault Refusal :=
  s.run (.moveEndReport t msg) "MOVE_END_REPORT" (Eng.engineDo fun e => 
    if e.isLead then e.takeReport msg else e.upward 0x21 msg)

/-- NIC_CONNECTION_LOST (R236, 14 R394). -/
def execNicConnectionLost (t target : Nat) (s : State) : Host.Outcome State Fault Refusal :=
  s.run (.nicConnectionLost t target) "NIC_CONNECTION_LOST"
    (Eng.engineDo fun e => (e.failTarget target 1).restartMoves target)

/-- NVME_NAMESPACE_FAILED (R236). -/
def execNvmeNamespaceFailed (t target : Nat) (s : State) : Host.Outcome State Fault Refusal :=
  s.run (.nvmeNamespaceFailed t target) "NVME_NAMESPACE_FAILED"
    (Eng.engineDo fun e => (e.failTarget target 2).restartMoves target)

/-- HBM_STACK_FAILED (R237, 03 R69). -/
def execHbmStackFailed (t stack : Nat) (weightsLost : Bool) (s : State) : Host.Outcome State Fault Refusal :=
  s.run (.hbmStackFailed t stack weightsLost) "HBM_STACK_FAILED" (Eng.engineDo fun e => e.stackFailed stack weightsLost)

/-- MIG_REQ (R234). -/
def execMigReq (t : Nat) (msg : Bytes) (s : State) : Host.Outcome State Fault Refusal :=
  s.run (.migReq t msg) "MIG_REQ" (Eng.engineDo fun e => e.takeMigReq msg)

/-- MIG_DATA (R234, R235). -/
def execMigData (t : Nat) (msg : Bytes) (s : State) : Host.Outcome State Fault Refusal :=
  s.run (.migData t msg) "MIG_DATA" (Eng.engineDo fun e => e.takeMigData msg)

end Sys2Proof.Machine
end

