-- ==== Sys2Proof/Machine/SmpRows.lean ====
section
/-! DEFINITION. The commands of sampling, drafting and tools (07, 08). -/

namespace Sys2Proof.Machine

/-- LOGIT_STREAM (R389, R159, R160). -/
def execLogitStream (t : Nat) (msg : Bytes) (s : State) : Host.Outcome State Fault Refusal :=
  s.run (.logitStream t msg) "LOGIT_STREAM" (Eng.engineDo fun e => e.takeStream msg)

/-- TAIL_SWEEP (R181, R161 to R163). -/
def execTailSweep (t lane : Nat) (s : State) : Host.Outcome State Fault Refusal :=
  s.run (.tailSweep t lane) "TAIL_SWEEP" (Eng.engineDo fun e => e.endSweep lane)

/-- LOGIT_BUFFER_READ_DONE (R161, R183). -/
def execLogitBufferReadDone (t lane : Nat) (msg : Bytes) (s : State) : Host.Outcome State Fault Refusal :=
  s.run (.logitBufferReadDone t lane msg) "LOGIT_BUFFER_READ_DONE"
    (Eng.engineDo fun e => (e.legIn (.lane lane)).bufferRead lane msg)

/-- SMP_LANE_RETIRED (R183). -/
def execSmpLaneRetired (t lane cause : Nat) (s : State) : Host.Outcome State Fault Refusal :=
  s.run (.smpLaneRetired t lane cause) "SMP_LANE_RETIRED" (Eng.engineDo fun e => e.retireLane lane cause)

/-- SELECT (R167). -/
def execSelect (t : Nat) (msg : Bytes) (s : State) : Host.Outcome State Fault Refusal :=
  s.run (.select t msg) "SELECT" (Eng.engineDo fun e => e.takeSelect msg)

/-- DRAFT (08 R197). -/
def execDraft (t : Nat) (msg : Bytes) (s : State) : Host.Outcome State Fault Refusal :=
  s.run (.draft t msg) "DRAFT" (Eng.engineDo fun e => e.takeDraft msg)

/-- DRAFT_EDGE_READ_DONE (08 R206). -/
def execDraftEdgeReadDone (t tag : Nat) (s : State) : Host.Outcome State Fault Refusal :=
  s.run (.draftEdgeReadDone t tag) "DRAFT_EDGE_READ_DONE" (Eng.engineDo fun e => e.edgesRead tag)

/-- REFINE_REQUEST (R178 to R182). -/
def execRefineRequest (t : Nat) (msg : Bytes) (s : State) : Host.Outcome State Fault Refusal :=
  s.run (.refineRequest t msg) "REFINE_REQUEST" (Eng.engineDo fun e => e.takeRequest msg)

/-- REFINE_REPLY (R179, R180). -/
def execRefineReply (t : Nat) (msg note : Bytes) (s : State) : Host.Outcome State Fault Refusal :=
  s.run (.refineReply t msg note) "REFINE_REPLY" (Eng.leadDo fun e => 
    (e.legIn (.round (u32 msg 0) (u32 msg 4) (u8 msg 9))).takeReply msg note)

/-- SUMMARY_REREQUEST (R182). -/
def execSummaryRerequest (t : Nat) (tag pos : Nat) (s : State) : Host.Outcome State Fault Refusal :=
  s.run (.summaryRerequest t tag pos) "SUMMARY_REREQUEST" (Eng.engineDo fun e => e.resweep tag pos)

/-- GRAMMAR_NOTE (08 R190). -/
def execGrammarNote (t : Nat) (msg : Bytes) (s : State) : Host.Outcome State Fault Refusal :=
  s.run (.grammarNote t msg) "GRAMMAR_NOTE" (Eng.leadDo fun e => e.takeNote msg)

/-- GRAMMAR_READ_ERROR (08 R192). -/
def execGrammarReadError (t tag rank : Nat) (again : Bool) (s : State) : Host.Outcome State Fault Refusal :=
  s.run (.grammarReadError t tag rank again) "GRAMMAR_READ_ERROR" (Eng.engineDo fun e => e.grammarFault tag rank again)

/-- TOOL_ORDER (08 R201). -/
def execToolOrder (t : Nat) (msg : Bytes) (s : State) : Host.Outcome State Fault Refusal :=
  s.run (.toolOrder t msg) "TOOL_ORDER" (Eng.engineDo fun e => (e.down 0x07 msg).takeToolOrder msg)

/-- TOOL_CANCEL (R205, 08 R204, Table 8-6). -/
def execToolCancel (t : Nat) (msg : Bytes) (s : State) : Host.Outcome State Fault Refusal :=
  s.run (.toolCancel t msg) "TOOL_CANCEL" (Eng.engineDo fun e => (e.down 0x08 msg).abortTool (u48 msg 0) (u32 msg 8))

/-- TOOL_PART (08 R202). -/
def execToolPart (t : Nat) (msg : Bytes) (labels : List (List Nat)) (s : State) : Host.Outcome State Fault Refusal :=
  s.run (.toolPart t msg labels) "TOOL_PART" (Eng.leadDo fun e => e.takePart msg labels)

/-- TOOL_PART_TIMEOUT (08 R204). -/
def execToolPartTimeout (t instar tag : Nat) (labels : List (List Nat)) (s : State) : Host.Outcome State Fault Refusal :=
  s.run (.toolPartTimeout t instar tag labels) "TOOL_PART_TIMEOUT" (Eng.leadDo fun e => e.partTimeout instar tag labels)

end Sys2Proof.Machine
end

