-- ==== Sys2Proof/Machine/TelRows.lean ====
section
/-! DEFINITION. The commands of counters, events, trace, time and self-test (13). -/

namespace Sys2Proof.Machine

/-- SNAPSHOT_EPOCH (R351). -/
def execSnapshotEpoch (t : Nat) (s : State) : Host.Outcome State Fault Refusal :=
  s.run (.snapshotEpoch t) "SNAPSHOT_EPOCH" (Eng.aonDo Eng.startEpoch)

/-- EVENT_POST (R361). -/
def execEventPost (t : Nat) (s : State) : Host.Outcome State Fault Refusal :=
  s.run (.eventPost t) "EVENT_POST" (Eng.aonDo Eng.postEvent)

/-- PTP_MEASUREMENT (R350). -/
def execPtpMeasurement (t : Nat) (offset : Int) (ptpTime : Nat) (s : State) : Host.Outcome State Fault Refusal :=
  s.run (.ptpMeasurement t offset ptpTime) "PTP_MEASUREMENT" (Eng.aonDo fun e => e.measureTime offset)

/-- PTP_HOLDOVER (R350). -/
def execPtpHoldover (t : Nat) (s : State) : Host.Outcome State Fault Refusal :=
  s.run (.ptpHoldover t) "PTP_HOLDOVER" (Eng.aonDo Eng.holdTime)

/-- RING_HOLDOFF_END (R365). -/
def execRingHoldoffEnd (t ring : Nat) (s : State) : Host.Outcome State Fault Refusal :=
  s.run (.ringHoldoffEnd t ring) "RING_HOLDOFF_END" (Eng.aonDo fun e => e.signalRing ring)

/-- TRACE_SEND (R366, R401). -/
def execTraceSend (t : Nat) (s : State) : Host.Outcome State Fault Refusal :=
  s.run (.traceSend t) "TRACE_SEND" (Eng.aonDo Eng.sendTrace)

/-- TEST_START (R380, R381). -/
def execTestStart (t : Nat) (s : State) : Host.Outcome State Fault Refusal :=
  s.run (.testStart t) "TEST_START" (Eng.aonDo Eng.startTest)

/-- TEST_END (R381, R382). -/
def execTestEnd (t : Nat) (pass : Bool) (failAddr syndrome : Nat) (s : State) : Host.Outcome State Fault Refusal :=
  s.run (.testEnd t pass failAddr syndrome) "TEST_END" (Eng.aonDo fun e => e.endTest pass failAddr syndrome)

/-- LANE_TEST_ABORT (R381). -/
def execLaneTestAbort (t : Nat) (s : State) : Host.Outcome State Fault Refusal :=
  s.run (.laneTestAbort t) "LANE_TEST_ABORT" (Eng.aonDo Eng.abortLaneTest)

end Sys2Proof.Machine
end

