-- ==== Sys2Proof/Machine/TwmRows.lean ====
section
/-! DEFINITION. The commands of the twin wings and of journaling (10). -/

namespace Sys2Proof.Machine

/-- JOURNAL_BATCH (R255, R263). -/
def execJournalBatch (t : Nat) (msg : Bytes) (stored : Nat) (s : State) : Host.Outcome State Fault Refusal :=
  s.run (.journalBatch t msg stored) "JOURNAL_BATCH" (Eng.engineDo fun e => e.takeBatch msg stored)

/-- ACK (R256). -/
def execAck (t : Nat) (msg : Bytes) (s : State) : Host.Outcome State Fault Refusal :=
  s.run (.ack t msg) "ACK" (Eng.engineDo fun e => if u8 msg 0 = 0x10 then e.takeAck msg else e)

/-- NAK (R255). -/
def execNak (t : Nat) (msg : Bytes) (s : State) : Host.Outcome State Fault Refusal :=
  s.run (.nak t msg) "NAK" (Eng.engineDo fun e => if u8 msg 0 = 0x11 then e.takeNak msg else e)

/-- BATCH_ACK_TIMEOUT (R256). -/
def execBatchAckTimeout (t first : Nat) (s : State) : Host.Outcome State Fault Refusal :=
  s.run (.batchAckTimeout t first) "BATCH_ACK_TIMEOUT" (Eng.engineDo fun e => e.ackLate first)

/-- TWIN_LINK_DOWN (14 R397). -/
def execTwinLinkDown (t : Nat) (s : State) : Host.Outcome State Fault Refusal :=
  s.run (.twinLinkDown t) "TWIN_LINK_DOWN" (Eng.engineDo fun e => 
    if e.twm.handshake && decide (e.twm.lastRx + 10000000 ≤ e.now) then e.loseTwin 0 else e)

/-- HELLO (R396, R268, 14 R397). -/
def execHello (t : Nat) (msg : Bytes) (s : State) : Host.Outcome State Fault Refusal :=
  s.run (.hello t msg) "HELLO" (Eng.engineDo fun e => e.takeHello msg)

/-- HELLO_TIMER (14 R397). -/
def execHelloTimer (t : Nat) (s : State) : Host.Outcome State Fault Refusal :=
  s.run (.helloTimer t) "HELLO_TIMER" (Eng.engineDo fun e => e.send (.twin e.helloBytes))

/-- HANDOVER (R268, R275). -/
def execHandover (t : Nat) (msg : Bytes) (s : State) : Host.Outcome State Fault Refusal :=
  s.run (.handover t msg) "HANDOVER" (Eng.engineDo fun e => e.takeHandover msg)

/-- GRANT (R267). -/
def execGrant (t : Nat) (msg : Datagram) (s : State) : Host.Outcome State Fault Refusal :=
  s.run (.grant t msg) "GRANT" (Eng.engineDo fun e => e.takeGrant msg)

/-- DENY (R268, R267, R273). -/
def execDeny (t : Nat) (msg : Datagram) (s : State) : Host.Outcome State Fault Refusal :=
  s.run (.deny t msg) "DENY" (Eng.engineDo fun e => e.takeDeny msg)

/-- WITNESS_RETRY (R265, R267). -/
def execWitnessRetry (t : Nat) (s : State) : Host.Outcome State Fault Refusal :=
  s.run (.witnessRetry t) "WITNESS_RETRY" (Eng.leadDo Eng.retryWitness)

/-- LEASE_RENEW (R267). -/
def execLeaseRenew (t : Nat) (s : State) : Host.Outcome State Fault Refusal :=
  s.run (.leaseRenew t) "LEASE_RENEW" (Eng.leadDo Eng.renewLease)

/-- LEASE_END (R267). -/
def execLeaseEnd (t : Nat) (s : State) : Host.Outcome State Fault Refusal :=
  s.run (.leaseEnd t) "LEASE_END" (Eng.leadDo Eng.leaseOver)

/-- SEEKING_PAUSE (R272). -/
def execSeekingPause (t : Nat) (s : State) : Host.Outcome State Fault Refusal :=
  s.run (.seekingPause t) "SEEKING_PAUSE" (Eng.leadDo Eng.pauseSeeking)

/-- FENCED_RETRY (R268). -/
def execFencedRetry (t : Nat) (s : State) : Host.Outcome State Fault Refusal :=
  s.run (.fencedRetry t) "FENCED_RETRY" (Eng.leadDo Eng.askFenced)

/-- CONSUMER_ACK (R261). -/
def execConsumerAck (t : Nat) (msg : Bytes) (src : Nat) (s : State) : Host.Outcome State Fault Refusal :=
  s.run (.consumerAck t msg src) "CONSUMER_ACK" (Eng.leadDo fun e => 
    if msg.length = 16 then e.consumerAck (u32 msg 0) (u32 msg 4) (bit (u8 msg 8) 0) src else e)

/-- EMIT_AGAIN (R262). -/
def execEmitAgain (t tag : Nat) (s : State) : Host.Outcome State Fault Refusal :=
  s.run (.emitAgain t tag) "EMIT_AGAIN" (Eng.leadDo fun e => e.emitAgainDue tag)

/-- CONTROL_BATCH_TIMER (R263). -/
def execControlBatchTimer (t : Nat) (s : State) : Host.Outcome State Fault Refusal :=
  s.run (.controlBatchTimer t) "CONTROL_BATCH_TIMER" (Eng.leadDo Eng.sendAcks)

/-- SNAPSHOT_TIMER (R279). -/
def execSnapshotTimer (t : Nat) (s : State) : Host.Outcome State Fault Refusal :=
  s.run (.snapshotTimer t) "SNAPSHOT_TIMER" (Eng.engineDo Eng.snapTick)

/-- SNAPSHOT_WRITE_DONE (R281, R280). -/
def execSnapshotWriteDone (t rank : Nat) (rep : Option Bytes) (s : State) : Host.Outcome State Fault Refusal :=
  s.run (.snapshotWriteDone t rank rep) "SNAPSHOT_WRITE_DONE" (Eng.leadDo fun e => e.snapWritten rank rep)

/-- T3_WRITE_DONE (R256). -/
def execT3WriteDone (t first : Nat) (ok : Bool) (s : State) : Host.Outcome State Fault Refusal :=
  s.run (.t3WriteDone t first ok) "T3_WRITE_DONE" (Eng.engineDo fun e => e.t3Written first ok)

/-- SNAP_DATA (R276). -/
def execSnapData (t : Nat) (msg : Bytes) (s : State) : Host.Outcome State Fault Refusal :=
  s.run (.snapData t msg) "SNAP_DATA" (Eng.engineDo fun e => e.takeSnapData msg)

/-- T3_READ_DONE (R282). -/
def execT3ReadDone (t : Nat) (recs : Bytes) (manifestOk : Bool) (s : State) : Host.Outcome State Fault Refusal :=
  s.run (.t3ReadDone t recs manifestOk) "T3_READ_DONE" (Eng.engineDo fun e => e.t3Read recs manifestOk)

/-- TRAIL_WRITE_DONE (12 R342). -/
def execTrailWriteDone (t : Nat) (s : State) : Host.Outcome State Fault Refusal :=
  s.run (.trailWriteDone t) "TRAIL_WRITE_DONE" (Eng.engineDo fun e => if e.stopping then e else e.flushWritten)

end Sys2Proof.Machine
end

