-- ==== Sys2Proof/Machine/Dispatch.lean ====
section
/-! DEFINITION. The dispatch: one arm per command. -/

namespace Sys2Proof.Machine

def exec (i : Instr) (s : State) : Host.Outcome State Fault Refusal :=
  match i with
  | .bar2BadAccess t write off => Sys2Proof.Machine.execBar2BadAccess t write off s
  | .registerWrite t off val req => Sys2Proof.Machine.execRegisterWrite t off val req s
  | .readClear t off same => Sys2Proof.Machine.execReadClear t off same s
  | .w1cClear t off val same => Sys2Proof.Machine.execW1cClear t off val same s
  | .pairLoRead t off => Sys2Proof.Machine.execPairLoRead t off s
  | .pairLoWrite t off val req => Sys2Proof.Machine.execPairLoWrite t off val req s
  | .pairHiWrite t off val req => Sys2Proof.Machine.execPairHiWrite t off val req s
  | .peekRead t off => Sys2Proof.Machine.execPeekRead t off s
  | .stagedWrite t off val req => Sys2Proof.Machine.execStagedWrite t off val req s
  | .stretchWindowEnd t island => Sys2Proof.Machine.execStretchWindowEnd t island s
  | .legTimeout t leg => Sys2Proof.Machine.execLegTimeout t leg s
  | .dirLookup t tag requester => Sys2Proof.Machine.execDirLookup t tag requester s
  | .dirMissFill t tag r => Sys2Proof.Machine.execDirMissFill t tag r s
  | .dirCopyBRead t tag r => Sys2Proof.Machine.execDirCopyBRead t tag r s
  | .insertWindowEnd t => Sys2Proof.Machine.execInsertWindowEnd t s
  | .dirSliceFailed t slice => Sys2Proof.Machine.execDirSliceFailed t slice s
  | .blockReq t msg => Sys2Proof.Machine.execBlockReq t msg s
  | .backingCopyDone t => Sys2Proof.Machine.execBackingCopyDone t s
  | .sessionExpiry t tag => Sys2Proof.Machine.execSessionExpiry t tag s
  | .sessionRebuild t tag other => Sys2Proof.Machine.execSessionRebuild t tag other s
  | .ingOpen t rec src units => Sys2Proof.Machine.execIngOpen t rec src units s
  | .ingTurn t rec src units => Sys2Proof.Machine.execIngTurn t rec src units s
  | .ingResume t rec src units => Sys2Proof.Machine.execIngResume t rec src units s
  | .ingClose t rec src units => Sys2Proof.Machine.execIngClose t rec src units s
  | .ingPin t rec src units => Sys2Proof.Machine.execIngPin t rec src units s
  | .ingProbe t rec src units => Sys2Proof.Machine.execIngProbe t rec src units s
  | .ingAmend t rec src units => Sys2Proof.Machine.execIngAmend t rec src units s
  | .ingressUnknownType t rec src units => Sys2Proof.Machine.execIngressUnknownType t rec src units s
  | .producerWindowFill t slot => Sys2Proof.Machine.execProducerWindowFill t slot s
  | .outcomeWordRead t slot seq => Sys2Proof.Machine.execOutcomeWordRead t slot seq s
  | .tailSummary t msg => Sys2Proof.Machine.execTailSummary t msg s
  | .idleInstarEnd t => Sys2Proof.Machine.execIdleInstarEnd t s
  | .instarDescriptor t msg => Sys2Proof.Machine.execInstarDescriptor t msg s
  | .resendRequest t msg => Sys2Proof.Machine.execResendRequest t msg s
  | .instarEndReport t msg => Sys2Proof.Machine.execInstarEndReport t msg s
  | .instarWatchdog t => Sys2Proof.Machine.execInstarWatchdog t s
  | .dsqKernel t part job raw => Sys2Proof.Machine.execDsqKernel t part job raw s
  | .dsqAcquire t part job raw => Sys2Proof.Machine.execDsqAcquire t part job raw s
  | .dsqRelease t part job raw => Sys2Proof.Machine.execDsqRelease t part job raw s
  | .dsqLinkGet t part job raw => Sys2Proof.Machine.execDsqLinkGet t part job raw s
  | .dsqLinkPut t part job raw => Sys2Proof.Machine.execDsqLinkPut t part job raw s
  | .dsqLayer t part job raw => Sys2Proof.Machine.execDsqLayer t part job raw s
  | .dsqEnd t part job raw => Sys2Proof.Machine.execDsqEnd t part job raw s
  | .kernelComplete t part job => Sys2Proof.Machine.execKernelComplete t part job s
  | .haltAck t part job => Sys2Proof.Machine.execHaltAck t part job s
  | .groupSaveDone t group ok => Sys2Proof.Machine.execGroupSaveDone t group ok s
  | .groupRestoreDone t group ok => Sys2Proof.Machine.execGroupRestoreDone t group ok s
  | .contextLoadDone t group ok => Sys2Proof.Machine.execContextLoadDone t group ok s
  | .coreMachineCheck t group core => Sys2Proof.Machine.execCoreMachineCheck t group core s
  | .kernelWatchdog t part job => Sys2Proof.Machine.execKernelWatchdog t part job s
  | .clusterHbmError t part => Sys2Proof.Machine.execClusterHbmError t part s
  | .partitionReady t part => Sys2Proof.Machine.execPartitionReady t part s
  | .voidNotice t msg => Sys2Proof.Machine.execVoidNotice t msg s
  | .abortMsg t msg => Sys2Proof.Machine.execAbortMsg t msg s
  | .tensorDumpDone t bytes => Sys2Proof.Machine.execTensorDumpDone t bytes s
  | .dsqStepGo t req val => Sys2Proof.Machine.execDsqStepGo t req val s
  | .logitStream t msg => Sys2Proof.Machine.execLogitStream t msg s
  | .tailSweep t lane => Sys2Proof.Machine.execTailSweep t lane s
  | .logitBufferReadDone t lane msg => Sys2Proof.Machine.execLogitBufferReadDone t lane msg s
  | .smpLaneRetired t lane cause => Sys2Proof.Machine.execSmpLaneRetired t lane cause s
  | .select t msg => Sys2Proof.Machine.execSelect t msg s
  | .draft t msg => Sys2Proof.Machine.execDraft t msg s
  | .draftEdgeReadDone t tag => Sys2Proof.Machine.execDraftEdgeReadDone t tag s
  | .refineRequest t msg => Sys2Proof.Machine.execRefineRequest t msg s
  | .refineReply t msg note => Sys2Proof.Machine.execRefineReply t msg note s
  | .summaryRerequest t tag pos => Sys2Proof.Machine.execSummaryRerequest t tag pos s
  | .grammarNote t msg => Sys2Proof.Machine.execGrammarNote t msg s
  | .grammarReadError t tag rank again => Sys2Proof.Machine.execGrammarReadError t tag rank again s
  | .toolOrder t msg => Sys2Proof.Machine.execToolOrder t msg s
  | .toolCancel t msg => Sys2Proof.Machine.execToolCancel t msg s
  | .toolPart t msg labels => Sys2Proof.Machine.execToolPart t msg labels s
  | .toolPartTimeout t instar tag labels => Sys2Proof.Machine.execToolPartTimeout t instar tag labels s
  | .pupate t msg => Sys2Proof.Machine.execPupate t msg s
  | .eclose t msg => Sys2Proof.Machine.execEclose t msg s
  | .demote t msg => Sys2Proof.Machine.execDemote t msg s
  | .spill t msg => Sys2Proof.Machine.execSpill t msg s
  | .refill t msg => Sys2Proof.Machine.execRefill t msg s
  | .free t msg => Sys2Proof.Machine.execFree t msg s
  | .cancel t msg => Sys2Proof.Machine.execCancel t msg s
  | .reserve t msg => Sys2Proof.Machine.execReserve t msg s
  | .prefixCopy t msg => Sys2Proof.Machine.execPrefixCopy t msg s
  | .migrate t msg => Sys2Proof.Machine.execMigrate t msg s
  | .orderTimeDue t tag => Sys2Proof.Machine.execOrderTimeDue t tag s
  | .calendarLoad t => Sys2Proof.Machine.execCalendarLoad t s
  | .ttlExpiry t tag => Sys2Proof.Machine.execTtlExpiry t tag s
  | .pinExpiry t tag => Sys2Proof.Machine.execPinExpiry t tag s
  | .waitRecordFill t tenant tool => Sys2Proof.Machine.execWaitRecordFill t tenant tool s
  | .waitRecordDecay t tenant tool => Sys2Proof.Machine.execWaitRecordDecay t tenant tool s
  | .prefixSketchHalve t => Sys2Proof.Machine.execPrefixSketchHalve t s
  | .pageLegDone t channel ok crc chk => Sys2Proof.Machine.execPageLegDone t channel ok crc chk s
  | .moveEndReport t msg => Sys2Proof.Machine.execMoveEndReport t msg s
  | .nicConnectionLost t target => Sys2Proof.Machine.execNicConnectionLost t target s
  | .nvmeNamespaceFailed t target => Sys2Proof.Machine.execNvmeNamespaceFailed t target s
  | .hbmStackFailed t stack weightsLost => Sys2Proof.Machine.execHbmStackFailed t stack weightsLost s
  | .migReq t msg => Sys2Proof.Machine.execMigReq t msg s
  | .migData t msg => Sys2Proof.Machine.execMigData t msg s
  | .journalBatch t msg stored => Sys2Proof.Machine.execJournalBatch t msg stored s
  | .ack t msg => Sys2Proof.Machine.execAck t msg s
  | .nak t msg => Sys2Proof.Machine.execNak t msg s
  | .batchAckTimeout t first => Sys2Proof.Machine.execBatchAckTimeout t first s
  | .twinLinkDown t => Sys2Proof.Machine.execTwinLinkDown t s
  | .hello t msg => Sys2Proof.Machine.execHello t msg s
  | .helloTimer t => Sys2Proof.Machine.execHelloTimer t s
  | .handover t msg => Sys2Proof.Machine.execHandover t msg s
  | .grant t msg => Sys2Proof.Machine.execGrant t msg s
  | .deny t msg => Sys2Proof.Machine.execDeny t msg s
  | .witnessRetry t => Sys2Proof.Machine.execWitnessRetry t s
  | .leaseRenew t => Sys2Proof.Machine.execLeaseRenew t s
  | .leaseEnd t => Sys2Proof.Machine.execLeaseEnd t s
  | .seekingPause t => Sys2Proof.Machine.execSeekingPause t s
  | .fencedRetry t => Sys2Proof.Machine.execFencedRetry t s
  | .consumerAck t msg src => Sys2Proof.Machine.execConsumerAck t msg src s
  | .emitAgain t tag => Sys2Proof.Machine.execEmitAgain t tag s
  | .controlBatchTimer t => Sys2Proof.Machine.execControlBatchTimer t s
  | .snapshotTimer t => Sys2Proof.Machine.execSnapshotTimer t s
  | .snapStart t val => Sys2Proof.Machine.execSnapStart t val s
  | .snapshotWriteDone t rank rep => Sys2Proof.Machine.execSnapshotWriteDone t rank rep s
  | .t3WriteDone t first ok => Sys2Proof.Machine.execT3WriteDone t first ok s
  | .snapData t msg => Sys2Proof.Machine.execSnapData t msg s
  | .fastLoop t vcoreMa vsramMa mv stretch tHot sensor kMean pulses toolPulses => Sys2Proof.Machine.execFastLoop t vcoreMa vsramMa mv stretch tHot sensor kMean pulses toolPulses s
  | .pmbusPoll t => Sys2Proof.Machine.execPmbusPoll t s
  | .pmbusDone t rail pout status phases failed => Sys2Proof.Machine.execPmbusDone t rail pout status phases failed s
  | .vdone t rail mv => Sys2Proof.Machine.execVdone t rail mv s
  | .clockAck t => Sys2Proof.Machine.execClockAck t s
  | .slewTimeout t rail mv => Sys2Proof.Machine.execSlewTimeout t rail mv s
  | .excitationTest t => Sys2Proof.Machine.execExcitationTest t s
  | .quietRequest t => Sys2Proof.Machine.execQuietRequest t s
  | .deficitMs t => Sys2Proof.Machine.execDeficitMs t s
  | .surplus t => Sys2Proof.Machine.execSurplus t s
  | .unattainableCheck t meanW => Sys2Proof.Machine.execUnattainableCheck t meanW s
  | .unattainableExit t meanW => Sys2Proof.Machine.execUnattainableExit t meanW s
  | .shedOnCap t misses => Sys2Proof.Machine.execShedOnCap t misses s
  | .regAlert t rail addr status phase => Sys2Proof.Machine.execRegAlert t rail addr status phase s
  | .regAlertClear t => Sys2Proof.Machine.execRegAlertClear t s
  | .regAlertTimeout t => Sys2Proof.Machine.execRegAlertTimeout t s
  | .alertHoldEnd t => Sys2Proof.Machine.execAlertHoldEnd t s
  | .coolFlowLost t => Sys2Proof.Machine.execCoolFlowLost t s
  | .coolFlowEscalate t => Sys2Proof.Machine.execCoolFlowEscalate t s
  | .coolFlowRestored t => Sys2Proof.Machine.execCoolFlowRestored t s
  | .thermalCrit t temp sensor => Sys2Proof.Machine.execThermalCrit t temp sensor s
  | .thermalCritTimeout t temp => Sys2Proof.Machine.execThermalCritTimeout t temp s
  | .vaonGood t fuses => Sys2Proof.Machine.execVaonGood t fuses s
  | .railPowerGood t rail => Sys2Proof.Machine.execRailPowerGood t rail s
  | .flashStatusWriteDone t ok => Sys2Proof.Machine.execFlashStatusWriteDone t ok s
  | .hbmReady t lanes units => Sys2Proof.Machine.execHbmReady t lanes units s
  | .engResetInput t => Sys2Proof.Machine.execEngResetInput t s
  | .resetEngine t req => Sys2Proof.Machine.execResetEngine t req s
  | .resetFlutter t req => Sys2Proof.Machine.execResetFlutter t req s
  | .flutterReset t msg => Sys2Proof.Machine.execFlutterReset t msg s
  | .aonWatchdog t island => Sys2Proof.Machine.execAonWatchdog t island s
  | .flashErase t req addr => Sys2Proof.Machine.execFlashErase t req addr s
  | .flashProgram t req addr => Sys2Proof.Machine.execFlashProgram t req addr s
  | .flashRead t req addr => Sys2Proof.Machine.execFlashRead t req addr s
  | .flashValidate t req addr => Sys2Proof.Machine.execFlashValidate t req addr s
  | .flashOpDone t result => Sys2Proof.Machine.execFlashOpDone t result s
  | .pfWarn t => Sys2Proof.Machine.execPfWarn t s
  | .pfWarnClear t => Sys2Proof.Machine.execPfWarnClear t s
  | .holdupInstarTimeout t => Sys2Proof.Machine.execHoldupInstarTimeout t s
  | .flushWriteDone t => Sys2Proof.Machine.execFlushWriteDone t s
  | .rideTimeout t => Sys2Proof.Machine.execRideTimeout t s
  | .dwellEnd t => Sys2Proof.Machine.execDwellEnd t s
  | .railPowerFail t rail => Sys2Proof.Machine.execRailPowerFail t rail s
  | .pdRailTimeout t => Sys2Proof.Machine.execPdRailTimeout t s
  | .snapshotEpoch t => Sys2Proof.Machine.execSnapshotEpoch t s
  | .eventPost t => Sys2Proof.Machine.execEventPost t s
  | .ptpMeasurement t offset ptpTime => Sys2Proof.Machine.execPtpMeasurement t offset ptpTime s
  | .ptpHoldover t => Sys2Proof.Machine.execPtpHoldover t s
  | .counterSelect t off val => Sys2Proof.Machine.execCounterSelect t off val s
  | .ringConsWrite t ring val => Sys2Proof.Machine.execRingConsWrite t ring val s
  | .ringFlush t ring val => Sys2Proof.Machine.execRingFlush t ring val s
  | .ringHoldoffEnd t ring => Sys2Proof.Machine.execRingHoldoffEnd t ring s
  | .traceSend t => Sys2Proof.Machine.execTraceSend t s
  | .mark t val => Sys2Proof.Machine.execMark t val s
  | .lockAcquire t req => Sys2Proof.Machine.execLockAcquire t req s
  | .lockRenew t req => Sys2Proof.Machine.execLockRenew t req s
  | .lockRelease t req => Sys2Proof.Machine.execLockRelease t req s
  | .lockReleaseCommit t req => Sys2Proof.Machine.execLockReleaseCommit t req s
  | .lockLeaseEnd t => Sys2Proof.Machine.execLockLeaseEnd t s
  | .servicePortReset t cause => Sys2Proof.Machine.execServicePortReset t cause s
  | .peekArg t val => Sys2Proof.Machine.execPeekArg t val s
  | .peekCopyDone t => Sys2Proof.Machine.execPeekCopyDone t s
  | .dbgCtrlWrite t val req => Sys2Proof.Machine.execDbgCtrlWrite t val req s
  | .instarGo t val req => Sys2Proof.Machine.execInstarGo t val req s
  | .testRequest t val req => Sys2Proof.Machine.execTestRequest t val req s
  | .testCancel t req => Sys2Proof.Machine.execTestCancel t req s
  | .testStart t => Sys2Proof.Machine.execTestStart t s
  | .testEnd t pass failAddr syndrome => Sys2Proof.Machine.execTestEnd t pass failAddr syndrome s
  | .laneTestAbort t => Sys2Proof.Machine.execLaneTestAbort t s
  | .fabricFrameBad t msg => Sys2Proof.Machine.execFabricFrameBad t msg s
  | .linkCreditReturn t part n => Sys2Proof.Machine.execLinkCreditReturn t part n s
  | .coolFlowOkHigh t => Sys2Proof.Machine.execCoolFlowOkHigh t s
  | .islandDroop t island on => Sys2Proof.Machine.execIslandDroop t island on s
  | .prefixMatchDone t tag => Sys2Proof.Machine.execPrefixMatchDone t tag s
  | .t3ReadDone t recs manifestOk => Sys2Proof.Machine.execT3ReadDone t recs manifestOk s
  | .trailWriteDone t => Sys2Proof.Machine.execTrailWriteDone t s

end Sys2Proof.Machine
end

