-- ==== Sys2Proof/Safety.lean ====
section
/-! DEFINITION. The terms that the statements use: a run that is well, and the state that a command's own effect leads to. -/

namespace Sys2Proof

open Machine

/-- The outcome is a next state. -/
def Completes (o : Host.Outcome State Fault Refusal) : Prop := ∃ t, o = .next t

/-- Every command that waits is well formed, and the timestamp is in range (00 R6, 13 R349). -/
def Machine.State.Ok (s : State) : Prop := s.eng.now < 2 ^ 64 ∧ ∀ c ∈ s.pending, c.wf = true

/-- The engine with the timestamp of a command at `t`, which never goes back, and with nothing that left it before. -/
def Machine.State.stamp (s : State) (t : Nat) : Eng := { s.eng with now := max s.eng.now t, out := [] }

/-- The engine as the effect of a command at `t` meets it: the running draft is brought up to the present (05 R114). -/
def Machine.State.found (s : State) (t : Nat) : Eng := (s.stamp t).catchUp

/-- The block once a command at `t` has made `d` of its engine: the timestamp is the command's, what left the engine stands
before what left it earlier, and the queue is as it was. -/
def Machine.State.left (s : State) (t : Nat) (d : Eng) : State :=
  { s with eng := { d with now := max s.eng.now t, out := d.out ++ s.eng.out } }

/-- The block once a command's own effect at `t` has made `d` of the engine and what follows every command has run. -/
def Machine.State.done (s : State) (t : Nat) (d : Eng) : State := s.left t (Eng.after (s.stamp t) d)

/-- An engine that is not the Lead and at which nothing follows a command: no eclosion is due, no trail, no hold-up, and
admission is as it was told last, and no external leg that is awaited begins or ends. -/
def Machine.Eng.Quiet (e : Eng) : Prop :=
  e.isLead = false ∧ e.pln.due = [] ∧ e.param 0x0C07 = 0 ∧ e.iml.hold ≠ 1 ∧ e.iml.hold ≠ 2 ∧ e.stopReason = e.ing.reason ∧
    e.noteLegs = e

end Sys2Proof
end

