-- ==== Sys2Proof/Certificates/Slice0/Obligations.lean ====
section
/-! DEFINITION. The statements about the block. A statement says where a command completes (`exec c s = .next t`) and with what
effect: `s.found t` is the engine that a command at `t` meets, `s.done t d` the block once its own effect has made `d` and what
follows every command has run, `s.left t d` the block where nothing follows (Sys2Proof/Safety.lean). -/

open Sys2Proof Sys2Proof.Machine

/-! ## The queue, the time and what every command keeps -/

/-- A step takes the command at the front of the queue and runs it on the block with the queue's rest. -/
def Obligations.StepRunsFrontCommand : Prop :=
  ∀ (c : Instr) (q : List Instr) (s : State), s.pending = c :: q → step s = exec c { s with pending := q }

/-- A command completes exactly when it is well formed: its timestamp is in range and the unit it names exists. Any other is
refused by name. -/
def Obligations.CompletesExactlyWhenWellFormed : Prop :=
  ∀ (c : Instr) (s : State), (Completes (exec c s) ↔ c.wf = true) ∧
    (c.wf = false → ∃ name, exec c s = .refused (.illFormed name))

/-- Every command that completes leaves the queue as it was, makes the timestamp its own unless that is earlier, and adds to
what has left the engine; neither the queue nor what has left the engine has any influence on what it does. -/
def Obligations.QueueAndOutputsAreNotRead : Prop :=
  ∀ (c : Instr) (s t : State), exec c s = .next t → t.pending = s.pending ∧ t.eng.now = max s.eng.now c.time ∧
    ∃ new, t.eng.out = new ++ s.eng.out ∧ ∀ (q : List Instr) (o : List Out),
      exec c { eng := { s.eng with out := o }, pending := q } =
        .next { eng := { t.eng with out := new ++ o }, pending := q }

/-- At reset the timestamp is in range and no command waits. -/
def Obligations.ResetIsOk : Prop := State.reset.Ok ∧ State.reset.pending = []

/-- After reset every register holds the reset value of its field map (R14), the lock is free, and no event, trace record or
marker is held (R364, R368 to R370); the flash's pins are released and no trace record is on the port (R400). -/
def Obligations.ResetHoldsResetValues : Prop :=
  (∀ off, State.reset.eng.reg off = regReset off) ∧ State.reset.eng.iml.phase = 0 ∧ State.reset.eng.now = 0 ∧
    State.reset.eng.dbg.lock.held = false ∧ State.reset.eng.dbg.lock.staged = [] ∧ State.reset.eng.tel.queue = [] ∧
    State.reset.eng.tel.fifo = [] ∧ State.reset.eng.tel.marks = [] ∧ State.reset.eng.dir.failed = 0 ∧
    State.reset.eng.iml.pins = { csN := true, clk := false, io := none } ∧ State.reset.eng.tel.valid = false

/-- Every step keeps the timestamp in range and every waiting command well formed. -/
def Obligations.StepKeepsStateOk : Prop := ∀ s t : State, s.Ok → step s = .next t → t.Ok

/-- A block whose waiting commands are well formed takes them in order, first in first out: `k` steps always complete, leave
the queue without its first `k` commands, never turn the time back and only add to what has left the engine. With no command
left the block idles, which is the model's choice (log entry 1). -/
def Obligations.RunTakesTheQueueInOrder : Prop :=
  ∀ (s : State) (k : Nat), s.Ok → ∃ t : State, Host.Core.run core k s = .next t ∧ t.pending = s.pending.drop k ∧
    s.eng.now ≤ t.eng.now ∧ t.Ok ∧ ∃ new, t.eng.out = new ++ s.eng.out

/-! ## What follows a command -/

/-- Nothing follows a command at an engine that has not started, or at a quiet engine that is not the Lead, unless the
command changed the power state. -/
def Obligations.NothingFollowsAtQuietEngine : Prop :=
  ∀ (old e : Eng), (e.up = false ∨ e.Quiet) → e.pgv.seq.target = old.pgv.seq.target → e.pgv.kLim = old.pgv.kLim →
    e.pgv.reasons = old.pgv.reasons → Eng.after old e = e

/-! ## Host accesses -/

/-- R9: an access that is not a naturally aligned 32-bit one has no effect, and such a read returns 0. -/
def Obligations.BadAccessHasNoEffect : Prop :=
  ∀ (s : State) (t off : Nat), t < 2 ^ 64 →
    exec (.bar2BadAccess t true off) s = .next { s with eng := { s.eng with now := max s.eng.now t } } ∧
    exec (.bar2BadAccess t false off) s =
      .next { s with eng := { s.eng with now := max s.eng.now t, readData := 0 } }

/-- R12: a peek read returns the live value of the aliased register, that of the cycle of the read, and changes nothing else; an ordinary read of a register
that is no hi half returns the same value, an ordinary read of a hi half returns its shadow; a write to the aperture has no
effect of its own. -/
def Obligations.PeekReadsHaveNoSideEffect : Prop :=
  ∀ (s : State) (t off req : Nat) (val same : Word), t < 2 ^ 64 → off < 0x400000 →
    let e := s.found t
    exec (.peekRead t (0x800000 + off)) s =
      .next { s with eng := { s.eng with now := max s.eng.now t, readData := e.view off } } ∧
    (pairLo off = none ∨ pairLo off = some off →
      ∃ u, exec (.readClear t off same) s = .next u ∧ u.eng.readData = e.view off) ∧
    (∀ lo, pairLo off = some lo → lo ≠ off → e.serves off = true →
      ∃ u, exec (.readClear t off same) s = .next u ∧ u.eng.readData = Tab.getD s.eng.shadow lo 0) ∧
    exec (.registerWrite t (0x800000 + off) val req) s = .next (s.done t (s.found t))

/-- R13: a read of a lo register latches the hi half, and the next read of the hi register returns it, whatever the time
between them. -/
def Obligations.HiReadReturnsLatchedHalf : Prop :=
  ∀ (s : State) (q : List Instr) (t t' off : Nat) (same : Word), t < 2 ^ 64 → t' < 2 ^ 64 →
    s.pending = .pairLoRead t off :: .readClear t' (off + 4) same :: q → pairLo off = some off →
    pairLo (off + 4) = some off → off < 0x800000 → s.eng.serves (off + 4) = true →
    ∃ u : State, Host.Core.run core 2 s = .next u ∧ u.pending = q ∧ u.eng.readData = (s.found t).view (off + 4)

/-- R11, code RC: a read returns the value and clears exactly the RC fields, but for what arrives in that cycle; a register
with no RC field keeps its value; nothing else changes. -/
def Obligations.ReadsClearOnlyTheirFields : Prop :=
  ∀ (s : State) (t off : Nat) (same : Word) (r : RegRow), t < 2 ^ 64 → (s.found t).hostReg off = some r →
    pairLo off = none →
    let e := { s.found t with readData := (s.found t).view off }
    let m := accMask r .rc
    (m = 0 → exec (.readClear t off same) s = .next (s.left t e)) ∧
    (m ≠ 0 → exec (.readClear t off same) s =
      .next (s.left t (e.setReg off ((e.reg off &&& ~~~m) ||| (same &&& m)))))

/-- R10, R398: where there is no register, or its island is in reset, a read returns 0 and a write has no effect of its
own. -/
def Obligations.AbsentRegistersReadZero : Prop :=
  ∀ (s : State) (t off req : Nat) (val same : Word), t < 2 ^ 64 → off % 4 = 0 → off < 0x400000 →
    (regAt off = none ∨ (s.found t).serves off = false →
      ∃ u, exec (.readClear t off same) s = .next u ∧ u.eng.readData = 0 ∧ u.eng.regs = (s.found t).regs) ∧
    (regAt off = none ∨ (s.found t).serves off = false →
      exec (.registerWrite t off val req) s = .next (s.done t (s.found t)))

/-- The register file holds what was written to it last, and nothing else changes; its form stays canonical. -/
def Obligations.RegisterFileReadsBack : Prop :=
  ∀ (e : Eng) (off : Nat) (v : Word), Tab.wf e.regs = true →
    (e.setReg off v).reg off = v ∧ (∀ o, o ≠ off → (e.setReg off v).reg o = e.reg o) ∧
    Tab.wf (e.setReg off v).regs = true ∧ { e.setReg off v with regs := e.regs } = e ∧
    ((∀ o w, Tab.get? e.regs o = some w → w ≠ regReset o) →
      ∀ o w, Tab.get? (e.setReg off v).regs o = some w → w ≠ regReset o)

/-! ## The locked sequence -/

/-- R370: with no lock held, ACQUIRE grants it to the requester for LEASE_AON cycles of 10 ns, with an empty staging list,
and DBG_LOCK is presented; nothing else changes. RENEW from the holder restarts the lease and changes nothing else. -/
def Obligations.LockIsGrantedAndRenewed : Prop :=
  ∀ (s : State) (t req : Nat), t < 2 ^ 64 → req < 65536 →
    let e := s.found t
    let lease := e.now + 10 * e.param 0x0E00
    (e.dbg.lock.held = false → e.tel.queue.length < 64 →
      exec (.lockAcquire t req) s = .next (s.done t { e with
        dbg := { e.dbg with lock := { held := true, holder := req, leaseEnd := lease, staged := [], overflow := false,
                                      lastBreak := e.dbg.lock.lastBreak } }
        tel := { e.tel with queue := e.tel.queue ++ [e.notice 0xE0 1 0 (evData [(16, 1, 0), (18, 2, req), (20, 4, 0)])] } })) ∧
    (e.dbg.lock.held = true → e.dbg.lock.holder = req →
      exec (.lockRenew t req) s = .next (s.done t { e with
        dbg := { e.dbg with lock := { e.dbg.lock with leaseEnd := lease } } }))

/-- R370, R11: while another requester holds the lock, ACQUIRE, RENEW and RELEASE writes are ignored, and writes of RWL
registers are discarded. -/
def Obligations.OtherRequestersAreIgnored : Prop :=
  ∀ (s : State) (t req : Nat) (val : Word), t < 2 ^ 64 →
    let e := s.found t
    let same (c : Instr) : Prop := exec c s = .next (s.done t e)
    e.dbg.lock.held = true → e.dbg.lock.holder ≠ req →
      same (.lockAcquire t req) ∧ same (.lockRenew t req) ∧ same (.lockRelease t req) ∧
      same (.lockReleaseCommit t req) ∧ same (.dbgCtrlWrite t val req) ∧ same (.instarGo t val req) ∧
      same (.dsqStepGo t req val) ∧ same (.testRequest t val req) ∧ same (.testCancel t req) ∧
      same (.resetEngine t req) ∧ same (.resetFlutter t req)

/-- R371, R372: the holder's write of a staged register enters the staging list, which holds 256, and the register keeps its
value; one beyond the 256th is discarded and sets OVERFLOW. Nothing else changes. -/
def Obligations.StagedWritesWait : Prop :=
  ∀ (s : State) (t off req : Nat) (val : Word) (r : RegRow), t < 2 ^ 64 →
    let e := s.found t
    let l := e.dbg.lock
    e.hostReg off = some r → r.fields ≠ [] → (∀ f ∈ r.fields, f.acc = .rwl) → accMask r .rwl ≠ 0 →
    immediate off = false → e.holds req = true →
    (l.staged.length < 256 → exec (.stagedWrite t off val req) s = .next (s.done t { e with
      dbg := { e.dbg with lock := { l with staged := l.staged ++ [{ off := off, val := val }] } } })) ∧
    (256 ≤ l.staged.length → exec (.stagedWrite t off val req) s = .next (s.done t { e with
      dbg := { e.dbg with lock := { l with overflow := true } } }))

/-- R372: RELEASE with COMMIT applies the list unless it overflowed, RELEASE without it applies nothing; either way the lock
is free afterwards, the list is gone, and DBG_LOCK is presented. -/
def Obligations.ReleaseCommitsTheList : Prop :=
  ∀ (s : State) (t req : Nat), t < 2 ^ 64 →
    let e := s.found t
    let l := e.dbg.lock
    let freed (f : Eng) (code : Nat) : State := s.done t { f with
      dbg := { f.dbg with lock := { lastBreak := l.lastBreak }, haltPending := false }
      tel := { f.tel with queue := f.tel.queue ++
        [f.notice 0xE0 1 0 (evData [(16, 1, code), (18, 2, l.holder), (20, 4, l.staged.length)])] } }
    e.holds req = true → e.tel.queue.length < 64 →
    exec (.lockRelease t req) s = .next (freed e 2) ∧
    (l.overflow = true → exec (.lockReleaseCommit t req) s = .next (freed e 2)) ∧
    (l.overflow = false → exec (.lockReleaseCommit t req) s = .next (freed (l.staged.foldl Eng.commitWrite e) 1)) ∧
    (∀ o v r, l.overflow = false → l.staged = [{ off := o, val := v }] → regAt o = some r → r.half = .one →
      exec (.lockReleaseCommit t req) s =
        .next (freed (e.setReg o ((e.reg o &&& ~~~accMask r .rwl) ||| (v &&& accMask r .rwl))) 1))

/-- R373: the end of the lease, a function-level reset, and a hot reset or link down free the lock, discard the list and
record their code; registers keep their values. -/
def Obligations.BrokenLeaseDiscardsTheList : Prop :=
  ∀ (s : State) (t : Nat), t < 2 ^ 64 →
    let e := s.found t
    let l := e.dbg.lock
    let freed (brk code : Nat) : State := s.done t { e with
      dbg := { e.dbg with lock := { lastBreak := brk }, haltPending := false }
      tel := { e.tel with queue := e.tel.queue ++
        [e.notice 0xE0 1 0 (evData [(16, 1, code), (18, 2, l.holder), (20, 4, l.staged.length)])] } }
    l.held = true → e.tel.queue.length < 64 →
    (l.leaseEnd ≤ e.now → exec (.lockLeaseEnd t) s = .next (freed 1 3)) ∧
    exec (.servicePortReset t 2) s = .next (freed 2 4) ∧ exec (.servicePortReset t 3) s = .next (freed 3 4)

/-! ## Islands, the directory and ingress -/

/-- R44, R45: at the end of a window of 65,536 cycles, the stretch is the excess over 65,536 nominal periods in units of
1/4,096, truncated and clamped; the totals grow by the window, the highest value is kept until a read clears it, and the next
window starts. Only registers, TEL and the island's own window change. -/
def Obligations.StretchWindowIsMeasured : Prop :=
  ∀ (s : State) (t n : Nat), t < 2 ^ 64 → n < 18 → (s.stamp t).islandRuns n = true → Tab.wf s.eng.regs = true →
    let e := s.stamp t
    let nominal := 65536 * islandPs n
    let excess := (e.now - (Tab.getD e.isl n {}).tsStart) * 1000 - nominal
    let sw := min (excess * 4096 / nominal) 65535
    let win := Reg.ISL_STRETCH_WIN n
    ∃ d, exec (.stretchWindowEnd t n) s = .next (s.left t d) ∧ d.fld win 15 0 = sw ∧
      d.fld win 31 16 = max (e.fld win 31 16) sw ∧
      d.reg64 (Reg.ISL_STRETCH_PS_LO n) = (e.reg64 (Reg.ISL_STRETCH_PS_LO n) + excess) % 2 ^ 64 ∧
      d.reg64 (Reg.ISL_CYCLES_LO n) = (e.reg64 (Reg.ISL_CYCLES_LO n) + 65536) % 2 ^ 64 ∧
      (Tab.getD d.isl n {}).tsStart = e.now ∧ { d with regs := e.regs, tel := e.tel, isl := e.isl } = e ∧
      ∀ t', t' < 2 ^ 64 → ∃ u, exec (.readClear t' win 0) (s.left t d) = .next u ∧ u.eng.fld win 31 16 = 0 ∧
        bitsOf u.eng.readData.toNat 31 16 = max (e.fld win 31 16) sw

/-- R61, R63, R72: while a slice works, slice_of sends every session to one that has neither failed nor gone offline. -/
def Obligations.SessionsGoToWorkingSlices : Prop :=
  ∀ (e : Eng) (tag : Nat) (r : EpochRec), Tab.get? e.dir.slots (tagGen tag % 4) = some r → 0 < r.mask → r.mask < 16 →
    e.failedOrOffline < 15 → e.sliceOf tag < 4 ∧ bit e.failedOrOffline (e.sliceOf tag) = false

/-- R72, R27: a failing slice is recorded as failed and loses what it cached; no entry of the backing changes; the second
failure makes the engine declare itself failed, and the next instar-end report says that a unit is retired (R127). A slice
that has failed already changes nothing. -/
def Obligations.SliceFailureIsRecorded : Prop :=
  ∀ (s : State) (t sl : Nat), t < 2 ^ 64 → sl < 4 → s.eng.up = true → s.eng.isLead = true →
    let e := s.found t
    (bit e.dir.failed sl = true → exec (.dirSliceFailed t sl) s = .next (s.done t e)) ∧
    (bit e.dir.failed sl = false → ∃ d, exec (.dirSliceFailed t sl) s = .next (s.done t d) ∧
      d.dir.failed = e.dir.failed ||| 2 ^ sl ∧ bit d.dir.offline sl = false ∧ (∀ l ∈ d.dir.cache, l.slice ≠ sl) ∧
      d.dir.entries = e.dir.entries ∧ (d.failed = true ↔ e.failed = true ∨ e.dir.failed ≠ 0) ∧ d.dsq.retired = true ∧
      { d with dir := e.dir, regs := e.regs, tel := e.tel, failed := e.failed,
               dsq := { d.dsq with retired := e.dsq.retired } } = e)

/-- R79: a sequence of 0 or more than 4,095 below the highest is stale and changes nothing; one that was not seen is new, and
is a pending duplicate the next time; the highest sequence never falls. -/
def Obligations.WindowTakesEachSequenceOnce : Prop :=
  ∀ (p : Win) (s : Nat),
    let v := windowCheck p s
    (v.1 = .stale ↔ s = 0 ∨ s + 4096 ≤ p.high) ∧ (v.1 = .stale → v.2 = p) ∧ p.high ≤ v.2.high ∧
    (p.high < s → (∀ q ∈ p.seen, q ≤ p.high) → v.1 = .new) ∧ (v.1 ≠ .stale → s ≤ v.2.high) ∧
    (v.1 = .new → (windowCheck v.2 s).1 = .pending) ∧
    (v.1 = .new → (windowCheck { v.2 with pending := v.2.pending.filter (· ≠ s) } s).1 = .done)

/-- R76, R82: the Lead answers a record of an unknown type with a REJECT of code MALFORMED at offset 0, and one of another
version at offset 1. Only counts, events and trace change besides. -/
def Obligations.UnknownTypesAreRejected : Prop :=
  ∀ (s : State) (t src units : Nat) (r : Bytes), t < 2 ^ 64 → s.eng.up = true →
    let e := s.found t
    let rejects (c : Instr) (off : Nat) : Prop := ∃ d, exec c s = .next (s.done t d) ∧
      d.out = .emission src (answerBytes 2 0x01 0 r (u32 r 16) off []) :: e.out ∧
      { d with regs := e.regs, tel := e.tel, out := e.out } = e
    e.isLead = true → e.up = true →
    (recType r = 0 ∨ 7 < recType r → rejects (.ingressUnknownType t r src units) 0) ∧
    (1 ≤ recType r → recType r ≤ 6 → u8 r 1 ≠ 1 →
      rejects (.ingOpen t r src units) 1 ∧ rejects (.ingTurn t r src units) 1 ∧ rejects (.ingResume t r src units) 1 ∧
      rejects (.ingClose t r src units) 1 ∧ rejects (.ingPin t r src units) 1 ∧ rejects (.ingProbe t r src units) 1)

/-! ## Records on the wire -/

/-- R82, R260: every emission record fills one unit of 32 bytes, but STATUS two. -/
def Obligations.EmissionsFillWholeUnits : Prop :=
  (∀ code flags (r : Bytes) tag value body, (answerBytes 1 code flags r tag value body).length = 32 ∧
    (answerBytes 2 code flags r tag value body).length = 32 ∧ (answerBytes 6 code flags r tag value body).length = 64) ∧
  (∀ tag pos id flags instar turn, (tokenBytes tag pos id flags instar turn).length = 32) ∧
  (∀ loc tool tag pos instar turn, (yieldBytes loc tool tag pos instar turn).length = 32) ∧
  (∀ reason tag pos sampled instar turn, (endBytes reason tag pos sampled instar turn).length = 32)

/-- R60, R396: a record closed with its CRC-32C passes the receiver's check, and a wing accepts the HELLO another sends. -/
def Obligations.CheckedRecordsPass : Prop :=
  (∀ b : Bytes, (withCrc b).length = b.length + 4 ∧ crcOk (withCrc b) (b.length + 4) = true) ∧
  (∀ e : Eng, e.helloBytes.length = 64 ∧ twinMsgOk e.helloBytes 0x20 = true)

/-! ## Composing and sampling -/

/-- R105, R106: composition keys are totally ordered, so the draft examines sessions in one order only. -/
def Obligations.CompositionOrderIsTotal : Prop :=
  ∀ a b c : Key, a.lt a = false ∧ (a.lt b = true → b.lt a = false) ∧ (a.lt b = true → b.lt c = true → a.lt c = true) ∧
    (a.lt b = false → b.lt a = false → a = b)

/-- R112: a chunk holds at least one token and at most CHUNK_MAX; one that does not reach the end of what is left ends on a
page boundary and samples nothing; one that does is final and samples at its end. -/
def Obligations.ChunksEndOnPages : Prop :=
  ∀ (e : Eng) (b : Bounds) (l : List DEntry) (x y : DEntry), e.sizeChunk b l x = .ok y →
    1 ≤ y.feed ∧ y.feed ≤ e.chunkMax ∧ y.feed ≤ x.feed ∧ y.kvStart = x.kvStart ∧ y.tag = x.tag ∧
    (y.feed < x.feed → (y.kvStart + y.feed) % 16 = 0 ∧ y.kind = 0 ∧ y.samplePos = 0xFFFFFFFF) ∧
    (y.feed = x.feed → y.kind = 1 ∧ y.samplePos = y.kvStart + y.feed)

/-- R166: a committed token is counted up to 4,095; one that is absent is entered only while the table holds fewer than
4,096 entries; no other count changes, and the table keeps ascending token ids. -/
def Obligations.ScaleCountsSaturate : Prop :=
  ∀ (e : Eng) (tag id : Nat), Tab.wf (Tab.getD e.smp.master tag []) = true →
    let old := Tab.getD e.smp.master tag []
    let new := Tab.getD (e.countToken tag id).2.smp.master tag []
    (∀ c, Tab.get? old id = some c → Tab.get? new id = some (min (c + 1) 4095)) ∧
    (Tab.get? old id = none → old.length < 4096 → Tab.get? new id = some 1) ∧
    (Tab.get? old id = none → 4096 ≤ old.length → new = old) ∧
    (∀ i, i ≠ id → Tab.get? new i = Tab.get? old i) ∧ Tab.wf new = true ∧ new.length ≤ max old.length 4096

/-! ## Placement and the wing -/

/-- R222: a wait record whose count has come to DECAY_N has every bin halved, rounding down, and its count taken again;
nothing else changes. A record below DECAY_N stays as it is. -/
def Obligations.WaitRecordsHalve : Prop :=
  ∀ (s : State) (t tenant tool : Nat) (r : WaitRec), t < 2 ^ 64 → s.eng.up = true → s.eng.isLead = true →
    let e := s.found t
    let k := waitKey tenant tool
    e.waitRec k = some r →
    (r.n < e.param 0x0802 → exec (.waitRecordDecay t tenant tool) s = .next (s.done t e)) ∧
    (e.param 0x0802 ≤ r.n → Tab.wf r.bins = true → ∃ w, exec (.waitRecordDecay t tenant tool) s =
        .next (s.done t { e with pln := { e.pln with waits := Tab.put e.pln.waits k w } }) ∧
      (∀ b, Tab.getD w.bins b 0 = Tab.getD r.bins b 0 / 2) ∧ w.n = sumN (Tab.vals w.bins) ∧ w.last = r.last)

/-- R230: when a pin's time has passed, the session holds no pin; no event and no other session changes. -/
def Obligations.PinsLapse : Prop :=
  ∀ (s : State) (t tag : Nat) (x : Entry), t < 2 ^ 64 → s.eng.up = true → s.eng.isLead = true →
    let e := s.found t
    e.find tag = some x → x.pin = true → (e.chr tag).pinExp ≤ e.now →
    ∃ d, exec (.pinExpiry t tag) s = .next (s.done t d) ∧ (∃ y, d.find tag = some y ∧ y.pin = false ∧ y.state = x.state) ∧
      (d.chr tag).pinTier = none ∧ d.tel = e.tel ∧ d.out = e.out ∧
      ∀ o, tagIndex o ≠ tagIndex tag → d.find o = e.find o

/-- R261: an acknowledgement on a label that is not bound to the session's tenant, or of a session that does not exist,
changes no session; none lowers ACKED, and none touches another session's. -/
def Obligations.AcknowledgementsNeverFallBack : Prop :=
  ∀ (s : State) (t src : Nat) (msg : Bytes), t < 2 ^ 64 → s.eng.up = true → s.eng.isLead = true → msg.length = 16 →
    let e := s.found t
    let tag := u32 msg 0
    let up (a : Option Nat) : Nat := match a with | some q => q + 1 | none => 0
    ∃ d, exec (.consumerAck t msg src) s = .next (s.done t d) ∧
      (∀ x, e.find tag = some x → e.labelFits src x.tenant = false → d.twm = e.twm) ∧
      (e.find tag = none → d.twm = e.twm) ∧ up (e.sum tag).acked ≤ up (d.sum tag).acked ∧
      (∀ o, o ≠ tag → Tab.get? d.twm.sums o = Tab.get? e.twm.sums o) ∧ d.dir = e.dir ∧ d.out = e.out

/-- R267, R268: a wing whose lease ends is FENCED without a lease; the records that are not durable and the instars in flight
are discarded; their indices are not used again (R251). -/
def Obligations.LeaseEndFencesTheWing : Prop :=
  ∀ (s : State) (t x : Nat), t < 2 ^ 64 → s.eng.up = true → s.eng.isLead = true →
    let e := s.found t
    e.twm.lease = some x → x ≤ e.now → e.twm.wing = .solo →
    ∃ d, exec (.leaseEnd t) s = .next (s.done t d) ∧ d.twm.wing = .fenced ∧ d.twm.lease = none ∧
      d.twm.appended = e.twm.appended ∧ d.twm.durable = e.twm.durable ∧ (∀ r ∈ d.twm.journal, r.2.1 ≤ e.twm.durable) ∧
      d.twm.batches = [] ∧ d.twm.admits = [] ∧ d.cmp.flights = [] ∧ d.smp.merged = [] ∧
      d.dir.entries = e.dir.entries ∧ d.pln = e.pln ∧ d.dsq = e.dsq

/-! ## The flash, power failure, telemetry -/

/-- R336: a PROGRAM that completes only clears bits of its 4 KiB, by the buffer; an ERASE that completes sets every byte of
its 64 KiB to 0xFF; no other byte of the flash changes, and its list keeps its canonical form. The flash's pins are then released (R400).
A completion beyond twice the maximum fails with code 4 and changes no other byte. -/
def Obligations.FlashOperationsActOnTheirBytes : Prop :=
  ∀ (s : State) (t addr : Nat), t < 2 ^ 64 → s.eng.aonUp = true →
    let e := s.found t
    let a := e.flashAddr addr
    let byte (e : Eng) (b : Nat) : Byte := Tab.getD e.iml.flash.cells b 0xFF
    Tab.wfD 0xFF e.iml.flash.cells = true →
    (e.iml.opBusy = some (1, addr) → e.opLate 1 = false → ∃ d, exec (.flashOpDone t 0) s = .next (s.done t d) ∧
      (∀ b, a ≤ b → b < a + 4096 → byte d b = byte e b &&& e.wrBuf.getD (b - a) 0) ∧
      (∀ b, b < a ∨ a + 4096 ≤ b → byte d b = byte e b) ∧ Tab.wfD 0xFF d.iml.flash.cells = true ∧ d.iml.opBusy = none ∧
      d.iml.pins = {}) ∧
    (e.iml.opBusy = some (0, addr) → e.opLate 0 = false → ∃ d, exec (.flashOpDone t 0) s = .next (s.done t d) ∧
      (∀ b, a ≤ b → b < a + 65536 → byte d b = 0xFF) ∧
      (∀ b, b < a ∨ a + 65536 ≤ b → byte d b = byte e b) ∧ Tab.wfD 0xFF d.iml.flash.cells = true ∧ d.iml.opBusy = none ∧
      d.iml.pins = {}) ∧
    (∀ op result, e.iml.opBusy = some (op, addr) → op < 2 → e.opLate op = true →
      ∃ d, exec (.flashOpDone t result) s = .next (s.done t d) ∧ d.iml.wrState = 3 ∧ d.iml.wrCode = 4 ∧ d.iml.opBusy = none ∧
        ∀ b, b < a ∨ a + (if op = 0 then 65536 else 4096) ≤ b → byte d b = byte e b)

/-- R340: a power-fail warning starts the hold-up: admission stops with reason 2 (1 at a Lead that seeks or is fenced), debug
mode ends, and no session and no placement changes. -/
def Obligations.PowerFailureStopsAdmission : Prop :=
  ∀ (s : State) (t : Nat), t < 2 ^ 64 → s.eng.aonUp = true →
    let e := s.found t
    e.aonUp = true → e.iml.warn = false → e.iml.hold = 0 → e.cmp.heldDesc = none → e.dsq.held = [] →
    ∃ d, exec (.pfWarn t) s = .next (s.done t d) ∧ d.iml.hold = 1 ∧ d.iml.warn = true ∧ d.iml.since = e.now ∧
      d.stopReason = (if e.isLead = true ∧ (e.twm.wing = .seeking ∨ e.twm.wing = .fenced) then 1 else 2) ∧
      d.dir = e.dir ∧ d.pln = e.pln ∧ d.dsq = e.dsq ∧ d.cmp = e.cmp ∧ d.twm = { e.twm with snap := none }

/-- R361, R366, R368, R369: no presented event, trace record, marker or epoch makes the event queue, the trace FIFO or the
list of open markers outgrow its size. -/
def Obligations.TelemetryBuffersAreBounded : Prop :=
  ∀ e : Eng, e.tel.queue.length ≤ 64 → e.tel.fifo.length ≤ 512 → e.tel.marks.length ≤ 16 →
    let ok (d : Eng) : Prop := d.tel.queue.length ≤ 64 ∧ d.tel.fifo.length ≤ 512 ∧ d.tel.marks.length ≤ 16
    (∀ typ prio tag fs, ok (e.raise typ prio tag fs)) ∧ (∀ kind island ts fs, ok (e.traceAt kind island ts fs)) ∧
    (∀ v, ok (e.markRange v)) ∧ ok e.startEpoch ∧ ok e.sendTrace ∧ (∀ i n, ok (e.count i n))

/-- R351: a counter wraps from 2^64 − 1 to 0 and sets its bit of TEL_WRAPPED; no count clears a bit of it or changes another
counter. -/
def Obligations.CountersWrap : Prop :=
  ∀ (e : Eng) (i n : Nat), i < 32 → Tab.wf e.tel.live = true → Tab.wf e.regs = true →
    let d := e.count i n
    let old := Tab.getD e.tel.live i 0
    Tab.getD d.tel.live i 0 = (old + n) % 2 ^ 64 ∧ (∀ j, j ≠ i → Tab.getD d.tel.live j 0 = Tab.getD e.tel.live j 0) ∧
    (∀ j, j < 32 → ((d.reg Reg.TEL_WRAPPED).getLsbD j = true ↔
      (e.reg Reg.TEL_WRAPPED).getLsbD j = true ∨ (j = i ∧ 2 ^ 64 ≤ old + n)))

/-! ## Where every command completes, and with what effect of its own -/

/-- Reads and aperture reads of BAR2 (R9, R11 to R13): the next state is the read's own effect and nothing else. -/
def Obligations.HostReadsComplete : Prop :=
  ∀ (s : State) (t off : Nat) (same : Word), t < 2 ^ 64 →
    let e := s.stamp t
    (exec (.bar2BadAccess t false off) s = .next (s.left t { e with readData := 0 })) ∧
    (exec (.bar2BadAccess t true off) s = .next (s.left t e)) ∧
    (0x800000 ≤ off → off < 0xC00000 →
      exec (.peekRead t off) s = .next (s.left t { e with readData := (s.found t).view (off - 0x800000) })) ∧
    (exec (.readClear t off same) s = .next (s.left t ((s.found t).hostRead off same))) ∧
    (pairLo off = some off → exec (.pairLoRead t off) s = .next (s.left t ((s.found t).hostRead off 0)))

/-- Writes of BAR2 registers (R9, R11, R13, R354, R363, R364, R369, R371), each with the register's own action. -/
def Obligations.HostWritesComplete : Prop :=
  ∀ (s : State) (t off req ring : Nat) (val same : Word), t < 2 ^ 64 → ring < 4 →
    let e := s.found t
    (exec (.registerWrite t off val req) s = .next (s.done t (e.hostWrite off val req))) ∧
    (e.hasAcc off .w1c = true → exec (.w1cClear t off val same) s = .next (s.done t (e.hostWrite off val 0 same))) ∧
    (pairLo off = some off → exec (.pairLoWrite t off val req) s = .next (s.done t (e.hostWrite off val req))) ∧
    (pairLo off = some (off - 4) → 4 ≤ off →
      exec (.pairHiWrite t off val req) s = .next (s.done t (e.hostWrite off val req))) ∧
    (e.hasAcc off .rwl = true → immediate off = false →
      exec (.stagedWrite t off val req) s = .next (s.done t (e.hostWrite off val req))) ∧
    (∀ j, j < 16 → e.aonUp = true →
      exec (.counterSelect t (Reg.TEL_SETA_SEL 0 + 4 * j) val) s = .next (s.done t (e.selectCounter j val.toNat))) ∧
    (e.aonUp = true → exec (.ringConsWrite t ring val) s = .next (s.done t (e.writeCons ring val.toNat))) ∧
    (exec (.ringFlush t ring val) s =
      .next (s.done t (e.hostWrite (Reg.TEL_RING_CTRL ring) (val ||| 0x80000000#32) 0))) ∧
    (e.aonUp = true → exec (.mark t val) s = .next (s.done t (e.markRange val.toNat)))

/-- The lock and the registers of RWL fields that act at once (R370 to R373): what each command does where its condition
holds. -/
def Obligations.LockCommandsComplete : Prop :=
  ∀ (s : State) (t req cause : Nat), t < 2 ^ 64 →
    let e := s.found t
    (e.dbg.lock.held = false → exec (.lockAcquire t req) s = .next (s.done t (e.acquireLock req))) ∧
    (e.holds req = true → exec (.lockRenew t req) s = .next (s.done t (e.renewLock req))) ∧
    (e.holds req = true → exec (.lockRelease t req) s = .next (s.done t (e.releaseLock req false))) ∧
    (e.holds req = true → exec (.lockReleaseCommit t req) s = .next (s.done t (e.releaseLock req true))) ∧
    (e.dbg.lock.held = true → e.dbg.lock.leaseEnd ≤ e.now →
      exec (.lockLeaseEnd t) s = .next (s.done t (e.breakLock 1 3))) ∧
    (e.dbg.lock.held = true → cause = 2 ∨ cause = 3 →
      exec (.servicePortReset t cause) s = .next (s.done t (e.breakLock cause 4)))

/-- Structure windows, debug control and the tests on demand (R374 to R382, R155). -/
def Obligations.DebugCommandsComplete : Prop :=
  ∀ (s : State) (t req addr syn : Nat) (val : Word) (pass : Bool), t < 2 ^ 64 → s.eng.aonUp = true →
    let e := s.found t
    (exec (.peekArg t val) s = .next (s.done t (e.hostWrite Reg.DBG_PEEK_ARG val 0))) ∧
    (∀ k a, e.dbg.copying = some (k, a) → exec (.peekCopyDone t) s = .next (s.done t e.endPeek)) ∧
    (e.holds req = true →
      exec (.dbgCtrlWrite t val req) s = .next (s.done t (e.writeDebug (val &&& 0xDFFFFFFF#32)))) ∧
    (e.holds req = true →
      exec (.instarGo t val req) s = .next (s.done t (e.writeDebug (val ||| 0x20000000#32)).releaseDesc)) ∧
    (e.holds req = true → e.up = true →
      exec (.dsqStepGo t req val) s = .next (s.done t (e.writeStep (val ||| 0x80000000#32).toNat))) ∧
    (e.holds req = true →
      exec (.testRequest t val req) s =
        .next (s.done t (e.hostWrite Reg.DBG_TEST_REQ ((val ||| 0x80000000#32) &&& 0xBFFFFFFF#32) req))) ∧
    (e.holds req = true →
      exec (.testCancel t req) s =
        .next (s.done t (e.hostWrite Reg.DBG_TEST_REQ (e.reg Reg.DBG_TEST_REQ ||| 0x40000000#32) req))) ∧
    (e.dbg.test.state = 1 → e.testMayStart = true → exec (.testStart t) s = .next (s.done t e.startTest)) ∧
    (e.dbg.test.state = 2 → exec (.testEnd t pass addr syn) s = .next (s.done t (e.endTest pass addr syn))) ∧
    (e.dbg.test.state = 2 → e.dbg.test.kind = 1 →
      (∃ r ∈ e.smp.waiting, r.since + 10000 ≤ e.now ∧ e.streamReady r = true) →
      exec (.laneTestAbort t) s = .next (s.done t (Eng.assignLanes 64
        (((e.setTest { e.dbg.test with state := 5 }).noteTest 3 []).setLane e.dbg.test.index
          { ((e.setTest { e.dbg.test with state := 5 }).noteTest 3 []).lane e.dbg.test.index with mode := 0 }))))

/-- Clock islands and legs that time out; a leg that has not reached twice its bound fails nothing (R44, R45, R40, R405). -/
def Obligations.IslandCommandsComplete : Prop :=
  ∀ (s : State) (t n : Nat) (on : Bool) (leg : Leg), t < 2 ^ 64 → n < 18 →
    let e := s.stamp t
    (e.islandRuns n = true → exec (.stretchWindowEnd t n) s = .next (s.left t (e.windowEnd n))) ∧
    (e.islandRuns n = true →
      exec (.islandDroop t n on) s =
        .next (s.left t { e with isl := Tab.put e.isl n { Tab.getD e.isl n {} with stretching := on } })) ∧
    (s.eng.up = true → exec (.legTimeout t leg) s = .next (s.done t ((s.found t).legTimeout leg))) ∧
    (s.eng.up = true → (s.found t).legDue leg = false → exec (.legTimeout t leg) s = .next (s.done t (s.found t)))

/-- The session directory (R51, R54, R55, R61 to R63, R68, R69, R72, R278). -/
def Obligations.DirectoryCommandsComplete : Prop :=
  ∀ (s : State) (t tag req : Nat) (msg : Bytes), t < 2 ^ 64 → s.eng.up = true → s.eng.isLead = true →
    let e := s.found t
    (exec (.dirLookup t tag req) s = .next (s.done t (e.request tag req))) ∧
    (∀ f, Tab.get? e.dir.fills tag = some f → f.copyB = false →
      exec (.dirMissFill t tag .good) s = .next (s.done t (e.endFill tag f)) ∧
      exec (.dirMissFill t tag .uncorrectable) s = .next (s.done t (e.copyAFailed tag f)) ∧
      exec (.dirMissFill t tag .badCheck) s = .next (s.done t (e.copyAFailed tag f))) ∧
    (∀ f, Tab.get? e.dir.fills tag = some f → f.copyB = true →
      exec (.dirCopyBRead t tag .good) s = .next (s.done t (e.endFill tag f)) ∧
      exec (.dirCopyBRead t tag .uncorrectable) s = .next (s.done t (e.copyBFailed tag f)) ∧
      exec (.dirCopyBRead t tag .badCheck) s = .next (s.done t (e.copyBFailed tag f))) ∧
    (exec (.insertWindowEnd t) s = .next (s.done t e.judgeWindow)) ∧
    (∀ sl, sl < 4 → exec (.dirSliceFailed t sl) s = .next (s.done t (e.failSlice sl))) ∧
    (∀ st, e.dir.copyTo = some st → e.dir.aOk = true →
      exec (.backingCopyDone t) s = .next (s.done t
        (Eng.raise { e with dir := { e.dir with stackB := st, bOk := true, copyTo := none } } 0x37 2 0
          [(16, 1, 1), (17, 1, st)]))) ∧
    (twinMsgOk msg 0x22 = true → e.heard.twm.wing = .paired → e.heard.isLead = true →
      e.heard.grantable (u32 msg 8) ≠ [] →
      exec (.blockReq t msg) s = .next (s.done t ((e.heard.withhold (e.heard.grantable (u32 msg 8))).append 0 e.heard.cmp.last
        [.term 1 e.heard.twm.term e.heard.twm.leader e.heard.img.wing (e.heard.grantable (u32 msg 8))]))) ∧
    (∀ x, e.find tag = some x → e.expired x = true →
      exec (.sessionExpiry t tag) s = .next (s.done t (e.startClose x 1 0 0 none))) ∧
    (∀ x, e.find tag = some x → x.state = .held → x.hold ≠ 2 → x.moving = false → e.undurable tag = false → e.twm.wing = .paired →
      e.twm.dual = false → crcOk msg 64 = false →
      exec (.sessionRebuild t tag msg) s = .next (s.done t (e.rebuildEntry x)))

/-- Ingress (R53, R75 to R86, R391): a record of any type, once the engine is up. -/
def Obligations.IngressCommandsComplete : Prop :=
  ∀ (s : State) (t src units slot seq : Nat) (rec_ : Bytes), t < 2 ^ 64 → s.eng.up = true →
    let e := s.found t
    (exec (.ingOpen t rec_ src units) s = .next (s.done t (e.ingest rec_ src units))) ∧
    (exec (.ingTurn t rec_ src units) s = .next (s.done t (e.ingest rec_ src units))) ∧
    (exec (.ingResume t rec_ src units) s = .next (s.done t (e.ingest rec_ src units))) ∧
    (exec (.ingClose t rec_ src units) s = .next (s.done t (e.ingest rec_ src units))) ∧
    (exec (.ingPin t rec_ src units) s = .next (s.done t (e.ingest rec_ src units))) ∧
    (exec (.ingProbe t rec_ src units) s = .next (s.done t (e.ingest rec_ src units))) ∧
    (exec (.ingAmend t rec_ src units) s = .next (s.done t (e.ingest rec_ src units))) ∧
    (exec (.ingressUnknownType t rec_ src units) s = .next (s.done t (e.ingest rec_ src units))) ∧
    (exec (.producerWindowFill t slot) s = .next (s.done t ((e.legIn (.window slot)).windowFilled slot))) ∧
    (exec (.outcomeWordRead t slot seq) s = .next (s.done t (e.outcomeRead slot seq)))

/-- Composing and the flutter tree (R120, R121, R126 to R128, R175, R388). -/
def Obligations.ComposingCommandsComplete : Prop :=
  ∀ (s : State) (t tag : Nat) (msg : Bytes), t < 2 ^ 64 → s.eng.up = true →
    let e := s.found t
    (exec (.instarDescriptor t msg) s = .next (s.done t (e.receiveDescriptor msg))) ∧
    (∀ d, msg.length = 16 → e.children.contains (u8 msg 8) = true → e.cmp.askedFor ≠ some (u48 msg 0) →
      (e.cmp.kept.find? fun d => d.num == u48 msg 0) = some d →
      exec (.resendRequest t msg) s = .next (s.done t
        ((e.bump Reg.CMP_BCAST 31 16 1).send (.frame 0x04 0 (u8 msg 8) (resentDesc d.raw))))) ∧
    (msg.length = 64 → exec (.instarEndReport t msg) s = .next (s.done t (e.gatherReport msg false))) ∧
    (exec (.fabricFrameBad t msg) s = .next (s.done t (e.badFrame msg))) ∧
    (s.eng.isLead = true →
      (exec (.tailSummary t msg) s = .next (s.done t (e.takeSummary msg))) ∧
      (∀ f, e.inFlight = some f → f.idle = true → f.launched = true → e.commits = true → f.launch + f.idleNs ≤ e.now →
        exec (.idleInstarEnd t) s = .next (s.done t
          (((e.stopDraft).modFlight f.num fun f => { f with turned := true, done := true }).markBoundary f.num).retireFlights.trySeal)) ∧
      (exec (.instarWatchdog t) s = .next (s.done t e.instarLate)) ∧
      (e.pln.matching.contains tag = true → exec (.prefixMatchDone t tag) s = .next (s.done t (e.matchPrefix tag))))

/-- Dispatch: the commands at the head of a job (R135, R139, R144, R146, R148). -/
def Obligations.HeadCommandsComplete : Prop :=
  ∀ (s : State) (t p id : Nat) (raw : Bytes), t < 2 ^ 64 → s.eng.up = true →
    let e := s.found t
    let runs (c : Instr) (op : Nat) : Prop := ∀ j, e.job? p id = some j → e.takesCommand p j = true →
      e.mayFetch op j raw = true → cmdOk raw = true → e.stepHolds p j = false →
      exec c s = .next (s.done t ((e.doCommand p j raw).settleDsq p))
    runs (.dsqKernel t p id raw) 1 ∧ runs (.dsqAcquire t p id raw) 2 ∧ runs (.dsqRelease t p id raw) 3 ∧
      runs (.dsqLinkGet t p id raw) 4 ∧ runs (.dsqLinkPut t p id raw) 5 ∧ runs (.dsqLayer t p id raw) 6 ∧
      runs (.dsqEnd t p id raw) 15

/-- Dispatch: what the cluster answers, faults, voids and aborts (R135, R140 to R145, R149 to R154). -/
def Obligations.DispatchCommandsComplete : Prop :=
  ∀ (s : State) (t p id g core n : Nat) (ok : Bool) (msg : Bytes), t < 2 ^ 64 → g < 1600 → core < 16 → s.eng.up = true →
    let e := s.found t
    (exec (.kernelComplete t p id) s = .next (s.done t (e.kernelDone p id))) ∧
    (exec (.haltAck t p id) s = .next (s.done t (e.halted p id))) ∧
    (exec (.groupSaveDone t g ok) s = .next (s.done t (e.groupSaved g ok))) ∧
    (exec (.groupRestoreDone t g ok) s = .next (s.done t (e.groupRestored g ok))) ∧
    (exec (.contextLoadDone t g ok) s = .next (s.done t (e.contextLoaded g ok))) ∧
    (exec (.coreMachineCheck t g core) s = .next (s.done t (e.fenceCore g core))) ∧
    (∀ j k, e.job? p id = some j → j.kernelRuns = true → j.kern = some k →
      e.param 0x0700 * k.wcet < (k.ran + (e.now - k.start)) * 1000 →
      exec (.kernelWatchdog t p id) s = .next (s.done t ((e.faultPart p 2 false).settleDsq p))) ∧
    ((Tab.get? e.img.partitions p).isSome = true →
      exec (.clusterHbmError t p) s = .next (s.done t ((e.faultPart p 5 false).settleDsq p))) ∧
    ((e.part p).mode = 1 →
      exec (.partitionReady t p) s = .next (s.done t
        (((e.setPart p fun q => { q with mode := 0 }).closeVoided p).settleDsq p))) ∧
    (e.isLead = true → exec (.voidNotice t msg) s = .next (s.done t (e.leadVoid msg))) ∧
    (exec (.abortMsg t msg) s = .next (s.done t (e.takeAbort msg))) ∧
    (exec (.tensorDumpDone t n) s = .next (s.done t (e.dumpDone n))) ∧
    ((Tab.get? e.img.partitions p).isSome = true →
      exec (.linkCreditReturn t p n) s = .next (s.done t (e.creditsBack p n)))

/-- Sampling (R160 to R163, R167, R178 to R183, R190, R192, R197, R206). -/
def Obligations.SamplingCommandsComplete : Prop :=
  ∀ (s : State) (t lane tag pos cause rank : Nat) (msg note : Bytes) (again : Bool), t < 2 ^ 64 → lane < 64 →
    s.eng.up = true →
    let e := s.found t
    (exec (.logitStream t msg) s = .next (s.done t (e.takeStream msg))) ∧
    (exec (.tailSweep t lane) s = .next (s.done t (e.endSweep lane))) ∧
    (exec (.logitBufferReadDone t lane msg) s = .next (s.done t ((e.legIn (.lane lane)).bufferRead lane msg))) ∧
    (exec (.smpLaneRetired t lane cause) s = .next (s.done t (e.retireLane lane cause))) ∧
    (e.isTail = true → selectOk msg = true →
      exec (.select t msg) s = .next (s.done t ((e.recovered 1 e.leadRank 0 0 0).applySelect msg))) ∧
    (exec (.draft t msg) s = .next (s.done t (e.takeDraft msg))) ∧
    (e.smp.edgeReads.contains tag = true → exec (.draftEdgeReadDone t tag) s = .next (s.done t (e.edgesRead tag))) ∧
    (exec (.refineRequest t msg) s = .next (s.done t (e.takeRequest msg))) ∧
    (∀ r, (e.smp.buffer.find? fun r => r.tag == tag && r.pos == pos) = some r →
      exec (.summaryRerequest t tag pos) s = .next (s.done t (Eng.assignLanes 64 { e with smp := { e.smp with
        waiting := e.smp.waiting ++ [{ r with raw := [], needRead := true, waited := false, since := e.now }] } }))) ∧
    (exec (.grammarReadError t tag rank again) s = .next (s.done t (e.grammarFault tag rank again))) ∧
    (s.eng.isLead = true →
      (exec (.refineReply t msg note) s = .next (s.done t
        ((e.legIn (.round (u32 msg 0) (u32 msg 4) (u8 msg 9))).takeReply msg note))) ∧
      (∀ m, e.positionAt (u32 msg 0) (u32 msg 4) = some m → m.noted.contains (u8 msg 10) = false → noteOk msg = true →
        let e' := e.recovered 0 (u8 msg 10) m.instar (u32 msg 0) (u32 msg 4 + 2 ^ 32)
        exec (.grammarNote t msg) s = .next (s.done t
          (e'.setMerged { m with noted := u8 msg 10 :: m.noted, notes := m.notes ++ noteEnts msg }).advanceTurn)))

/-- Local tools (R200 to R205). -/
def Obligations.ToolCommandsComplete : Prop :=
  ∀ (s : State) (t n tag : Nat) (msg : Bytes) (labels : List (List Nat)), t < 2 ^ 64 → s.eng.up = true →
    let e := s.found t
    (exec (.toolOrder t msg) s = .next (s.done t ((e.down 0x07 msg).takeToolOrder msg))) ∧
    (exec (.toolCancel t msg) s = .next (s.done t ((e.down 0x08 msg).abortTool (u48 msg 0) (u32 msg 8)))) ∧
    (s.eng.isLead = true →
      (exec (.toolPart t msg labels) s = .next (s.done t (e.takePart msg labels))) ∧
      (exec (.toolPartTimeout t n tag labels) s = .next (s.done t (e.partTimeout n tag labels))))

/-- Placement orders (R214, R216, R218, R226 to R229, R232, R234): an order of its row's kind goes down the tree and is
carried out on this chip. -/
def Obligations.OrderCommandsComplete : Prop :=
  ∀ (s : State) (t : Nat) (msg : Bytes) (o : Order), t < 2 ^ 64 → s.eng.up = true → Order.parse msg = some o →
    let t' := s.done t (((s.found t).down 0x20 msg).acceptOrder o)
    (o.kind = 1 → exec (.pupate t msg) s = .next t') ∧ (o.kind = 2 → exec (.eclose t msg) s = .next t') ∧
    (o.kind = 3 → exec (.demote t msg) s = .next t') ∧ (o.kind = 4 → exec (.spill t msg) s = .next t') ∧
    (o.kind = 5 → exec (.refill t msg) s = .next t') ∧ (o.kind = 6 → exec (.free t msg) s = .next t') ∧
    (o.kind = 7 → exec (.cancel t msg) s = .next t') ∧ (o.kind = 8 → exec (.reserve t msg) s = .next t') ∧
    (o.kind = 9 → exec (.prefixCopy t msg) s = .next t') ∧ (o.kind = 10 → exec (.migrate t msg) s = .next t')

/-- Placement's timers and records on the Lead (R214, R221, R222, R228, R230, R232). -/
def Obligations.PlacementTimersComplete : Prop :=
  ∀ (s : State) (t tag tenant tool : Nat), t < 2 ^ 64 → s.eng.up = true →
    let e := s.found t
    let k := waitKey tenant tool
    (exec (.orderTimeDue t tag) s = .next (s.done t (e.orderDue tag))) ∧
    (exec (.ttlExpiry t tag) s = .next (s.done t (e.ttlExpired tag))) ∧
    (e.pln.onDie < e.pln.held.length → e.pln.onDie < 4096 →
      exec (.calendarLoad t) s = .next (s.done t { e with pln := { e.pln with onDie := e.pln.onDie + 1 } })) ∧
    (s.eng.isLead = true →
      (∀ x, e.find tag = some x → x.state = .idle → x.moving = false → x.ttlExp ≠ 0 → x.ttlExp ≤ actTime e.now →
        (e.chipRec tag).dec = none → exec (.ttlExpiry t tag) s = .next (s.done t (e.demoteStep x))) ∧
      (∀ x, e.find tag = some x → x.pin = true → (e.chr tag).pinExp ≤ e.now →
        exec (.pinExpiry t tag) s = .next (s.done t (e.unpin tag))) ∧
      (exec (.waitRecordFill t tenant tool) s = .next (s.done t (e.waitFilled k))) ∧
      (exec (.waitRecordDecay t tenant tool) s = .next (s.done t (e.decay k))) ∧
      (2 ^ 20 ≤ e.pln.firsts →
        let sk := (Tab.mapVals e.pln.sketch fun _ c => c / 2).filter fun p => decide (p.2 ≠ 0)
        exec (.prefixSketchHalve t) s = .next (s.done t { e with pln := { e.pln with firsts := 0, sketch := sk } })))

/-- Moves, their reports, failing targets and stacks, migration (R228, R234 to R237, R241, R242). -/
def Obligations.MoveCommandsComplete : Prop :=
  ∀ (s : State) (t n crc stack : Nat) (ok lost : Bool) (chk : MovCheck) (msg : Bytes), t < 2 ^ 64 → n < 64 → stack < 8 →
    s.eng.up = true →
    let e := s.found t
    (exec (.pageLegDone t n ok crc chk) s = .next (s.done t (e.legDone n ok crc chk))) ∧
    (e.isLead = true → exec (.moveEndReport t msg) s = .next (s.done t (e.takeReport msg))) ∧
    (e.isLead = false → exec (.moveEndReport t msg) s = .next (s.done t (e.upward 0x21 msg))) ∧
    (exec (.nicConnectionLost t n) s = .next (s.done t ((e.failTarget n 1).restartMoves n))) ∧
    (exec (.nvmeNamespaceFailed t n) s = .next (s.done t ((e.failTarget n 2).restartMoves n))) ∧
    (exec (.hbmStackFailed t stack lost) s = .next (s.done t (e.stackFailed stack lost))) ∧
    (exec (.migReq t msg) s = .next (s.done t (e.takeMigReq msg))) ∧
    (exec (.migData t msg) s = .next (s.done t (e.takeMigData msg)))

/-- The twin port and journaling (R255, R256, R263, R276, R279 to R282, R342, R397). -/
def Obligations.JournalCommandsComplete : Prop :=
  ∀ (s : State) (t first stored rank : Nat) (ok : Bool) (msg : Bytes) (shard : Option Bytes), t < 2 ^ 64 → s.eng.up = true →
    let e := s.found t
    (exec (.journalBatch t msg stored) s = .next (s.done t (e.takeBatch msg stored))) ∧
    (u8 msg 0 = 0x10 → exec (.ack t msg) s = .next (s.done t (e.takeAck msg))) ∧
    (u8 msg 0 = 0x11 → exec (.nak t msg) s = .next (s.done t (e.takeNak msg))) ∧
    (exec (.batchAckTimeout t first) s = .next (s.done t (e.ackLate first))) ∧
    (e.twm.handshake = true → e.twm.lastRx + 10000000 ≤ e.now →
      exec (.twinLinkDown t) s = .next (s.done t (e.loseTwin 0))) ∧
    (exec (.hello t msg) s = .next (s.done t (e.takeHello msg))) ∧
    (exec (.helloTimer t) s = .next (s.done t (e.send (.twin e.helloBytes)))) ∧
    (exec (.t3WriteDone t first ok) s = .next (s.done t (e.t3Written first ok))) ∧
    (exec (.snapData t msg) s = .next (s.done t (e.takeSnapData msg))) ∧
    (exec (.t3ReadDone t msg ok) s = .next (s.done t (e.t3Read msg ok))) ∧
    (e.stopping = false → exec (.trailWriteDone t) s = .next (s.done t e.flushWritten)) ∧
    (e.twm.lastSnap + e.param 0x0C05 * 1000000000 ≤ e.now →
      exec (.snapshotTimer t) s = .next (s.done t (if e.isLead then e.requestSnap else e.cutShard))) ∧
    (s.eng.isLead = true →
      (exec (.controlBatchTimer t) s = .next (s.done t e.sendAcks)) ∧
      (exec (.snapshotWriteDone t rank shard) s = .next (s.done t (e.snapWritten rank shard)))) ∧
    (∀ v : Word, bit v.toNat 31 = true → e.isLead = true → e.up = true →
      exec (.snapStart t v) s = .next (s.done t e.requestSnap))

/-- Wing states, the witness, acknowledgements and emission again (R261, R262, R265 to R268, R272, R273, R275). -/
def Obligations.WingCommandsComplete : Prop :=
  ∀ (s : State) (t tag src : Nat) (msg : Bytes) (answer : Datagram), t < 2 ^ 64 → s.eng.up = true →
    let e := s.found t
    (twinMsgOk msg 0x21 = true → exec (.handover t msg) s = .next (s.done t (e.takeHandover msg))) ∧
    (exec (.grant t answer) s = .next (s.done t (e.takeGrant answer))) ∧
    (exec (.deny t answer) s = .next (s.done t (e.takeDeny answer))) ∧
    (s.eng.isLead = true →
      (exec (.witnessRetry t) s = .next (s.done t e.retryWitness)) ∧
      (e.twm.wing = .solo → e.twm.lease.isSome = true → e.twm.retryAt + 500000000 ≤ e.now →
        exec (.leaseRenew t) s = .next (s.done t
          (Eng.askWitness { e with twm := { e.twm with retryAt := e.now } } 0 e.img.wing true))) ∧
      (∀ x, e.twm.lease = some x → x ≤ e.now →
        exec (.leaseEnd t) s = .next (s.done t
          ((e.raise 0xC1 2 0 [(16, 1, 2), (17, 1, e.img.wing), (20, 4, e.twm.term)]).fence 2 e.twm.term))) ∧
      (e.twm.wing = .seeking → e.twm.paused = false → e.twm.seekSince + 30000000000 ≤ e.now →
        exec (.seekingPause t) s = .next (s.done t e.pauseSeeking)) ∧
      (e.twm.wing = .fenced → e.twm.dual = false → e.twm.retryAt + 500000000 ≤ e.now →
        exec (.fencedRetry t) s = .next (s.done t
          (Eng.askWitness { e with twm := { e.twm with retryAt := e.now } } 3 e.img.wing false))) ∧
      (msg.length = 16 →
        exec (.consumerAck t msg src) s = .next (s.done t
          (e.consumerAck (u32 msg 0) (u32 msg 4) (bit (u8 msg 8) 0) src))) ∧
      (e.twm.wing = .paired → e.twm.dual = false → e.ing.mismatch = false → (e.find tag).isSome = true →
        (e.emitOf tag).lastSent + e.param 0x0C01 * 1000 ≤ e.now →
        exec (.emitAgain t tag) s = .next (s.done t (e.emitAgainNow tag))))

/-- The power governor's samples, polls and rail writes (R287, R288, R296, R298, R299, R301 to R304, R310, R315). -/
def Obligations.PowerSamplingCommandsComplete : Prop :=
  ∀ (s : State) (t stretch hot sensor kMean rail pout status mv : Nat) (vc vs : List Int)
    (mvs pulses phases failed : List Nat) (tools : List (Nat × Nat)), t < 2 ^ 64 → rail < 2 → s.eng.aonUp = true →
    let e := s.found t
    (exec (.fastLoop t vc vs mvs stretch hot sensor kMean pulses tools) s =
      .next (s.done t (e.sampleUs vc vs mvs stretch hot sensor kMean pulses tools).endQuiet)) ∧
    (exec (.pmbusPoll t) s = .next (s.done t e.pollAll)) ∧
    (exec (.pmbusDone t rail pout status phases failed) s = .next (s.done t (e.polled rail pout failed))) ∧
    (exec (.vdone t rail mv) s = .next (s.done t (e.railDone rail mv))) ∧
    (exec (.clockAck t) s = .next (s.done t e.clockDone)) ∧
    (exec (.slewTimeout t rail mv) s = .next (s.done t (e.slewLate rail mv))) ∧
    (exec (.excitationTest t) s = .next (s.done t e.exciteBoth)) ∧
    (exec (.quietRequest t) s = .next (s.done t e.askQuiet))

/-- The deficit ladder and its ends (R307 to R309). -/
def Obligations.LadderCommandsComplete : Prop :=
  ∀ (s : State) (t meanW misses : Nat), t < 2 ^ 64 → s.eng.aonUp = true →
    let e := s.found t
    (∀ x, e.pgv.defSince = some x → x + 1000000 ≤ e.now →
      exec (.deficitMs t) s = .next (s.done t (e.modPgv fun g => { g with defSince := some e.now }).deficit)) ∧
    (∀ x, e.pgv.surSince = some x → x + 10000000 ≤ e.now →
      exec (.surplus t) s = .next (s.done t (e.modPgv fun g => { g with surSince := some e.now }).surplusStep)) ∧
    (e.pgv.ladder = 4 → e.pgv.idleSince + 50000000 ≤ e.now → e.capEff < meanW →
      exec (.unattainableCheck t meanW) s = .next (s.done t
        ((((e.modPgv fun g => { g with ladder := 5 }).noteLadder).raise 0xB1 3 0
          [(16, 2, e.capEff), (18, 2, meanW), (20, 1, 1)]).send (.capFail true)))) ∧
    (e.pgv.ladder = 5 → meanW ≤ e.capEff →
      exec (.unattainableExit t meanW) s = .next (s.done t
        ((((e.modPgv fun g => { g with ladder := 4, idleSince := e.now }).noteLadder).raise 0xB1 3 0
          [(16, 2, e.capEff), (18, 2, meanW), (20, 1, 0)]).send (.capFail false)))) ∧
    (s.eng.up = true → s.eng.isLead = true → exec (.shedOnCap t misses) s = .next (s.done t (e.shed misses)))

/-- Alerts, coolant flow and temperature (R312, R313). -/
def Obligations.AlarmCommandsComplete : Prop :=
  ∀ (s : State) (t rail addr status phase temp sensor : Nat), t < 2 ^ 64 → rail < 6 → s.eng.aonUp = true →
    let e := s.found t
    (exec (.regAlert t rail addr status phase) s = .next (s.done t (e.alert rail addr status phase))) ∧
    (exec (.regAlertClear t) s = .next (s.done t e.alertClear)) ∧
    (exec (.regAlertTimeout t) s = .next (s.done t e.alertLong)) ∧
    (exec (.alertHoldEnd t) s = .next (s.done t e.alertHeld)) ∧
    (exec (.coolFlowLost t) s = .next (s.done t e.coolantLost)) ∧
    (∀ x, e.pgv.coolLost = some x → e.policy = 1 → x + 2000000000 ≤ e.now →
      exec (.coolFlowEscalate t) s = .next (s.done t e.coolActions)) ∧
    (exec (.coolFlowRestored t) s = .next (s.done t e.coolantBack)) ∧
    (∀ x, e.pgv.coolLost = some x → e.pgv.coolHigh = none →
      exec (.coolFlowOkHigh t) s = .next (s.done t (e.modPgv fun g => { g with coolHigh := some e.now }))) ∧
    (16 * e.param 0x0B17 ≤ temp → e.pgv.critSince = none →
      exec (.thermalCrit t temp sensor) s = .next (s.done t (e.tooHot temp sensor))) ∧
    (exec (.thermalCritTimeout t temp) s = .next (s.done t (e.stillHot temp)))

/-- Start-up, resets and the flash (R322, R335 to R339). -/
def Obligations.BootCommandsComplete : Prop :=
  ∀ (s : State) (t rail island req addr res : Nat) (fuses msg : Bytes) (ok : Bool) (lanes : List Nat) (units : List BistUnit), t < 2 ^ 64 →
    rail < 6 → island < 18 →
    let e := s.found t
    (s.eng.iml.phase = 0 → exec (.vaonGood t fuses) s = .next (s.done t (e.coldBoot fuses))) ∧
    (s.eng.aonUp = true →
      (exec (.railPowerGood t rail) s = .next (s.done t (e.railGood rail))) ∧
      (exec (.flashStatusWriteDone t ok) s = .next (s.done t (e.statusWritten ok))) ∧
      ((∀ n ∈ lanes, n < 64) → (∀ u ∈ units, u.ok = true) →
        exec (.hbmReady t lanes units) s = .next (s.done t (e.hbmIsReady (lanes, units)))) ∧
      (exec (.engResetInput t) s = .next (s.done t (e.askReset 4 false))) ∧
      (exec (.flutterReset t msg) s = .next (s.done t ((e.down 0x01 msg).askReset 2 false))) ∧
      (e.islandRuns island = true → exec (.aonWatchdog t island) s = .next (s.done t (e.askReset 3 false))) ∧
      (e.holds req = true →
        (exec (.resetEngine t req) s = .next (s.done t (e.askReset 1 false))) ∧
        (e.isLead = true → e.up = true → exec (.resetFlutter t req) s = .next (s.done t (e.askReset 2 true)))) ∧
      (exec (.flashErase t req addr) s = .next (s.done t (e.flashOp 0 req addr))) ∧
      (exec (.flashProgram t req addr) s = .next (s.done t (e.flashOp 1 req addr))) ∧
      (exec (.flashRead t req addr) s = .next (s.done t (e.flashOp 2 req addr))) ∧
      (exec (.flashValidate t req addr) s = .next (s.done t (e.flashOp 3 req addr))) ∧
      (exec (.flashOpDone t res) s = .next (s.done t (e.endFlashOp res))))

/-- Power failure (R340 to R345). -/
def Obligations.HoldupCommandsComplete : Prop :=
  ∀ (s : State) (t rail : Nat), t < 2 ^ 64 → rail < 6 → s.eng.aonUp = true →
    let e := s.found t
    (e.aonUp = true → e.iml.warn = false → e.iml.hold = 0 →
      exec (.pfWarn t) s = .next (s.done t (e.modIml fun i => { i with warn := true }).startHoldup)) ∧
    (exec (.pfWarnClear t) s = .next (s.done t e.warnCleared)) ∧
    (exec (.holdupInstarTimeout t) s = .next (s.done t e.dropInFlight)) ∧
    (exec (.flushWriteDone t) s = .next (s.done t e.flushWritten)) ∧
    (e.iml.hold = 3 → e.iml.since + e.param 0x0100 * 1000000 ≤ e.now →
      exec (.rideTimeout t) s = .next (s.done t (Eng.powerDown 6 ((e.setHold 4).limFall.noteHoldup 3)))) ∧
    (e.iml.hold = 5 → e.iml.since + 100000000 ≤ e.now → e.iml.warn = false →
      exec (.dwellEnd t) s = .next (s.done t (e.setHold 0))) ∧
    (exec (.railPowerFail t rail) s = .next (s.done t (e.railFell rail))) ∧
    (exec (.pdRailTimeout t) s = .next (s.done t e.railLate))

/-- Time, epochs, events and the trace port (R350, R351, R361, R365, R366). -/
def Obligations.TelemetryCommandsComplete : Prop :=
  ∀ (s : State) (t ring ptp : Nat) (offset : Int), t < 2 ^ 64 → ring < 4 → s.eng.aonUp = true →
    let e := s.found t
    (exec (.snapshotEpoch t) s = .next (s.done t e.startEpoch)) ∧
    (∀ n q, e.tel.queue = n :: q →
      exec (.eventPost t) s = .next (s.done t (Eng.postNotice { e with tel := { e.tel with queue := q } } n).tellLoss)) ∧
    (exec (.ptpMeasurement t offset ptp) s = .next (s.done t (e.measureTime offset))) ∧
    (e.tel.timeState = 2 → e.tel.lastMeas + 2000000000 ≤ e.now →
      exec (.ptpHoldover t) s = .next (s.done t (Eng.timeState { e with tel := { e.tel with inLock := 0 } } 3))) ∧
    (exec (.ringHoldoffEnd t ring) s = .next (s.done t (e.signalRing ring))) ∧
    (∀ b l, e.tel.fifo = b :: l → e.fld Reg.TEL_TRACE_CTRL 31 31 = 1 →
      exec (.traceSend t) s = .next (s.done t
        ((Eng.send { e with tel := { e.tel with fifo := l, valid := !l.isEmpty, sentEpoch := e.tel.sentEpoch + 16 } } (.trace b)).count 13 1)))
end

