-- ==== Sys2Proof/Laws/State.lean ====
section
/-! SUPPORT. What each update of the state leaves alone, one lemma per field. -/

namespace Sys2Proof.Machine

/-! ## The timestamp of a command -/

@[simp] theorem State.stamp_regs (s : State) (t : Nat) : (s.stamp t).regs = s.eng.regs := rfl
@[simp] theorem State.stamp_shadow (s : State) (t : Nat) : (s.stamp t).shadow = s.eng.shadow := rfl
@[simp] theorem State.stamp_loStage (s : State) (t : Nat) : (s.stamp t).loStage = s.eng.loStage := rfl
@[simp] theorem State.stamp_readData (s : State) (t : Nat) : (s.stamp t).readData = s.eng.readData := rfl
@[simp] theorem State.stamp_free (s : State) (t : Nat) : (s.stamp t).free = s.eng.free := rfl
@[simp] theorem State.stamp_isl (s : State) (t : Nat) : (s.stamp t).isl = s.eng.isl := rfl
@[simp] theorem State.stamp_img (s : State) (t : Nat) : (s.stamp t).img = s.eng.img := rfl
@[simp] theorem State.stamp_iml (s : State) (t : Nat) : (s.stamp t).iml = s.eng.iml := rfl
@[simp] theorem State.stamp_tel (s : State) (t : Nat) : (s.stamp t).tel = s.eng.tel := rfl
@[simp] theorem State.stamp_dbg (s : State) (t : Nat) : (s.stamp t).dbg = s.eng.dbg := rfl
@[simp] theorem State.stamp_dir (s : State) (t : Nat) : (s.stamp t).dir = s.eng.dir := rfl
@[simp] theorem State.stamp_ing (s : State) (t : Nat) : (s.stamp t).ing = s.eng.ing := rfl
@[simp] theorem State.stamp_ldg (s : State) (t : Nat) : (s.stamp t).ldg = s.eng.ldg := rfl
@[simp] theorem State.stamp_dln (s : State) (t : Nat) : (s.stamp t).dln = s.eng.dln := rfl
@[simp] theorem State.stamp_cmp (s : State) (t : Nat) : (s.stamp t).cmp = s.eng.cmp := rfl
@[simp] theorem State.stamp_dsq (s : State) (t : Nat) : (s.stamp t).dsq = s.eng.dsq := rfl
@[simp] theorem State.stamp_smp (s : State) (t : Nat) : (s.stamp t).smp = s.eng.smp := rfl
@[simp] theorem State.stamp_pln (s : State) (t : Nat) : (s.stamp t).pln = s.eng.pln := rfl
@[simp] theorem State.stamp_mov (s : State) (t : Nat) : (s.stamp t).mov = s.eng.mov := rfl
@[simp] theorem State.stamp_twm (s : State) (t : Nat) : (s.stamp t).twm = s.eng.twm := rfl
@[simp] theorem State.stamp_pgv (s : State) (t : Nat) : (s.stamp t).pgv = s.eng.pgv := rfl
@[simp] theorem State.stamp_legs (s : State) (t : Nat) : (s.stamp t).legs = s.eng.legs := rfl
@[simp] theorem State.stamp_failed (s : State) (t : Nat) : (s.stamp t).failed = s.eng.failed := rfl
@[simp] theorem State.stamp_now (s : State) (t : Nat) : (s.stamp t).now = max s.eng.now t := rfl
@[simp] theorem State.stamp_out (s : State) (t : Nat) : (s.stamp t).out = [] := rfl
@[simp] theorem State.stamp_up (s : State) (t : Nat) : (s.stamp t).up = s.eng.up := rfl
@[simp] theorem State.stamp_isLead (s : State) (t : Nat) : (s.stamp t).isLead = s.eng.isLead := rfl
@[simp] theorem State.stamp_aonUp (s : State) (t : Nat) : (s.stamp t).aonUp = s.eng.aonUp := rfl
@[simp] theorem State.left_pending (s : State) (t : Nat) (d : Eng) : (s.left t d).pending = s.pending := rfl
@[simp] theorem State.left_now (s : State) (t : Nat) (d : Eng) : (s.left t d).eng.now = max s.eng.now t := rfl
@[simp] theorem State.left_out (s : State) (t : Nat) (d : Eng) : (s.left t d).eng.out = d.out ++ s.eng.out := rfl
@[simp] theorem State.left_regs (s : State) (t : Nat) (d : Eng) : (s.left t d).eng.regs = d.regs := rfl
@[simp] theorem State.left_shadow (s : State) (t : Nat) (d : Eng) : (s.left t d).eng.shadow = d.shadow := rfl
@[simp] theorem State.left_loStage (s : State) (t : Nat) (d : Eng) : (s.left t d).eng.loStage = d.loStage := rfl
@[simp] theorem State.left_readData (s : State) (t : Nat) (d : Eng) : (s.left t d).eng.readData = d.readData := rfl
@[simp] theorem State.left_free (s : State) (t : Nat) (d : Eng) : (s.left t d).eng.free = d.free := rfl
@[simp] theorem State.left_isl (s : State) (t : Nat) (d : Eng) : (s.left t d).eng.isl = d.isl := rfl
@[simp] theorem State.left_img (s : State) (t : Nat) (d : Eng) : (s.left t d).eng.img = d.img := rfl
@[simp] theorem State.left_iml (s : State) (t : Nat) (d : Eng) : (s.left t d).eng.iml = d.iml := rfl
@[simp] theorem State.left_tel (s : State) (t : Nat) (d : Eng) : (s.left t d).eng.tel = d.tel := rfl
@[simp] theorem State.left_dbg (s : State) (t : Nat) (d : Eng) : (s.left t d).eng.dbg = d.dbg := rfl
@[simp] theorem State.left_dir (s : State) (t : Nat) (d : Eng) : (s.left t d).eng.dir = d.dir := rfl
@[simp] theorem State.left_ing (s : State) (t : Nat) (d : Eng) : (s.left t d).eng.ing = d.ing := rfl
@[simp] theorem State.left_ldg (s : State) (t : Nat) (d : Eng) : (s.left t d).eng.ldg = d.ldg := rfl
@[simp] theorem State.left_dln (s : State) (t : Nat) (d : Eng) : (s.left t d).eng.dln = d.dln := rfl
@[simp] theorem State.left_cmp (s : State) (t : Nat) (d : Eng) : (s.left t d).eng.cmp = d.cmp := rfl
@[simp] theorem State.left_dsq (s : State) (t : Nat) (d : Eng) : (s.left t d).eng.dsq = d.dsq := rfl
@[simp] theorem State.left_smp (s : State) (t : Nat) (d : Eng) : (s.left t d).eng.smp = d.smp := rfl
@[simp] theorem State.left_pln (s : State) (t : Nat) (d : Eng) : (s.left t d).eng.pln = d.pln := rfl
@[simp] theorem State.left_mov (s : State) (t : Nat) (d : Eng) : (s.left t d).eng.mov = d.mov := rfl
@[simp] theorem State.left_twm (s : State) (t : Nat) (d : Eng) : (s.left t d).eng.twm = d.twm := rfl
@[simp] theorem State.left_pgv (s : State) (t : Nat) (d : Eng) : (s.left t d).eng.pgv = d.pgv := rfl
@[simp] theorem State.left_legs (s : State) (t : Nat) (d : Eng) : (s.left t d).eng.legs = d.legs := rfl
@[simp] theorem State.left_failed (s : State) (t : Nat) (d : Eng) : (s.left t d).eng.failed = d.failed := rfl

/-! ## Eng.setReg -/

@[simp] theorem Eng.setReg_now (e : Eng) (off : Nat) (v : Word) : (e.setReg off v).now = e.now := rfl
@[simp] theorem Eng.setReg_shadow (e : Eng) (off : Nat) (v : Word) : (e.setReg off v).shadow = e.shadow := rfl
@[simp] theorem Eng.setReg_loStage (e : Eng) (off : Nat) (v : Word) : (e.setReg off v).loStage = e.loStage := rfl
@[simp] theorem Eng.setReg_readData (e : Eng) (off : Nat) (v : Word) : (e.setReg off v).readData = e.readData := rfl
@[simp] theorem Eng.setReg_free (e : Eng) (off : Nat) (v : Word) : (e.setReg off v).free = e.free := rfl
@[simp] theorem Eng.setReg_isl (e : Eng) (off : Nat) (v : Word) : (e.setReg off v).isl = e.isl := rfl
@[simp] theorem Eng.setReg_img (e : Eng) (off : Nat) (v : Word) : (e.setReg off v).img = e.img := rfl
@[simp] theorem Eng.setReg_iml (e : Eng) (off : Nat) (v : Word) : (e.setReg off v).iml = e.iml := rfl
@[simp] theorem Eng.setReg_tel (e : Eng) (off : Nat) (v : Word) : (e.setReg off v).tel = e.tel := rfl
@[simp] theorem Eng.setReg_dbg (e : Eng) (off : Nat) (v : Word) : (e.setReg off v).dbg = e.dbg := rfl
@[simp] theorem Eng.setReg_dir (e : Eng) (off : Nat) (v : Word) : (e.setReg off v).dir = e.dir := rfl
@[simp] theorem Eng.setReg_ing (e : Eng) (off : Nat) (v : Word) : (e.setReg off v).ing = e.ing := rfl
@[simp] theorem Eng.setReg_ldg (e : Eng) (off : Nat) (v : Word) : (e.setReg off v).ldg = e.ldg := rfl
@[simp] theorem Eng.setReg_dln (e : Eng) (off : Nat) (v : Word) : (e.setReg off v).dln = e.dln := rfl
@[simp] theorem Eng.setReg_cmp (e : Eng) (off : Nat) (v : Word) : (e.setReg off v).cmp = e.cmp := rfl
@[simp] theorem Eng.setReg_dsq (e : Eng) (off : Nat) (v : Word) : (e.setReg off v).dsq = e.dsq := rfl
@[simp] theorem Eng.setReg_smp (e : Eng) (off : Nat) (v : Word) : (e.setReg off v).smp = e.smp := rfl
@[simp] theorem Eng.setReg_pln (e : Eng) (off : Nat) (v : Word) : (e.setReg off v).pln = e.pln := rfl
@[simp] theorem Eng.setReg_mov (e : Eng) (off : Nat) (v : Word) : (e.setReg off v).mov = e.mov := rfl
@[simp] theorem Eng.setReg_twm (e : Eng) (off : Nat) (v : Word) : (e.setReg off v).twm = e.twm := rfl
@[simp] theorem Eng.setReg_pgv (e : Eng) (off : Nat) (v : Word) : (e.setReg off v).pgv = e.pgv := rfl
@[simp] theorem Eng.setReg_legs (e : Eng) (off : Nat) (v : Word) : (e.setReg off v).legs = e.legs := rfl
@[simp] theorem Eng.setReg_failed (e : Eng) (off : Nat) (v : Word) : (e.setReg off v).failed = e.failed := rfl
@[simp] theorem Eng.setReg_out (e : Eng) (off : Nat) (v : Word) : (e.setReg off v).out = e.out := rfl

/-! ## Eng.send -/

@[simp] theorem Eng.send_now (e : Eng) (o : Out) : (e.send o).now = e.now := rfl
@[simp] theorem Eng.send_regs (e : Eng) (o : Out) : (e.send o).regs = e.regs := rfl
@[simp] theorem Eng.send_shadow (e : Eng) (o : Out) : (e.send o).shadow = e.shadow := rfl
@[simp] theorem Eng.send_loStage (e : Eng) (o : Out) : (e.send o).loStage = e.loStage := rfl
@[simp] theorem Eng.send_readData (e : Eng) (o : Out) : (e.send o).readData = e.readData := rfl
@[simp] theorem Eng.send_free (e : Eng) (o : Out) : (e.send o).free = e.free := rfl
@[simp] theorem Eng.send_isl (e : Eng) (o : Out) : (e.send o).isl = e.isl := rfl
@[simp] theorem Eng.send_img (e : Eng) (o : Out) : (e.send o).img = e.img := rfl
@[simp] theorem Eng.send_iml (e : Eng) (o : Out) : (e.send o).iml = e.iml := rfl
@[simp] theorem Eng.send_tel (e : Eng) (o : Out) : (e.send o).tel = e.tel := rfl
@[simp] theorem Eng.send_dbg (e : Eng) (o : Out) : (e.send o).dbg = e.dbg := rfl
@[simp] theorem Eng.send_dir (e : Eng) (o : Out) : (e.send o).dir = e.dir := rfl
@[simp] theorem Eng.send_ing (e : Eng) (o : Out) : (e.send o).ing = e.ing := rfl
@[simp] theorem Eng.send_ldg (e : Eng) (o : Out) : (e.send o).ldg = e.ldg := rfl
@[simp] theorem Eng.send_dln (e : Eng) (o : Out) : (e.send o).dln = e.dln := rfl
@[simp] theorem Eng.send_cmp (e : Eng) (o : Out) : (e.send o).cmp = e.cmp := rfl
@[simp] theorem Eng.send_dsq (e : Eng) (o : Out) : (e.send o).dsq = e.dsq := rfl
@[simp] theorem Eng.send_smp (e : Eng) (o : Out) : (e.send o).smp = e.smp := rfl
@[simp] theorem Eng.send_pln (e : Eng) (o : Out) : (e.send o).pln = e.pln := rfl
@[simp] theorem Eng.send_mov (e : Eng) (o : Out) : (e.send o).mov = e.mov := rfl
@[simp] theorem Eng.send_twm (e : Eng) (o : Out) : (e.send o).twm = e.twm := rfl
@[simp] theorem Eng.send_pgv (e : Eng) (o : Out) : (e.send o).pgv = e.pgv := rfl
@[simp] theorem Eng.send_legs (e : Eng) (o : Out) : (e.send o).legs = e.legs := rfl
@[simp] theorem Eng.send_failed (e : Eng) (o : Out) : (e.send o).failed = e.failed := rfl

/-! ## Eng.sendAll -/

@[simp] theorem Eng.sendAll_now (e : Eng) (l : List Out) : (e.sendAll l).now = e.now := rfl
@[simp] theorem Eng.sendAll_regs (e : Eng) (l : List Out) : (e.sendAll l).regs = e.regs := rfl
@[simp] theorem Eng.sendAll_shadow (e : Eng) (l : List Out) : (e.sendAll l).shadow = e.shadow := rfl
@[simp] theorem Eng.sendAll_loStage (e : Eng) (l : List Out) : (e.sendAll l).loStage = e.loStage := rfl
@[simp] theorem Eng.sendAll_readData (e : Eng) (l : List Out) : (e.sendAll l).readData = e.readData := rfl
@[simp] theorem Eng.sendAll_free (e : Eng) (l : List Out) : (e.sendAll l).free = e.free := rfl
@[simp] theorem Eng.sendAll_isl (e : Eng) (l : List Out) : (e.sendAll l).isl = e.isl := rfl
@[simp] theorem Eng.sendAll_img (e : Eng) (l : List Out) : (e.sendAll l).img = e.img := rfl
@[simp] theorem Eng.sendAll_iml (e : Eng) (l : List Out) : (e.sendAll l).iml = e.iml := rfl
@[simp] theorem Eng.sendAll_tel (e : Eng) (l : List Out) : (e.sendAll l).tel = e.tel := rfl
@[simp] theorem Eng.sendAll_dbg (e : Eng) (l : List Out) : (e.sendAll l).dbg = e.dbg := rfl
@[simp] theorem Eng.sendAll_dir (e : Eng) (l : List Out) : (e.sendAll l).dir = e.dir := rfl
@[simp] theorem Eng.sendAll_ing (e : Eng) (l : List Out) : (e.sendAll l).ing = e.ing := rfl
@[simp] theorem Eng.sendAll_ldg (e : Eng) (l : List Out) : (e.sendAll l).ldg = e.ldg := rfl
@[simp] theorem Eng.sendAll_dln (e : Eng) (l : List Out) : (e.sendAll l).dln = e.dln := rfl
@[simp] theorem Eng.sendAll_cmp (e : Eng) (l : List Out) : (e.sendAll l).cmp = e.cmp := rfl
@[simp] theorem Eng.sendAll_dsq (e : Eng) (l : List Out) : (e.sendAll l).dsq = e.dsq := rfl
@[simp] theorem Eng.sendAll_smp (e : Eng) (l : List Out) : (e.sendAll l).smp = e.smp := rfl
@[simp] theorem Eng.sendAll_pln (e : Eng) (l : List Out) : (e.sendAll l).pln = e.pln := rfl
@[simp] theorem Eng.sendAll_mov (e : Eng) (l : List Out) : (e.sendAll l).mov = e.mov := rfl
@[simp] theorem Eng.sendAll_twm (e : Eng) (l : List Out) : (e.sendAll l).twm = e.twm := rfl
@[simp] theorem Eng.sendAll_pgv (e : Eng) (l : List Out) : (e.sendAll l).pgv = e.pgv := rfl
@[simp] theorem Eng.sendAll_legs (e : Eng) (l : List Out) : (e.sendAll l).legs = e.legs := rfl
@[simp] theorem Eng.sendAll_failed (e : Eng) (l : List Out) : (e.sendAll l).failed = e.failed := rfl

/-! ## Eng.modIml -/

@[simp] theorem Eng.modIml_now (e : Eng) (f : Iml → Iml) : (e.modIml f).now = e.now := rfl
@[simp] theorem Eng.modIml_regs (e : Eng) (f : Iml → Iml) : (e.modIml f).regs = e.regs := rfl
@[simp] theorem Eng.modIml_shadow (e : Eng) (f : Iml → Iml) : (e.modIml f).shadow = e.shadow := rfl
@[simp] theorem Eng.modIml_loStage (e : Eng) (f : Iml → Iml) : (e.modIml f).loStage = e.loStage := rfl
@[simp] theorem Eng.modIml_readData (e : Eng) (f : Iml → Iml) : (e.modIml f).readData = e.readData := rfl
@[simp] theorem Eng.modIml_free (e : Eng) (f : Iml → Iml) : (e.modIml f).free = e.free := rfl
@[simp] theorem Eng.modIml_isl (e : Eng) (f : Iml → Iml) : (e.modIml f).isl = e.isl := rfl
@[simp] theorem Eng.modIml_img (e : Eng) (f : Iml → Iml) : (e.modIml f).img = e.img := rfl
@[simp] theorem Eng.modIml_tel (e : Eng) (f : Iml → Iml) : (e.modIml f).tel = e.tel := rfl
@[simp] theorem Eng.modIml_dbg (e : Eng) (f : Iml → Iml) : (e.modIml f).dbg = e.dbg := rfl
@[simp] theorem Eng.modIml_dir (e : Eng) (f : Iml → Iml) : (e.modIml f).dir = e.dir := rfl
@[simp] theorem Eng.modIml_ing (e : Eng) (f : Iml → Iml) : (e.modIml f).ing = e.ing := rfl
@[simp] theorem Eng.modIml_ldg (e : Eng) (f : Iml → Iml) : (e.modIml f).ldg = e.ldg := rfl
@[simp] theorem Eng.modIml_dln (e : Eng) (f : Iml → Iml) : (e.modIml f).dln = e.dln := rfl
@[simp] theorem Eng.modIml_cmp (e : Eng) (f : Iml → Iml) : (e.modIml f).cmp = e.cmp := rfl
@[simp] theorem Eng.modIml_dsq (e : Eng) (f : Iml → Iml) : (e.modIml f).dsq = e.dsq := rfl
@[simp] theorem Eng.modIml_smp (e : Eng) (f : Iml → Iml) : (e.modIml f).smp = e.smp := rfl
@[simp] theorem Eng.modIml_pln (e : Eng) (f : Iml → Iml) : (e.modIml f).pln = e.pln := rfl
@[simp] theorem Eng.modIml_mov (e : Eng) (f : Iml → Iml) : (e.modIml f).mov = e.mov := rfl
@[simp] theorem Eng.modIml_twm (e : Eng) (f : Iml → Iml) : (e.modIml f).twm = e.twm := rfl
@[simp] theorem Eng.modIml_pgv (e : Eng) (f : Iml → Iml) : (e.modIml f).pgv = e.pgv := rfl
@[simp] theorem Eng.modIml_legs (e : Eng) (f : Iml → Iml) : (e.modIml f).legs = e.legs := rfl
@[simp] theorem Eng.modIml_failed (e : Eng) (f : Iml → Iml) : (e.modIml f).failed = e.failed := rfl
@[simp] theorem Eng.modIml_out (e : Eng) (f : Iml → Iml) : (e.modIml f).out = e.out := rfl

/-! ## Eng.modPgv -/

@[simp] theorem Eng.modPgv_now (e : Eng) (f : Pgv → Pgv) : (e.modPgv f).now = e.now := rfl
@[simp] theorem Eng.modPgv_regs (e : Eng) (f : Pgv → Pgv) : (e.modPgv f).regs = e.regs := rfl
@[simp] theorem Eng.modPgv_shadow (e : Eng) (f : Pgv → Pgv) : (e.modPgv f).shadow = e.shadow := rfl
@[simp] theorem Eng.modPgv_loStage (e : Eng) (f : Pgv → Pgv) : (e.modPgv f).loStage = e.loStage := rfl
@[simp] theorem Eng.modPgv_readData (e : Eng) (f : Pgv → Pgv) : (e.modPgv f).readData = e.readData := rfl
@[simp] theorem Eng.modPgv_free (e : Eng) (f : Pgv → Pgv) : (e.modPgv f).free = e.free := rfl
@[simp] theorem Eng.modPgv_isl (e : Eng) (f : Pgv → Pgv) : (e.modPgv f).isl = e.isl := rfl
@[simp] theorem Eng.modPgv_img (e : Eng) (f : Pgv → Pgv) : (e.modPgv f).img = e.img := rfl
@[simp] theorem Eng.modPgv_iml (e : Eng) (f : Pgv → Pgv) : (e.modPgv f).iml = e.iml := rfl
@[simp] theorem Eng.modPgv_tel (e : Eng) (f : Pgv → Pgv) : (e.modPgv f).tel = e.tel := rfl
@[simp] theorem Eng.modPgv_dbg (e : Eng) (f : Pgv → Pgv) : (e.modPgv f).dbg = e.dbg := rfl
@[simp] theorem Eng.modPgv_dir (e : Eng) (f : Pgv → Pgv) : (e.modPgv f).dir = e.dir := rfl
@[simp] theorem Eng.modPgv_ing (e : Eng) (f : Pgv → Pgv) : (e.modPgv f).ing = e.ing := rfl
@[simp] theorem Eng.modPgv_ldg (e : Eng) (f : Pgv → Pgv) : (e.modPgv f).ldg = e.ldg := rfl
@[simp] theorem Eng.modPgv_dln (e : Eng) (f : Pgv → Pgv) : (e.modPgv f).dln = e.dln := rfl
@[simp] theorem Eng.modPgv_cmp (e : Eng) (f : Pgv → Pgv) : (e.modPgv f).cmp = e.cmp := rfl
@[simp] theorem Eng.modPgv_dsq (e : Eng) (f : Pgv → Pgv) : (e.modPgv f).dsq = e.dsq := rfl
@[simp] theorem Eng.modPgv_smp (e : Eng) (f : Pgv → Pgv) : (e.modPgv f).smp = e.smp := rfl
@[simp] theorem Eng.modPgv_pln (e : Eng) (f : Pgv → Pgv) : (e.modPgv f).pln = e.pln := rfl
@[simp] theorem Eng.modPgv_mov (e : Eng) (f : Pgv → Pgv) : (e.modPgv f).mov = e.mov := rfl
@[simp] theorem Eng.modPgv_twm (e : Eng) (f : Pgv → Pgv) : (e.modPgv f).twm = e.twm := rfl
@[simp] theorem Eng.modPgv_legs (e : Eng) (f : Pgv → Pgv) : (e.modPgv f).legs = e.legs := rfl
@[simp] theorem Eng.modPgv_failed (e : Eng) (f : Pgv → Pgv) : (e.modPgv f).failed = e.failed := rfl
@[simp] theorem Eng.modPgv_out (e : Eng) (f : Pgv → Pgv) : (e.modPgv f).out = e.out := rfl

/-! ## Eng.setLock -/

@[simp] theorem Eng.setLock_now (e : Eng) (l : Lock) : (e.setLock l).now = e.now := rfl
@[simp] theorem Eng.setLock_regs (e : Eng) (l : Lock) : (e.setLock l).regs = e.regs := rfl
@[simp] theorem Eng.setLock_shadow (e : Eng) (l : Lock) : (e.setLock l).shadow = e.shadow := rfl
@[simp] theorem Eng.setLock_loStage (e : Eng) (l : Lock) : (e.setLock l).loStage = e.loStage := rfl
@[simp] theorem Eng.setLock_readData (e : Eng) (l : Lock) : (e.setLock l).readData = e.readData := rfl
@[simp] theorem Eng.setLock_free (e : Eng) (l : Lock) : (e.setLock l).free = e.free := rfl
@[simp] theorem Eng.setLock_isl (e : Eng) (l : Lock) : (e.setLock l).isl = e.isl := rfl
@[simp] theorem Eng.setLock_img (e : Eng) (l : Lock) : (e.setLock l).img = e.img := rfl
@[simp] theorem Eng.setLock_iml (e : Eng) (l : Lock) : (e.setLock l).iml = e.iml := rfl
@[simp] theorem Eng.setLock_tel (e : Eng) (l : Lock) : (e.setLock l).tel = e.tel := rfl
@[simp] theorem Eng.setLock_dir (e : Eng) (l : Lock) : (e.setLock l).dir = e.dir := rfl
@[simp] theorem Eng.setLock_ing (e : Eng) (l : Lock) : (e.setLock l).ing = e.ing := rfl
@[simp] theorem Eng.setLock_ldg (e : Eng) (l : Lock) : (e.setLock l).ldg = e.ldg := rfl
@[simp] theorem Eng.setLock_dln (e : Eng) (l : Lock) : (e.setLock l).dln = e.dln := rfl
@[simp] theorem Eng.setLock_cmp (e : Eng) (l : Lock) : (e.setLock l).cmp = e.cmp := rfl
@[simp] theorem Eng.setLock_dsq (e : Eng) (l : Lock) : (e.setLock l).dsq = e.dsq := rfl
@[simp] theorem Eng.setLock_smp (e : Eng) (l : Lock) : (e.setLock l).smp = e.smp := rfl
@[simp] theorem Eng.setLock_pln (e : Eng) (l : Lock) : (e.setLock l).pln = e.pln := rfl
@[simp] theorem Eng.setLock_mov (e : Eng) (l : Lock) : (e.setLock l).mov = e.mov := rfl
@[simp] theorem Eng.setLock_twm (e : Eng) (l : Lock) : (e.setLock l).twm = e.twm := rfl
@[simp] theorem Eng.setLock_pgv (e : Eng) (l : Lock) : (e.setLock l).pgv = e.pgv := rfl
@[simp] theorem Eng.setLock_legs (e : Eng) (l : Lock) : (e.setLock l).legs = e.legs := rfl
@[simp] theorem Eng.setLock_failed (e : Eng) (l : Lock) : (e.setLock l).failed = e.failed := rfl
@[simp] theorem Eng.setLock_out (e : Eng) (l : Lock) : (e.setLock l).out = e.out := rfl

/-! ## Eng.setTest -/

@[simp] theorem Eng.setTest_now (e : Eng) (t : TestReq) : (e.setTest t).now = e.now := rfl
@[simp] theorem Eng.setTest_regs (e : Eng) (t : TestReq) : (e.setTest t).regs = e.regs := rfl
@[simp] theorem Eng.setTest_shadow (e : Eng) (t : TestReq) : (e.setTest t).shadow = e.shadow := rfl
@[simp] theorem Eng.setTest_loStage (e : Eng) (t : TestReq) : (e.setTest t).loStage = e.loStage := rfl
@[simp] theorem Eng.setTest_readData (e : Eng) (t : TestReq) : (e.setTest t).readData = e.readData := rfl
@[simp] theorem Eng.setTest_free (e : Eng) (t : TestReq) : (e.setTest t).free = e.free := rfl
@[simp] theorem Eng.setTest_isl (e : Eng) (t : TestReq) : (e.setTest t).isl = e.isl := rfl
@[simp] theorem Eng.setTest_img (e : Eng) (t : TestReq) : (e.setTest t).img = e.img := rfl
@[simp] theorem Eng.setTest_iml (e : Eng) (t : TestReq) : (e.setTest t).iml = e.iml := rfl
@[simp] theorem Eng.setTest_tel (e : Eng) (t : TestReq) : (e.setTest t).tel = e.tel := rfl
@[simp] theorem Eng.setTest_dir (e : Eng) (t : TestReq) : (e.setTest t).dir = e.dir := rfl
@[simp] theorem Eng.setTest_ing (e : Eng) (t : TestReq) : (e.setTest t).ing = e.ing := rfl
@[simp] theorem Eng.setTest_ldg (e : Eng) (t : TestReq) : (e.setTest t).ldg = e.ldg := rfl
@[simp] theorem Eng.setTest_dln (e : Eng) (t : TestReq) : (e.setTest t).dln = e.dln := rfl
@[simp] theorem Eng.setTest_cmp (e : Eng) (t : TestReq) : (e.setTest t).cmp = e.cmp := rfl
@[simp] theorem Eng.setTest_dsq (e : Eng) (t : TestReq) : (e.setTest t).dsq = e.dsq := rfl
@[simp] theorem Eng.setTest_smp (e : Eng) (t : TestReq) : (e.setTest t).smp = e.smp := rfl
@[simp] theorem Eng.setTest_pln (e : Eng) (t : TestReq) : (e.setTest t).pln = e.pln := rfl
@[simp] theorem Eng.setTest_mov (e : Eng) (t : TestReq) : (e.setTest t).mov = e.mov := rfl
@[simp] theorem Eng.setTest_twm (e : Eng) (t : TestReq) : (e.setTest t).twm = e.twm := rfl
@[simp] theorem Eng.setTest_pgv (e : Eng) (t : TestReq) : (e.setTest t).pgv = e.pgv := rfl
@[simp] theorem Eng.setTest_legs (e : Eng) (t : TestReq) : (e.setTest t).legs = e.legs := rfl
@[simp] theorem Eng.setTest_failed (e : Eng) (t : TestReq) : (e.setTest t).failed = e.failed := rfl
@[simp] theorem Eng.setTest_out (e : Eng) (t : TestReq) : (e.setTest t).out = e.out := rfl

/-! ## Eng.freeLock -/

@[simp] theorem Eng.freeLock_now (e : Eng) (b : Option Nat) : (e.freeLock b).now = e.now := rfl
@[simp] theorem Eng.freeLock_regs (e : Eng) (b : Option Nat) : (e.freeLock b).regs = e.regs := rfl
@[simp] theorem Eng.freeLock_shadow (e : Eng) (b : Option Nat) : (e.freeLock b).shadow = e.shadow := rfl
@[simp] theorem Eng.freeLock_loStage (e : Eng) (b : Option Nat) : (e.freeLock b).loStage = e.loStage := rfl
@[simp] theorem Eng.freeLock_readData (e : Eng) (b : Option Nat) : (e.freeLock b).readData = e.readData := rfl
@[simp] theorem Eng.freeLock_free (e : Eng) (b : Option Nat) : (e.freeLock b).free = e.free := rfl
@[simp] theorem Eng.freeLock_isl (e : Eng) (b : Option Nat) : (e.freeLock b).isl = e.isl := rfl
@[simp] theorem Eng.freeLock_img (e : Eng) (b : Option Nat) : (e.freeLock b).img = e.img := rfl
@[simp] theorem Eng.freeLock_iml (e : Eng) (b : Option Nat) : (e.freeLock b).iml = e.iml := rfl
@[simp] theorem Eng.freeLock_tel (e : Eng) (b : Option Nat) : (e.freeLock b).tel = e.tel := rfl
@[simp] theorem Eng.freeLock_dir (e : Eng) (b : Option Nat) : (e.freeLock b).dir = e.dir := rfl
@[simp] theorem Eng.freeLock_ing (e : Eng) (b : Option Nat) : (e.freeLock b).ing = e.ing := rfl
@[simp] theorem Eng.freeLock_ldg (e : Eng) (b : Option Nat) : (e.freeLock b).ldg = e.ldg := rfl
@[simp] theorem Eng.freeLock_dln (e : Eng) (b : Option Nat) : (e.freeLock b).dln = e.dln := rfl
@[simp] theorem Eng.freeLock_cmp (e : Eng) (b : Option Nat) : (e.freeLock b).cmp = e.cmp := rfl
@[simp] theorem Eng.freeLock_dsq (e : Eng) (b : Option Nat) : (e.freeLock b).dsq = e.dsq := rfl
@[simp] theorem Eng.freeLock_smp (e : Eng) (b : Option Nat) : (e.freeLock b).smp = e.smp := rfl
@[simp] theorem Eng.freeLock_pln (e : Eng) (b : Option Nat) : (e.freeLock b).pln = e.pln := rfl
@[simp] theorem Eng.freeLock_mov (e : Eng) (b : Option Nat) : (e.freeLock b).mov = e.mov := rfl
@[simp] theorem Eng.freeLock_twm (e : Eng) (b : Option Nat) : (e.freeLock b).twm = e.twm := rfl
@[simp] theorem Eng.freeLock_pgv (e : Eng) (b : Option Nat) : (e.freeLock b).pgv = e.pgv := rfl
@[simp] theorem Eng.freeLock_legs (e : Eng) (b : Option Nat) : (e.freeLock b).legs = e.legs := rfl
@[simp] theorem Eng.freeLock_failed (e : Eng) (b : Option Nat) : (e.freeLock b).failed = e.failed := rfl
@[simp] theorem Eng.freeLock_out (e : Eng) (b : Option Nat) : (e.freeLock b).out = e.out := rfl

/-! ## Eng.setRing -/

@[simp] theorem Eng.setRing_now (e : Eng) (p : Nat) (r : Ring) : (e.setRing p r).now = e.now := rfl
@[simp] theorem Eng.setRing_regs (e : Eng) (p : Nat) (r : Ring) : (e.setRing p r).regs = e.regs := rfl
@[simp] theorem Eng.setRing_shadow (e : Eng) (p : Nat) (r : Ring) : (e.setRing p r).shadow = e.shadow := rfl
@[simp] theorem Eng.setRing_loStage (e : Eng) (p : Nat) (r : Ring) : (e.setRing p r).loStage = e.loStage := rfl
@[simp] theorem Eng.setRing_readData (e : Eng) (p : Nat) (r : Ring) : (e.setRing p r).readData = e.readData := rfl
@[simp] theorem Eng.setRing_free (e : Eng) (p : Nat) (r : Ring) : (e.setRing p r).free = e.free := rfl
@[simp] theorem Eng.setRing_isl (e : Eng) (p : Nat) (r : Ring) : (e.setRing p r).isl = e.isl := rfl
@[simp] theorem Eng.setRing_img (e : Eng) (p : Nat) (r : Ring) : (e.setRing p r).img = e.img := rfl
@[simp] theorem Eng.setRing_iml (e : Eng) (p : Nat) (r : Ring) : (e.setRing p r).iml = e.iml := rfl
@[simp] theorem Eng.setRing_dbg (e : Eng) (p : Nat) (r : Ring) : (e.setRing p r).dbg = e.dbg := rfl
@[simp] theorem Eng.setRing_dir (e : Eng) (p : Nat) (r : Ring) : (e.setRing p r).dir = e.dir := rfl
@[simp] theorem Eng.setRing_ing (e : Eng) (p : Nat) (r : Ring) : (e.setRing p r).ing = e.ing := rfl
@[simp] theorem Eng.setRing_ldg (e : Eng) (p : Nat) (r : Ring) : (e.setRing p r).ldg = e.ldg := rfl
@[simp] theorem Eng.setRing_dln (e : Eng) (p : Nat) (r : Ring) : (e.setRing p r).dln = e.dln := rfl
@[simp] theorem Eng.setRing_cmp (e : Eng) (p : Nat) (r : Ring) : (e.setRing p r).cmp = e.cmp := rfl
@[simp] theorem Eng.setRing_dsq (e : Eng) (p : Nat) (r : Ring) : (e.setRing p r).dsq = e.dsq := rfl
@[simp] theorem Eng.setRing_smp (e : Eng) (p : Nat) (r : Ring) : (e.setRing p r).smp = e.smp := rfl
@[simp] theorem Eng.setRing_pln (e : Eng) (p : Nat) (r : Ring) : (e.setRing p r).pln = e.pln := rfl
@[simp] theorem Eng.setRing_mov (e : Eng) (p : Nat) (r : Ring) : (e.setRing p r).mov = e.mov := rfl
@[simp] theorem Eng.setRing_twm (e : Eng) (p : Nat) (r : Ring) : (e.setRing p r).twm = e.twm := rfl
@[simp] theorem Eng.setRing_pgv (e : Eng) (p : Nat) (r : Ring) : (e.setRing p r).pgv = e.pgv := rfl
@[simp] theorem Eng.setRing_legs (e : Eng) (p : Nat) (r : Ring) : (e.setRing p r).legs = e.legs := rfl
@[simp] theorem Eng.setRing_failed (e : Eng) (p : Nat) (r : Ring) : (e.setRing p r).failed = e.failed := rfl
@[simp] theorem Eng.setRing_out (e : Eng) (p : Nat) (r : Ring) : (e.setRing p r).out = e.out := rfl

/-! ## Eng.setPage -/

@[simp] theorem Eng.setPage_now (e : Eng) (t : Nat) (f : TPage → TPage) : (e.setPage t f).now = e.now := rfl
@[simp] theorem Eng.setPage_regs (e : Eng) (t : Nat) (f : TPage → TPage) : (e.setPage t f).regs = e.regs := rfl
@[simp] theorem Eng.setPage_shadow (e : Eng) (t : Nat) (f : TPage → TPage) : (e.setPage t f).shadow = e.shadow := rfl
@[simp] theorem Eng.setPage_loStage (e : Eng) (t : Nat) (f : TPage → TPage) : (e.setPage t f).loStage = e.loStage := rfl
@[simp] theorem Eng.setPage_readData (e : Eng) (t : Nat) (f : TPage → TPage) : (e.setPage t f).readData = e.readData := rfl
@[simp] theorem Eng.setPage_free (e : Eng) (t : Nat) (f : TPage → TPage) : (e.setPage t f).free = e.free := rfl
@[simp] theorem Eng.setPage_isl (e : Eng) (t : Nat) (f : TPage → TPage) : (e.setPage t f).isl = e.isl := rfl
@[simp] theorem Eng.setPage_img (e : Eng) (t : Nat) (f : TPage → TPage) : (e.setPage t f).img = e.img := rfl
@[simp] theorem Eng.setPage_iml (e : Eng) (t : Nat) (f : TPage → TPage) : (e.setPage t f).iml = e.iml := rfl
@[simp] theorem Eng.setPage_dbg (e : Eng) (t : Nat) (f : TPage → TPage) : (e.setPage t f).dbg = e.dbg := rfl
@[simp] theorem Eng.setPage_dir (e : Eng) (t : Nat) (f : TPage → TPage) : (e.setPage t f).dir = e.dir := rfl
@[simp] theorem Eng.setPage_ing (e : Eng) (t : Nat) (f : TPage → TPage) : (e.setPage t f).ing = e.ing := rfl
@[simp] theorem Eng.setPage_ldg (e : Eng) (t : Nat) (f : TPage → TPage) : (e.setPage t f).ldg = e.ldg := rfl
@[simp] theorem Eng.setPage_dln (e : Eng) (t : Nat) (f : TPage → TPage) : (e.setPage t f).dln = e.dln := rfl
@[simp] theorem Eng.setPage_cmp (e : Eng) (t : Nat) (f : TPage → TPage) : (e.setPage t f).cmp = e.cmp := rfl
@[simp] theorem Eng.setPage_dsq (e : Eng) (t : Nat) (f : TPage → TPage) : (e.setPage t f).dsq = e.dsq := rfl
@[simp] theorem Eng.setPage_smp (e : Eng) (t : Nat) (f : TPage → TPage) : (e.setPage t f).smp = e.smp := rfl
@[simp] theorem Eng.setPage_pln (e : Eng) (t : Nat) (f : TPage → TPage) : (e.setPage t f).pln = e.pln := rfl
@[simp] theorem Eng.setPage_mov (e : Eng) (t : Nat) (f : TPage → TPage) : (e.setPage t f).mov = e.mov := rfl
@[simp] theorem Eng.setPage_twm (e : Eng) (t : Nat) (f : TPage → TPage) : (e.setPage t f).twm = e.twm := rfl
@[simp] theorem Eng.setPage_pgv (e : Eng) (t : Nat) (f : TPage → TPage) : (e.setPage t f).pgv = e.pgv := rfl
@[simp] theorem Eng.setPage_legs (e : Eng) (t : Nat) (f : TPage → TPage) : (e.setPage t f).legs = e.legs := rfl
@[simp] theorem Eng.setPage_failed (e : Eng) (t : Nat) (f : TPage → TPage) : (e.setPage t f).failed = e.failed := rfl
@[simp] theorem Eng.setPage_out (e : Eng) (t : Nat) (f : TPage → TPage) : (e.setPage t f).out = e.out := rfl

/-! ## Eng.setChan -/

@[simp] theorem Eng.setChan_now (e : Eng) (n : Nat) (c : Channel) : (e.setChan n c).now = e.now := rfl
@[simp] theorem Eng.setChan_regs (e : Eng) (n : Nat) (c : Channel) : (e.setChan n c).regs = e.regs := rfl
@[simp] theorem Eng.setChan_shadow (e : Eng) (n : Nat) (c : Channel) : (e.setChan n c).shadow = e.shadow := rfl
@[simp] theorem Eng.setChan_loStage (e : Eng) (n : Nat) (c : Channel) : (e.setChan n c).loStage = e.loStage := rfl
@[simp] theorem Eng.setChan_readData (e : Eng) (n : Nat) (c : Channel) : (e.setChan n c).readData = e.readData := rfl
@[simp] theorem Eng.setChan_free (e : Eng) (n : Nat) (c : Channel) : (e.setChan n c).free = e.free := rfl
@[simp] theorem Eng.setChan_isl (e : Eng) (n : Nat) (c : Channel) : (e.setChan n c).isl = e.isl := rfl
@[simp] theorem Eng.setChan_img (e : Eng) (n : Nat) (c : Channel) : (e.setChan n c).img = e.img := rfl
@[simp] theorem Eng.setChan_iml (e : Eng) (n : Nat) (c : Channel) : (e.setChan n c).iml = e.iml := rfl
@[simp] theorem Eng.setChan_tel (e : Eng) (n : Nat) (c : Channel) : (e.setChan n c).tel = e.tel := rfl
@[simp] theorem Eng.setChan_dbg (e : Eng) (n : Nat) (c : Channel) : (e.setChan n c).dbg = e.dbg := rfl
@[simp] theorem Eng.setChan_dir (e : Eng) (n : Nat) (c : Channel) : (e.setChan n c).dir = e.dir := rfl
@[simp] theorem Eng.setChan_ing (e : Eng) (n : Nat) (c : Channel) : (e.setChan n c).ing = e.ing := rfl
@[simp] theorem Eng.setChan_ldg (e : Eng) (n : Nat) (c : Channel) : (e.setChan n c).ldg = e.ldg := rfl
@[simp] theorem Eng.setChan_dln (e : Eng) (n : Nat) (c : Channel) : (e.setChan n c).dln = e.dln := rfl
@[simp] theorem Eng.setChan_cmp (e : Eng) (n : Nat) (c : Channel) : (e.setChan n c).cmp = e.cmp := rfl
@[simp] theorem Eng.setChan_dsq (e : Eng) (n : Nat) (c : Channel) : (e.setChan n c).dsq = e.dsq := rfl
@[simp] theorem Eng.setChan_smp (e : Eng) (n : Nat) (c : Channel) : (e.setChan n c).smp = e.smp := rfl
@[simp] theorem Eng.setChan_pln (e : Eng) (n : Nat) (c : Channel) : (e.setChan n c).pln = e.pln := rfl
@[simp] theorem Eng.setChan_twm (e : Eng) (n : Nat) (c : Channel) : (e.setChan n c).twm = e.twm := rfl
@[simp] theorem Eng.setChan_pgv (e : Eng) (n : Nat) (c : Channel) : (e.setChan n c).pgv = e.pgv := rfl
@[simp] theorem Eng.setChan_legs (e : Eng) (n : Nat) (c : Channel) : (e.setChan n c).legs = e.legs := rfl
@[simp] theorem Eng.setChan_failed (e : Eng) (n : Nat) (c : Channel) : (e.setChan n c).failed = e.failed := rfl
@[simp] theorem Eng.setChan_out (e : Eng) (n : Nat) (c : Channel) : (e.setChan n c).out = e.out := rfl

/-! ## Eng.setTgt -/

@[simp] theorem Eng.setTgt_now (e : Eng) (t : Nat) (x : Target) : (e.setTgt t x).now = e.now := rfl
@[simp] theorem Eng.setTgt_regs (e : Eng) (t : Nat) (x : Target) : (e.setTgt t x).regs = e.regs := rfl
@[simp] theorem Eng.setTgt_shadow (e : Eng) (t : Nat) (x : Target) : (e.setTgt t x).shadow = e.shadow := rfl
@[simp] theorem Eng.setTgt_loStage (e : Eng) (t : Nat) (x : Target) : (e.setTgt t x).loStage = e.loStage := rfl
@[simp] theorem Eng.setTgt_readData (e : Eng) (t : Nat) (x : Target) : (e.setTgt t x).readData = e.readData := rfl
@[simp] theorem Eng.setTgt_free (e : Eng) (t : Nat) (x : Target) : (e.setTgt t x).free = e.free := rfl
@[simp] theorem Eng.setTgt_isl (e : Eng) (t : Nat) (x : Target) : (e.setTgt t x).isl = e.isl := rfl
@[simp] theorem Eng.setTgt_img (e : Eng) (t : Nat) (x : Target) : (e.setTgt t x).img = e.img := rfl
@[simp] theorem Eng.setTgt_iml (e : Eng) (t : Nat) (x : Target) : (e.setTgt t x).iml = e.iml := rfl
@[simp] theorem Eng.setTgt_tel (e : Eng) (t : Nat) (x : Target) : (e.setTgt t x).tel = e.tel := rfl
@[simp] theorem Eng.setTgt_dbg (e : Eng) (t : Nat) (x : Target) : (e.setTgt t x).dbg = e.dbg := rfl
@[simp] theorem Eng.setTgt_dir (e : Eng) (t : Nat) (x : Target) : (e.setTgt t x).dir = e.dir := rfl
@[simp] theorem Eng.setTgt_ing (e : Eng) (t : Nat) (x : Target) : (e.setTgt t x).ing = e.ing := rfl
@[simp] theorem Eng.setTgt_ldg (e : Eng) (t : Nat) (x : Target) : (e.setTgt t x).ldg = e.ldg := rfl
@[simp] theorem Eng.setTgt_dln (e : Eng) (t : Nat) (x : Target) : (e.setTgt t x).dln = e.dln := rfl
@[simp] theorem Eng.setTgt_cmp (e : Eng) (t : Nat) (x : Target) : (e.setTgt t x).cmp = e.cmp := rfl
@[simp] theorem Eng.setTgt_dsq (e : Eng) (t : Nat) (x : Target) : (e.setTgt t x).dsq = e.dsq := rfl
@[simp] theorem Eng.setTgt_smp (e : Eng) (t : Nat) (x : Target) : (e.setTgt t x).smp = e.smp := rfl
@[simp] theorem Eng.setTgt_mov (e : Eng) (t : Nat) (x : Target) : (e.setTgt t x).mov = e.mov := rfl
@[simp] theorem Eng.setTgt_twm (e : Eng) (t : Nat) (x : Target) : (e.setTgt t x).twm = e.twm := rfl
@[simp] theorem Eng.setTgt_pgv (e : Eng) (t : Nat) (x : Target) : (e.setTgt t x).pgv = e.pgv := rfl
@[simp] theorem Eng.setTgt_legs (e : Eng) (t : Nat) (x : Target) : (e.setTgt t x).legs = e.legs := rfl
@[simp] theorem Eng.setTgt_failed (e : Eng) (t : Nat) (x : Target) : (e.setTgt t x).failed = e.failed := rfl
@[simp] theorem Eng.setTgt_out (e : Eng) (t : Nat) (x : Target) : (e.setTgt t x).out = e.out := rfl

/-! ## Eng.setRec -/

@[simp] theorem Eng.setRec_now (e : Eng) (r : ChipRec) : (e.setRec r).now = e.now := rfl
@[simp] theorem Eng.setRec_regs (e : Eng) (r : ChipRec) : (e.setRec r).regs = e.regs := rfl
@[simp] theorem Eng.setRec_shadow (e : Eng) (r : ChipRec) : (e.setRec r).shadow = e.shadow := rfl
@[simp] theorem Eng.setRec_loStage (e : Eng) (r : ChipRec) : (e.setRec r).loStage = e.loStage := rfl
@[simp] theorem Eng.setRec_readData (e : Eng) (r : ChipRec) : (e.setRec r).readData = e.readData := rfl
@[simp] theorem Eng.setRec_free (e : Eng) (r : ChipRec) : (e.setRec r).free = e.free := rfl
@[simp] theorem Eng.setRec_isl (e : Eng) (r : ChipRec) : (e.setRec r).isl = e.isl := rfl
@[simp] theorem Eng.setRec_img (e : Eng) (r : ChipRec) : (e.setRec r).img = e.img := rfl
@[simp] theorem Eng.setRec_iml (e : Eng) (r : ChipRec) : (e.setRec r).iml = e.iml := rfl
@[simp] theorem Eng.setRec_tel (e : Eng) (r : ChipRec) : (e.setRec r).tel = e.tel := rfl
@[simp] theorem Eng.setRec_dbg (e : Eng) (r : ChipRec) : (e.setRec r).dbg = e.dbg := rfl
@[simp] theorem Eng.setRec_dir (e : Eng) (r : ChipRec) : (e.setRec r).dir = e.dir := rfl
@[simp] theorem Eng.setRec_ing (e : Eng) (r : ChipRec) : (e.setRec r).ing = e.ing := rfl
@[simp] theorem Eng.setRec_ldg (e : Eng) (r : ChipRec) : (e.setRec r).ldg = e.ldg := rfl
@[simp] theorem Eng.setRec_dln (e : Eng) (r : ChipRec) : (e.setRec r).dln = e.dln := rfl
@[simp] theorem Eng.setRec_cmp (e : Eng) (r : ChipRec) : (e.setRec r).cmp = e.cmp := rfl
@[simp] theorem Eng.setRec_dsq (e : Eng) (r : ChipRec) : (e.setRec r).dsq = e.dsq := rfl
@[simp] theorem Eng.setRec_smp (e : Eng) (r : ChipRec) : (e.setRec r).smp = e.smp := rfl
@[simp] theorem Eng.setRec_mov (e : Eng) (r : ChipRec) : (e.setRec r).mov = e.mov := rfl
@[simp] theorem Eng.setRec_twm (e : Eng) (r : ChipRec) : (e.setRec r).twm = e.twm := rfl
@[simp] theorem Eng.setRec_pgv (e : Eng) (r : ChipRec) : (e.setRec r).pgv = e.pgv := rfl
@[simp] theorem Eng.setRec_legs (e : Eng) (r : ChipRec) : (e.setRec r).legs = e.legs := rfl
@[simp] theorem Eng.setRec_failed (e : Eng) (r : ChipRec) : (e.setRec r).failed = e.failed := rfl
@[simp] theorem Eng.setRec_out (e : Eng) (r : ChipRec) : (e.setRec r).out = e.out := rfl

/-! ## Eng.setLane -/

@[simp] theorem Eng.setLane_now (e : Eng) (n : Nat) (l : Lane) : (e.setLane n l).now = e.now := rfl
@[simp] theorem Eng.setLane_regs (e : Eng) (n : Nat) (l : Lane) : (e.setLane n l).regs = e.regs := rfl
@[simp] theorem Eng.setLane_shadow (e : Eng) (n : Nat) (l : Lane) : (e.setLane n l).shadow = e.shadow := rfl
@[simp] theorem Eng.setLane_loStage (e : Eng) (n : Nat) (l : Lane) : (e.setLane n l).loStage = e.loStage := rfl
@[simp] theorem Eng.setLane_readData (e : Eng) (n : Nat) (l : Lane) : (e.setLane n l).readData = e.readData := rfl
@[simp] theorem Eng.setLane_free (e : Eng) (n : Nat) (l : Lane) : (e.setLane n l).free = e.free := rfl
@[simp] theorem Eng.setLane_isl (e : Eng) (n : Nat) (l : Lane) : (e.setLane n l).isl = e.isl := rfl
@[simp] theorem Eng.setLane_img (e : Eng) (n : Nat) (l : Lane) : (e.setLane n l).img = e.img := rfl
@[simp] theorem Eng.setLane_iml (e : Eng) (n : Nat) (l : Lane) : (e.setLane n l).iml = e.iml := rfl
@[simp] theorem Eng.setLane_tel (e : Eng) (n : Nat) (l : Lane) : (e.setLane n l).tel = e.tel := rfl
@[simp] theorem Eng.setLane_dbg (e : Eng) (n : Nat) (l : Lane) : (e.setLane n l).dbg = e.dbg := rfl
@[simp] theorem Eng.setLane_dir (e : Eng) (n : Nat) (l : Lane) : (e.setLane n l).dir = e.dir := rfl
@[simp] theorem Eng.setLane_ing (e : Eng) (n : Nat) (l : Lane) : (e.setLane n l).ing = e.ing := rfl
@[simp] theorem Eng.setLane_ldg (e : Eng) (n : Nat) (l : Lane) : (e.setLane n l).ldg = e.ldg := rfl
@[simp] theorem Eng.setLane_dln (e : Eng) (n : Nat) (l : Lane) : (e.setLane n l).dln = e.dln := rfl
@[simp] theorem Eng.setLane_cmp (e : Eng) (n : Nat) (l : Lane) : (e.setLane n l).cmp = e.cmp := rfl
@[simp] theorem Eng.setLane_dsq (e : Eng) (n : Nat) (l : Lane) : (e.setLane n l).dsq = e.dsq := rfl
@[simp] theorem Eng.setLane_pln (e : Eng) (n : Nat) (l : Lane) : (e.setLane n l).pln = e.pln := rfl
@[simp] theorem Eng.setLane_mov (e : Eng) (n : Nat) (l : Lane) : (e.setLane n l).mov = e.mov := rfl
@[simp] theorem Eng.setLane_twm (e : Eng) (n : Nat) (l : Lane) : (e.setLane n l).twm = e.twm := rfl
@[simp] theorem Eng.setLane_pgv (e : Eng) (n : Nat) (l : Lane) : (e.setLane n l).pgv = e.pgv := rfl
@[simp] theorem Eng.setLane_legs (e : Eng) (n : Nat) (l : Lane) : (e.setLane n l).legs = e.legs := rfl
@[simp] theorem Eng.setLane_failed (e : Eng) (n : Nat) (l : Lane) : (e.setLane n l).failed = e.failed := rfl
@[simp] theorem Eng.setLane_out (e : Eng) (n : Nat) (l : Lane) : (e.setLane n l).out = e.out := rfl

/-! ## Eng.setPart -/

@[simp] theorem Eng.setPart_now (e : Eng) (p : Nat) (f : Part → Part) : (e.setPart p f).now = e.now := rfl
@[simp] theorem Eng.setPart_regs (e : Eng) (p : Nat) (f : Part → Part) : (e.setPart p f).regs = e.regs := rfl
@[simp] theorem Eng.setPart_shadow (e : Eng) (p : Nat) (f : Part → Part) : (e.setPart p f).shadow = e.shadow := rfl
@[simp] theorem Eng.setPart_loStage (e : Eng) (p : Nat) (f : Part → Part) : (e.setPart p f).loStage = e.loStage := rfl
@[simp] theorem Eng.setPart_readData (e : Eng) (p : Nat) (f : Part → Part) : (e.setPart p f).readData = e.readData := rfl
@[simp] theorem Eng.setPart_free (e : Eng) (p : Nat) (f : Part → Part) : (e.setPart p f).free = e.free := rfl
@[simp] theorem Eng.setPart_isl (e : Eng) (p : Nat) (f : Part → Part) : (e.setPart p f).isl = e.isl := rfl
@[simp] theorem Eng.setPart_img (e : Eng) (p : Nat) (f : Part → Part) : (e.setPart p f).img = e.img := rfl
@[simp] theorem Eng.setPart_iml (e : Eng) (p : Nat) (f : Part → Part) : (e.setPart p f).iml = e.iml := rfl
@[simp] theorem Eng.setPart_tel (e : Eng) (p : Nat) (f : Part → Part) : (e.setPart p f).tel = e.tel := rfl
@[simp] theorem Eng.setPart_dbg (e : Eng) (p : Nat) (f : Part → Part) : (e.setPart p f).dbg = e.dbg := rfl
@[simp] theorem Eng.setPart_dir (e : Eng) (p : Nat) (f : Part → Part) : (e.setPart p f).dir = e.dir := rfl
@[simp] theorem Eng.setPart_ing (e : Eng) (p : Nat) (f : Part → Part) : (e.setPart p f).ing = e.ing := rfl
@[simp] theorem Eng.setPart_ldg (e : Eng) (p : Nat) (f : Part → Part) : (e.setPart p f).ldg = e.ldg := rfl
@[simp] theorem Eng.setPart_dln (e : Eng) (p : Nat) (f : Part → Part) : (e.setPart p f).dln = e.dln := rfl
@[simp] theorem Eng.setPart_cmp (e : Eng) (p : Nat) (f : Part → Part) : (e.setPart p f).cmp = e.cmp := rfl
@[simp] theorem Eng.setPart_smp (e : Eng) (p : Nat) (f : Part → Part) : (e.setPart p f).smp = e.smp := rfl
@[simp] theorem Eng.setPart_pln (e : Eng) (p : Nat) (f : Part → Part) : (e.setPart p f).pln = e.pln := rfl
@[simp] theorem Eng.setPart_mov (e : Eng) (p : Nat) (f : Part → Part) : (e.setPart p f).mov = e.mov := rfl
@[simp] theorem Eng.setPart_twm (e : Eng) (p : Nat) (f : Part → Part) : (e.setPart p f).twm = e.twm := rfl
@[simp] theorem Eng.setPart_pgv (e : Eng) (p : Nat) (f : Part → Part) : (e.setPart p f).pgv = e.pgv := rfl
@[simp] theorem Eng.setPart_legs (e : Eng) (p : Nat) (f : Part → Part) : (e.setPart p f).legs = e.legs := rfl
@[simp] theorem Eng.setPart_failed (e : Eng) (p : Nat) (f : Part → Part) : (e.setPart p f).failed = e.failed := rfl
@[simp] theorem Eng.setPart_out (e : Eng) (p : Nat) (f : Part → Part) : (e.setPart p f).out = e.out := rfl

/-! ## Eng.setGroup -/

@[simp] theorem Eng.setGroup_now (e : Eng) (g : Nat) (f : Group → Group) : (e.setGroup g f).now = e.now := rfl
@[simp] theorem Eng.setGroup_regs (e : Eng) (g : Nat) (f : Group → Group) : (e.setGroup g f).regs = e.regs := rfl
@[simp] theorem Eng.setGroup_shadow (e : Eng) (g : Nat) (f : Group → Group) : (e.setGroup g f).shadow = e.shadow := rfl
@[simp] theorem Eng.setGroup_loStage (e : Eng) (g : Nat) (f : Group → Group) : (e.setGroup g f).loStage = e.loStage := rfl
@[simp] theorem Eng.setGroup_readData (e : Eng) (g : Nat) (f : Group → Group) : (e.setGroup g f).readData = e.readData := rfl
@[simp] theorem Eng.setGroup_free (e : Eng) (g : Nat) (f : Group → Group) : (e.setGroup g f).free = e.free := rfl
@[simp] theorem Eng.setGroup_isl (e : Eng) (g : Nat) (f : Group → Group) : (e.setGroup g f).isl = e.isl := rfl
@[simp] theorem Eng.setGroup_img (e : Eng) (g : Nat) (f : Group → Group) : (e.setGroup g f).img = e.img := rfl
@[simp] theorem Eng.setGroup_iml (e : Eng) (g : Nat) (f : Group → Group) : (e.setGroup g f).iml = e.iml := rfl
@[simp] theorem Eng.setGroup_tel (e : Eng) (g : Nat) (f : Group → Group) : (e.setGroup g f).tel = e.tel := rfl
@[simp] theorem Eng.setGroup_dbg (e : Eng) (g : Nat) (f : Group → Group) : (e.setGroup g f).dbg = e.dbg := rfl
@[simp] theorem Eng.setGroup_dir (e : Eng) (g : Nat) (f : Group → Group) : (e.setGroup g f).dir = e.dir := rfl
@[simp] theorem Eng.setGroup_ing (e : Eng) (g : Nat) (f : Group → Group) : (e.setGroup g f).ing = e.ing := rfl
@[simp] theorem Eng.setGroup_ldg (e : Eng) (g : Nat) (f : Group → Group) : (e.setGroup g f).ldg = e.ldg := rfl
@[simp] theorem Eng.setGroup_dln (e : Eng) (g : Nat) (f : Group → Group) : (e.setGroup g f).dln = e.dln := rfl
@[simp] theorem Eng.setGroup_cmp (e : Eng) (g : Nat) (f : Group → Group) : (e.setGroup g f).cmp = e.cmp := rfl
@[simp] theorem Eng.setGroup_smp (e : Eng) (g : Nat) (f : Group → Group) : (e.setGroup g f).smp = e.smp := rfl
@[simp] theorem Eng.setGroup_pln (e : Eng) (g : Nat) (f : Group → Group) : (e.setGroup g f).pln = e.pln := rfl
@[simp] theorem Eng.setGroup_mov (e : Eng) (g : Nat) (f : Group → Group) : (e.setGroup g f).mov = e.mov := rfl
@[simp] theorem Eng.setGroup_twm (e : Eng) (g : Nat) (f : Group → Group) : (e.setGroup g f).twm = e.twm := rfl
@[simp] theorem Eng.setGroup_pgv (e : Eng) (g : Nat) (f : Group → Group) : (e.setGroup g f).pgv = e.pgv := rfl
@[simp] theorem Eng.setGroup_legs (e : Eng) (g : Nat) (f : Group → Group) : (e.setGroup g f).legs = e.legs := rfl
@[simp] theorem Eng.setGroup_failed (e : Eng) (g : Nat) (f : Group → Group) : (e.setGroup g f).failed = e.failed := rfl
@[simp] theorem Eng.setGroup_out (e : Eng) (g : Nat) (f : Group → Group) : (e.setGroup g f).out = e.out := rfl

/-! ## Eng.setEmit -/

@[simp] theorem Eng.setEmit_now (e : Eng) (t : Nat) (x : Emit) : (e.setEmit t x).now = e.now := rfl
@[simp] theorem Eng.setEmit_regs (e : Eng) (t : Nat) (x : Emit) : (e.setEmit t x).regs = e.regs := rfl
@[simp] theorem Eng.setEmit_shadow (e : Eng) (t : Nat) (x : Emit) : (e.setEmit t x).shadow = e.shadow := rfl
@[simp] theorem Eng.setEmit_loStage (e : Eng) (t : Nat) (x : Emit) : (e.setEmit t x).loStage = e.loStage := rfl
@[simp] theorem Eng.setEmit_readData (e : Eng) (t : Nat) (x : Emit) : (e.setEmit t x).readData = e.readData := rfl
@[simp] theorem Eng.setEmit_free (e : Eng) (t : Nat) (x : Emit) : (e.setEmit t x).free = e.free := rfl
@[simp] theorem Eng.setEmit_isl (e : Eng) (t : Nat) (x : Emit) : (e.setEmit t x).isl = e.isl := rfl
@[simp] theorem Eng.setEmit_img (e : Eng) (t : Nat) (x : Emit) : (e.setEmit t x).img = e.img := rfl
@[simp] theorem Eng.setEmit_iml (e : Eng) (t : Nat) (x : Emit) : (e.setEmit t x).iml = e.iml := rfl
@[simp] theorem Eng.setEmit_tel (e : Eng) (t : Nat) (x : Emit) : (e.setEmit t x).tel = e.tel := rfl
@[simp] theorem Eng.setEmit_dbg (e : Eng) (t : Nat) (x : Emit) : (e.setEmit t x).dbg = e.dbg := rfl
@[simp] theorem Eng.setEmit_dir (e : Eng) (t : Nat) (x : Emit) : (e.setEmit t x).dir = e.dir := rfl
@[simp] theorem Eng.setEmit_ing (e : Eng) (t : Nat) (x : Emit) : (e.setEmit t x).ing = e.ing := rfl
@[simp] theorem Eng.setEmit_ldg (e : Eng) (t : Nat) (x : Emit) : (e.setEmit t x).ldg = e.ldg := rfl
@[simp] theorem Eng.setEmit_dln (e : Eng) (t : Nat) (x : Emit) : (e.setEmit t x).dln = e.dln := rfl
@[simp] theorem Eng.setEmit_cmp (e : Eng) (t : Nat) (x : Emit) : (e.setEmit t x).cmp = e.cmp := rfl
@[simp] theorem Eng.setEmit_dsq (e : Eng) (t : Nat) (x : Emit) : (e.setEmit t x).dsq = e.dsq := rfl
@[simp] theorem Eng.setEmit_smp (e : Eng) (t : Nat) (x : Emit) : (e.setEmit t x).smp = e.smp := rfl
@[simp] theorem Eng.setEmit_pln (e : Eng) (t : Nat) (x : Emit) : (e.setEmit t x).pln = e.pln := rfl
@[simp] theorem Eng.setEmit_mov (e : Eng) (t : Nat) (x : Emit) : (e.setEmit t x).mov = e.mov := rfl
@[simp] theorem Eng.setEmit_pgv (e : Eng) (t : Nat) (x : Emit) : (e.setEmit t x).pgv = e.pgv := rfl
@[simp] theorem Eng.setEmit_legs (e : Eng) (t : Nat) (x : Emit) : (e.setEmit t x).legs = e.legs := rfl
@[simp] theorem Eng.setEmit_failed (e : Eng) (t : Nat) (x : Emit) : (e.setEmit t x).failed = e.failed := rfl
@[simp] theorem Eng.setEmit_out (e : Eng) (t : Nat) (x : Emit) : (e.setEmit t x).out = e.out := rfl

/-! ## Eng.setWin -/

@[simp] theorem Eng.setWin_now (e : Eng) (p : Nat) (w : Win) : (e.setWin p w).now = e.now := rfl
@[simp] theorem Eng.setWin_regs (e : Eng) (p : Nat) (w : Win) : (e.setWin p w).regs = e.regs := rfl
@[simp] theorem Eng.setWin_shadow (e : Eng) (p : Nat) (w : Win) : (e.setWin p w).shadow = e.shadow := rfl
@[simp] theorem Eng.setWin_loStage (e : Eng) (p : Nat) (w : Win) : (e.setWin p w).loStage = e.loStage := rfl
@[simp] theorem Eng.setWin_readData (e : Eng) (p : Nat) (w : Win) : (e.setWin p w).readData = e.readData := rfl
@[simp] theorem Eng.setWin_free (e : Eng) (p : Nat) (w : Win) : (e.setWin p w).free = e.free := rfl
@[simp] theorem Eng.setWin_isl (e : Eng) (p : Nat) (w : Win) : (e.setWin p w).isl = e.isl := rfl
@[simp] theorem Eng.setWin_img (e : Eng) (p : Nat) (w : Win) : (e.setWin p w).img = e.img := rfl
@[simp] theorem Eng.setWin_iml (e : Eng) (p : Nat) (w : Win) : (e.setWin p w).iml = e.iml := rfl
@[simp] theorem Eng.setWin_tel (e : Eng) (p : Nat) (w : Win) : (e.setWin p w).tel = e.tel := rfl
@[simp] theorem Eng.setWin_dbg (e : Eng) (p : Nat) (w : Win) : (e.setWin p w).dbg = e.dbg := rfl
@[simp] theorem Eng.setWin_dir (e : Eng) (p : Nat) (w : Win) : (e.setWin p w).dir = e.dir := rfl
@[simp] theorem Eng.setWin_ldg (e : Eng) (p : Nat) (w : Win) : (e.setWin p w).ldg = e.ldg := rfl
@[simp] theorem Eng.setWin_dln (e : Eng) (p : Nat) (w : Win) : (e.setWin p w).dln = e.dln := rfl
@[simp] theorem Eng.setWin_cmp (e : Eng) (p : Nat) (w : Win) : (e.setWin p w).cmp = e.cmp := rfl
@[simp] theorem Eng.setWin_dsq (e : Eng) (p : Nat) (w : Win) : (e.setWin p w).dsq = e.dsq := rfl
@[simp] theorem Eng.setWin_smp (e : Eng) (p : Nat) (w : Win) : (e.setWin p w).smp = e.smp := rfl
@[simp] theorem Eng.setWin_pln (e : Eng) (p : Nat) (w : Win) : (e.setWin p w).pln = e.pln := rfl
@[simp] theorem Eng.setWin_mov (e : Eng) (p : Nat) (w : Win) : (e.setWin p w).mov = e.mov := rfl
@[simp] theorem Eng.setWin_twm (e : Eng) (p : Nat) (w : Win) : (e.setWin p w).twm = e.twm := rfl
@[simp] theorem Eng.setWin_pgv (e : Eng) (p : Nat) (w : Win) : (e.setWin p w).pgv = e.pgv := rfl
@[simp] theorem Eng.setWin_legs (e : Eng) (p : Nat) (w : Win) : (e.setWin p w).legs = e.legs := rfl
@[simp] theorem Eng.setWin_failed (e : Eng) (p : Nat) (w : Win) : (e.setWin p w).failed = e.failed := rfl
@[simp] theorem Eng.setWin_out (e : Eng) (p : Nat) (w : Win) : (e.setWin p w).out = e.out := rfl

/-! ## Eng.setTst -/

@[simp] theorem Eng.setTst_now (e : Eng) (t : Nat) (x : TenantSt) : (e.setTst t x).now = e.now := rfl
@[simp] theorem Eng.setTst_regs (e : Eng) (t : Nat) (x : TenantSt) : (e.setTst t x).regs = e.regs := rfl
@[simp] theorem Eng.setTst_shadow (e : Eng) (t : Nat) (x : TenantSt) : (e.setTst t x).shadow = e.shadow := rfl
@[simp] theorem Eng.setTst_loStage (e : Eng) (t : Nat) (x : TenantSt) : (e.setTst t x).loStage = e.loStage := rfl
@[simp] theorem Eng.setTst_readData (e : Eng) (t : Nat) (x : TenantSt) : (e.setTst t x).readData = e.readData := rfl
@[simp] theorem Eng.setTst_free (e : Eng) (t : Nat) (x : TenantSt) : (e.setTst t x).free = e.free := rfl
@[simp] theorem Eng.setTst_isl (e : Eng) (t : Nat) (x : TenantSt) : (e.setTst t x).isl = e.isl := rfl
@[simp] theorem Eng.setTst_img (e : Eng) (t : Nat) (x : TenantSt) : (e.setTst t x).img = e.img := rfl
@[simp] theorem Eng.setTst_iml (e : Eng) (t : Nat) (x : TenantSt) : (e.setTst t x).iml = e.iml := rfl
@[simp] theorem Eng.setTst_tel (e : Eng) (t : Nat) (x : TenantSt) : (e.setTst t x).tel = e.tel := rfl
@[simp] theorem Eng.setTst_dbg (e : Eng) (t : Nat) (x : TenantSt) : (e.setTst t x).dbg = e.dbg := rfl
@[simp] theorem Eng.setTst_dir (e : Eng) (t : Nat) (x : TenantSt) : (e.setTst t x).dir = e.dir := rfl
@[simp] theorem Eng.setTst_ing (e : Eng) (t : Nat) (x : TenantSt) : (e.setTst t x).ing = e.ing := rfl
@[simp] theorem Eng.setTst_dln (e : Eng) (t : Nat) (x : TenantSt) : (e.setTst t x).dln = e.dln := rfl
@[simp] theorem Eng.setTst_cmp (e : Eng) (t : Nat) (x : TenantSt) : (e.setTst t x).cmp = e.cmp := rfl
@[simp] theorem Eng.setTst_dsq (e : Eng) (t : Nat) (x : TenantSt) : (e.setTst t x).dsq = e.dsq := rfl
@[simp] theorem Eng.setTst_smp (e : Eng) (t : Nat) (x : TenantSt) : (e.setTst t x).smp = e.smp := rfl
@[simp] theorem Eng.setTst_pln (e : Eng) (t : Nat) (x : TenantSt) : (e.setTst t x).pln = e.pln := rfl
@[simp] theorem Eng.setTst_mov (e : Eng) (t : Nat) (x : TenantSt) : (e.setTst t x).mov = e.mov := rfl
@[simp] theorem Eng.setTst_twm (e : Eng) (t : Nat) (x : TenantSt) : (e.setTst t x).twm = e.twm := rfl
@[simp] theorem Eng.setTst_pgv (e : Eng) (t : Nat) (x : TenantSt) : (e.setTst t x).pgv = e.pgv := rfl
@[simp] theorem Eng.setTst_legs (e : Eng) (t : Nat) (x : TenantSt) : (e.setTst t x).legs = e.legs := rfl
@[simp] theorem Eng.setTst_failed (e : Eng) (t : Nat) (x : TenantSt) : (e.setTst t x).failed = e.failed := rfl
@[simp] theorem Eng.setTst_out (e : Eng) (t : Nat) (x : TenantSt) : (e.setTst t x).out = e.out := rfl

/-! ## Eng.dropSlice -/

@[simp] theorem Eng.dropSlice_now (e : Eng) (n : Nat) : (e.dropSlice n).now = e.now := rfl
@[simp] theorem Eng.dropSlice_regs (e : Eng) (n : Nat) : (e.dropSlice n).regs = e.regs := rfl
@[simp] theorem Eng.dropSlice_shadow (e : Eng) (n : Nat) : (e.dropSlice n).shadow = e.shadow := rfl
@[simp] theorem Eng.dropSlice_loStage (e : Eng) (n : Nat) : (e.dropSlice n).loStage = e.loStage := rfl
@[simp] theorem Eng.dropSlice_readData (e : Eng) (n : Nat) : (e.dropSlice n).readData = e.readData := rfl
@[simp] theorem Eng.dropSlice_free (e : Eng) (n : Nat) : (e.dropSlice n).free = e.free := rfl
@[simp] theorem Eng.dropSlice_isl (e : Eng) (n : Nat) : (e.dropSlice n).isl = e.isl := rfl
@[simp] theorem Eng.dropSlice_img (e : Eng) (n : Nat) : (e.dropSlice n).img = e.img := rfl
@[simp] theorem Eng.dropSlice_iml (e : Eng) (n : Nat) : (e.dropSlice n).iml = e.iml := rfl
@[simp] theorem Eng.dropSlice_tel (e : Eng) (n : Nat) : (e.dropSlice n).tel = e.tel := rfl
@[simp] theorem Eng.dropSlice_dbg (e : Eng) (n : Nat) : (e.dropSlice n).dbg = e.dbg := rfl
@[simp] theorem Eng.dropSlice_ing (e : Eng) (n : Nat) : (e.dropSlice n).ing = e.ing := rfl
@[simp] theorem Eng.dropSlice_ldg (e : Eng) (n : Nat) : (e.dropSlice n).ldg = e.ldg := rfl
@[simp] theorem Eng.dropSlice_dln (e : Eng) (n : Nat) : (e.dropSlice n).dln = e.dln := rfl
@[simp] theorem Eng.dropSlice_cmp (e : Eng) (n : Nat) : (e.dropSlice n).cmp = e.cmp := rfl
@[simp] theorem Eng.dropSlice_dsq (e : Eng) (n : Nat) : (e.dropSlice n).dsq = e.dsq := rfl
@[simp] theorem Eng.dropSlice_smp (e : Eng) (n : Nat) : (e.dropSlice n).smp = e.smp := rfl
@[simp] theorem Eng.dropSlice_pln (e : Eng) (n : Nat) : (e.dropSlice n).pln = e.pln := rfl
@[simp] theorem Eng.dropSlice_mov (e : Eng) (n : Nat) : (e.dropSlice n).mov = e.mov := rfl
@[simp] theorem Eng.dropSlice_twm (e : Eng) (n : Nat) : (e.dropSlice n).twm = e.twm := rfl
@[simp] theorem Eng.dropSlice_pgv (e : Eng) (n : Nat) : (e.dropSlice n).pgv = e.pgv := rfl
@[simp] theorem Eng.dropSlice_legs (e : Eng) (n : Nat) : (e.dropSlice n).legs = e.legs := rfl
@[simp] theorem Eng.dropSlice_failed (e : Eng) (n : Nat) : (e.dropSlice n).failed = e.failed := rfl
@[simp] theorem Eng.dropSlice_out (e : Eng) (n : Nat) : (e.dropSlice n).out = e.out := rfl

/-! ## Eng.legIn -/

@[simp] theorem Eng.legIn_now (e : Eng) (l : Leg) : (e.legIn l).now = e.now := rfl
@[simp] theorem Eng.legIn_regs (e : Eng) (l : Leg) : (e.legIn l).regs = e.regs := rfl
@[simp] theorem Eng.legIn_shadow (e : Eng) (l : Leg) : (e.legIn l).shadow = e.shadow := rfl
@[simp] theorem Eng.legIn_loStage (e : Eng) (l : Leg) : (e.legIn l).loStage = e.loStage := rfl
@[simp] theorem Eng.legIn_readData (e : Eng) (l : Leg) : (e.legIn l).readData = e.readData := rfl
@[simp] theorem Eng.legIn_free (e : Eng) (l : Leg) : (e.legIn l).free = e.free := rfl
@[simp] theorem Eng.legIn_isl (e : Eng) (l : Leg) : (e.legIn l).isl = e.isl := rfl
@[simp] theorem Eng.legIn_img (e : Eng) (l : Leg) : (e.legIn l).img = e.img := rfl
@[simp] theorem Eng.legIn_iml (e : Eng) (l : Leg) : (e.legIn l).iml = e.iml := rfl
@[simp] theorem Eng.legIn_tel (e : Eng) (l : Leg) : (e.legIn l).tel = e.tel := rfl
@[simp] theorem Eng.legIn_dbg (e : Eng) (l : Leg) : (e.legIn l).dbg = e.dbg := rfl
@[simp] theorem Eng.legIn_dir (e : Eng) (l : Leg) : (e.legIn l).dir = e.dir := rfl
@[simp] theorem Eng.legIn_ing (e : Eng) (l : Leg) : (e.legIn l).ing = e.ing := rfl
@[simp] theorem Eng.legIn_ldg (e : Eng) (l : Leg) : (e.legIn l).ldg = e.ldg := rfl
@[simp] theorem Eng.legIn_dln (e : Eng) (l : Leg) : (e.legIn l).dln = e.dln := rfl
@[simp] theorem Eng.legIn_cmp (e : Eng) (l : Leg) : (e.legIn l).cmp = e.cmp := rfl
@[simp] theorem Eng.legIn_dsq (e : Eng) (l : Leg) : (e.legIn l).dsq = e.dsq := rfl
@[simp] theorem Eng.legIn_smp (e : Eng) (l : Leg) : (e.legIn l).smp = e.smp := rfl
@[simp] theorem Eng.legIn_pln (e : Eng) (l : Leg) : (e.legIn l).pln = e.pln := rfl
@[simp] theorem Eng.legIn_mov (e : Eng) (l : Leg) : (e.legIn l).mov = e.mov := rfl
@[simp] theorem Eng.legIn_twm (e : Eng) (l : Leg) : (e.legIn l).twm = e.twm := rfl
@[simp] theorem Eng.legIn_pgv (e : Eng) (l : Leg) : (e.legIn l).pgv = e.pgv := rfl
@[simp] theorem Eng.legIn_failed (e : Eng) (l : Leg) : (e.legIn l).failed = e.failed := rfl
@[simp] theorem Eng.legIn_out (e : Eng) (l : Leg) : (e.legIn l).out = e.out := rfl

/-! ### Legs that the engine times -/

@[simp] theorem Eng.noteLegs_now (e : Eng) : e.noteLegs.now = e.now := rfl
@[simp] theorem Eng.noteLegs_regs (e : Eng) : e.noteLegs.regs = e.regs := rfl
@[simp] theorem Eng.noteLegs_shadow (e : Eng) : e.noteLegs.shadow = e.shadow := rfl
@[simp] theorem Eng.noteLegs_loStage (e : Eng) : e.noteLegs.loStage = e.loStage := rfl
@[simp] theorem Eng.noteLegs_readData (e : Eng) : e.noteLegs.readData = e.readData := rfl
@[simp] theorem Eng.noteLegs_free (e : Eng) : e.noteLegs.free = e.free := rfl
@[simp] theorem Eng.noteLegs_isl (e : Eng) : e.noteLegs.isl = e.isl := rfl
@[simp] theorem Eng.noteLegs_img (e : Eng) : e.noteLegs.img = e.img := rfl
@[simp] theorem Eng.noteLegs_iml (e : Eng) : e.noteLegs.iml = e.iml := rfl
@[simp] theorem Eng.noteLegs_tel (e : Eng) : e.noteLegs.tel = e.tel := rfl
@[simp] theorem Eng.noteLegs_dbg (e : Eng) : e.noteLegs.dbg = e.dbg := rfl
@[simp] theorem Eng.noteLegs_dir (e : Eng) : e.noteLegs.dir = e.dir := rfl
@[simp] theorem Eng.noteLegs_ing (e : Eng) : e.noteLegs.ing = e.ing := rfl
@[simp] theorem Eng.noteLegs_ldg (e : Eng) : e.noteLegs.ldg = e.ldg := rfl
@[simp] theorem Eng.noteLegs_dln (e : Eng) : e.noteLegs.dln = e.dln := rfl
@[simp] theorem Eng.noteLegs_cmp (e : Eng) : e.noteLegs.cmp = e.cmp := rfl
@[simp] theorem Eng.noteLegs_dsq (e : Eng) : e.noteLegs.dsq = e.dsq := rfl
@[simp] theorem Eng.noteLegs_smp (e : Eng) : e.noteLegs.smp = e.smp := rfl
@[simp] theorem Eng.noteLegs_pln (e : Eng) : e.noteLegs.pln = e.pln := rfl
@[simp] theorem Eng.noteLegs_mov (e : Eng) : e.noteLegs.mov = e.mov := rfl
@[simp] theorem Eng.noteLegs_twm (e : Eng) : e.noteLegs.twm = e.twm := rfl
@[simp] theorem Eng.noteLegs_pgv (e : Eng) : e.noteLegs.pgv = e.pgv := rfl
@[simp] theorem Eng.noteLegs_failed (e : Eng) : e.noteLegs.failed = e.failed := rfl
@[simp] theorem Eng.noteLegs_out (e : Eng) : e.noteLegs.out = e.out := rfl

end Sys2Proof.Machine
end

