-- ==== Sys2Proof/Laws/Tab.lean ====
section
/-! SUPPORT. Laws of sparse tables: what a read gives after a write, and that every operation keeps the canonical form. -/

namespace Sys2Proof

/-! ## Reading after an insertion -/

@[simp] theorem Tab.get?_nil {α : Type} (k : Nat) : Tab.get? ([] : Tab α) k = none := rfl

@[simp] theorem Tab.get?_put_self {α : Type} (m : Tab α) (k : Nat) (v : α) : Tab.get? (Tab.put m k v) k = some v := by
  induction m with
  | nil => simp [Tab.put, Tab.get?]
  | cons p m ih =>
    obtain ⟨j, w⟩ := p
    unfold Tab.put
    split
    · simp [Tab.get?]
    · split
      · simp [Tab.get?]
      · have h1 : ¬ j = k := fun h => by omega
        have h2 : ¬ k < j := by omega
        simp [Tab.get?, h1, h2, ih]

theorem Tab.get?_put_other {α : Type} (m : Tab α) (k j : Nat) (v : α) (h : j ≠ k) :
    Tab.get? (Tab.put m k v) j = Tab.get? m j := by
  induction m with
  | nil =>
    have h1 : ¬ k = j := fun e => h e.symm
    simp [Tab.put, Tab.get?, h1]
  | cons p m ih =>
    obtain ⟨i, w⟩ := p
    have h1 : ¬ k = j := fun e => h e.symm
    unfold Tab.put
    split
    · simp only [Tab.get?, h1, if_false]
      split
      · split <;> [omega; (split <;> [rfl; omega])]
      · rfl
    · split
      · rename_i h2 h3
        subst h3
        simp [Tab.get?, h1]
      · simp only [Tab.get?, ih]

theorem Tab.get?_put {α : Type} (m : Tab α) (k j : Nat) (v : α) :
    Tab.get? (Tab.put m k v) j = if j = k then some v else Tab.get? m j := by
  split
  · subst_vars; simp
  · exact Tab.get?_put_other m k j v ‹_›

@[simp] theorem Tab.getD_put_self {α : Type} (m : Tab α) (k : Nat) (v d : α) : Tab.getD (Tab.put m k v) k d = v := by
  simp [Tab.getD]

theorem Tab.getD_put_other {α : Type} (m : Tab α) (k j : Nat) (v d : α) (h : j ≠ k) :
    Tab.getD (Tab.put m k v) j d = Tab.getD m j d := by
  simp [Tab.getD, Tab.get?_put_other m k j v h]

/-! ## The canonical form -/

/-- Rising keys above a bound, for any weaker bound. -/
theorem Tab.risingFrom_mono {α : Type} {a b : Nat} {m : Tab α} (h : a ≤ b) (hm : Tab.risingFrom (some b) m = true) :
    Tab.risingFrom (some a) m = true := by
  cases m with
  | nil => rfl
  | cons p m =>
    simp only [Tab.risingFrom, Bool.and_eq_true, decide_eq_true_eq] at hm ⊢
    exact ⟨by omega, hm.2⟩

theorem Tab.wf_cons {α : Type} (j : Nat) (w : α) (m : Tab α) :
    Tab.wf ((j, w) :: m) = Tab.risingFrom (some j) m := rfl

theorem Tab.risingFrom_wf {α : Type} {a : Nat} {m : Tab α} (h : Tab.risingFrom (some a) m = true) : Tab.wf m = true := by
  cases m with
  | nil => rfl
  | cons p m =>
    simp only [Tab.risingFrom, Bool.and_eq_true] at h
    exact h.2

/-- A key at or below the bound is not listed. -/
theorem Tab.get?_risingFrom {α : Type} {a k : Nat} {m : Tab α} (h : Tab.risingFrom (some a) m = true) (hk : k ≤ a) :
    Tab.get? m k = none := by
  cases m with
  | nil => rfl
  | cons p m =>
    obtain ⟨j, w⟩ := p
    simp only [Tab.risingFrom, Bool.and_eq_true, decide_eq_true_eq] at h
    have h1 : ¬ j = k := by omega
    have h2 : k < j := by omega
    simp [Tab.get?, h1, h2]

theorem Tab.risingFrom_put {α : Type} {a k : Nat} {m : Tab α} (v : α) (h : Tab.risingFrom (some a) m = true) (hk : a < k) :
    Tab.risingFrom (some a) (Tab.put m k v) = true := by
  induction m generalizing a with
  | nil => simp [Tab.put, Tab.risingFrom, hk]
  | cons p m ih =>
    obtain ⟨j, w⟩ := p
    simp only [Tab.risingFrom, Bool.and_eq_true, decide_eq_true_eq] at h
    unfold Tab.put
    split
    · simp [Tab.risingFrom, h.2, *]
    · split
      · subst_vars; simp [Tab.risingFrom, hk, h.2]
      · simp only [Tab.risingFrom, Bool.and_eq_true, decide_eq_true_eq]
        exact ⟨h.1, ih h.2 (by omega)⟩

theorem Tab.wf_put {α : Type} {m : Tab α} (k : Nat) (v : α) (h : Tab.wf m = true) : Tab.wf (Tab.put m k v) = true := by
  cases m with
  | nil => rfl
  | cons p m =>
    obtain ⟨j, w⟩ := p
    rw [Tab.wf_cons] at h
    unfold Tab.put
    split
    · simp [Tab.wf_cons, Tab.risingFrom, *]
    · split
      · subst_vars; exact h
      · exact Tab.risingFrom_put v h (by omega)

theorem Tab.risingFrom_del {α : Type} {a : Nat} {m : Tab α} (k : Nat) (h : Tab.risingFrom (some a) m = true) :
    Tab.risingFrom (some a) (Tab.del m k) = true := by
  induction m generalizing a with
  | nil => rfl
  | cons p m ih =>
    obtain ⟨j, w⟩ := p
    have h' := h
    simp only [Tab.risingFrom, Bool.and_eq_true, decide_eq_true_eq] at h
    unfold Tab.del
    split
    · exact Tab.risingFrom_mono (by omega) h.2
    · split
      · exact h'
      · simp only [Tab.risingFrom, Bool.and_eq_true, decide_eq_true_eq]
        exact ⟨h.1, ih h.2⟩

theorem Tab.wf_del {α : Type} {m : Tab α} (k : Nat) (h : Tab.wf m = true) : Tab.wf (Tab.del m k) = true := by
  cases m with
  | nil => rfl
  | cons p m =>
    obtain ⟨j, w⟩ := p
    unfold Tab.del
    split
    · exact Tab.risingFrom_wf h
    · split
      · exact h
      · exact Tab.risingFrom_del k h

theorem Tab.get?_del {α : Type} {m : Tab α} (k j : Nat) (h : Tab.wf m = true) :
    Tab.get? (Tab.del m k) j = if j = k then none else Tab.get? m j := by
  induction m with
  | nil => simp [Tab.del]
  | cons p m ih =>
    obtain ⟨i, w⟩ := p
    rw [Tab.wf_cons] at h
    unfold Tab.del
    split
    · rename_i hik
      subst hik
      by_cases hj : j = i
      · subst hj; simp [Tab.get?_risingFrom h (le_refl _)]
      · have h1 : ¬ i = j := fun e => hj e.symm
        simp only [hj, if_false, Tab.get?, h1]
        split
        · exact Tab.get?_risingFrom h (by omega)
        · rfl
    · split
      · rename_i h1 h2
        by_cases hj : j = k
        · subst hj; simp [Tab.get?, h1, h2]
        · simp [hj]
      · rename_i h1 h2
        simp only [Tab.get?, ih (Tab.risingFrom_wf h)]
        by_cases hj : j = k
        · subst hj; simp [h1, h2]
        · simp [hj]

/-! ## Tables whose unlisted keys read a default -/

theorem Tab.wf_write {α : Type} [DecidableEq α] {m : Tab α} (d : α) (k : Nat) (v : α) (h : Tab.wf m = true) :
    Tab.wf (Tab.write m d k v) = true := by
  unfold Tab.write
  split
  · exact Tab.wf_del k h
  · exact Tab.wf_put k v h

theorem Tab.getD_write_self {α : Type} [DecidableEq α] {m : Tab α} (d : α) (k : Nat) (v : α) (h : Tab.wf m = true) :
    Tab.getD (Tab.write m d k v) k d = v := by
  unfold Tab.write
  split
  · subst_vars; simp [Tab.getD, Tab.get?_del k k h]
  · simp

theorem Tab.getD_write_other {α : Type} [DecidableEq α] {m : Tab α} (d d' : α) (k j : Nat) (v : α) (h : Tab.wf m = true)
    (hj : j ≠ k) : Tab.getD (Tab.write m d k v) j d' = Tab.getD m j d' := by
  unfold Tab.write
  split
  · simp [Tab.getD, Tab.get?_del k j h, hj]
  · exact Tab.getD_put_other m k j v d' hj

theorem Tab.mem_put {α : Type} {m : Tab α} {k : Nat} {v : α} {p : Nat × α} (h : p ∈ Tab.put m k v) :
    p = (k, v) ∨ p ∈ m := by
  induction m with
  | nil => simpa [Tab.put] using h
  | cons q m ih =>
    obtain ⟨j, w⟩ := q
    unfold Tab.put at h
    split at h
    · simpa using h
    · split at h
      · rcases List.mem_cons.mp h with h | h
        · exact .inl h
        · exact .inr (List.mem_cons_of_mem _ h)
      · rcases List.mem_cons.mp h with h | h
        · exact .inr (h ▸ List.mem_cons_self ..)
        · rcases ih h with h | h
          · exact .inl h
          · exact .inr (List.mem_cons_of_mem _ h)

theorem Tab.mem_del {α : Type} {m : Tab α} {k : Nat} {p : Nat × α} (h : p ∈ Tab.del m k) : p ∈ m := by
  induction m with
  | nil => exact h
  | cons q m ih =>
    obtain ⟨j, w⟩ := q
    unfold Tab.del at h
    split at h
    · exact List.mem_cons_of_mem _ h
    · split at h
      · exact h
      · rcases List.mem_cons.mp h with h | h
        · exact h ▸ List.mem_cons_self ..
        · exact List.mem_cons_of_mem _ (ih h)

/-- A write keeps the canonical form: rising keys, the default not listed. -/
theorem Tab.wfD_write {α : Type} [DecidableEq α] {m : Tab α} (d : α) (k : Nat) (v : α) (h : Tab.wfD d m = true) :
    Tab.wfD d (Tab.write m d k v) = true := by
  simp only [Tab.wfD, Bool.and_eq_true, List.all_eq_true, decide_eq_true_eq] at h ⊢
  refine ⟨Tab.wf_write d k v h.1, fun p hp => ?_⟩
  unfold Tab.write at hp
  split at hp
  · exact h.2 p (Tab.mem_del hp)
  · rcases Tab.mem_put hp with rfl | hp
    · assumption
    · exact h.2 p hp

theorem Tab.risingFrom_filter {α : Type} {a : Nat} {m : Tab α} (f : Nat × α → Bool)
    (h : Tab.risingFrom (some a) m = true) : Tab.risingFrom (some a) (m.filter f) = true := by
  induction m generalizing a with
  | nil => rfl
  | cons p m ih =>
    obtain ⟨j, w⟩ := p
    simp only [Tab.risingFrom, Bool.and_eq_true, decide_eq_true_eq] at h
    rw [List.filter_cons]
    split
    · simp only [Tab.risingFrom, Bool.and_eq_true, decide_eq_true_eq]
      exact ⟨h.1, ih h.2⟩
    · exact ih (Tab.risingFrom_mono (by omega) h.2)

theorem Tab.wf_filter {α : Type} {m : Tab α} (f : Nat × α → Bool) (h : Tab.wf m = true) : Tab.wf (m.filter f) = true := by
  induction m with
  | nil => rfl
  | cons p m ih =>
    obtain ⟨j, w⟩ := p
    rw [Tab.wf_cons] at h
    rw [List.filter_cons]
    split
    · exact Tab.risingFrom_filter f h
    · exact ih (Tab.risingFrom_wf h)

theorem Tab.wfD_filter {α : Type} [DecidableEq α] {m : Tab α} (d : α) (f : Nat × α → Bool) (h : Tab.wfD d m = true) :
    Tab.wfD d (m.filter f) = true := by
  simp only [Tab.wfD, Bool.and_eq_true, List.all_eq_true, decide_eq_true_eq] at h ⊢
  exact ⟨Tab.wf_filter f h.1, fun p hp => h.2 p (List.mem_of_mem_filter hp)⟩

end Sys2Proof
end

