-- ==== Sys2Proof/Laws/Ops.lean ====
section
/-! SUPPORT. What the shared operations can do: each law says everything that an operation changes. -/

namespace Sys2Proof.Machine

/-! ## Registers -/

/-- Writing a field is writing its register. -/
theorem Eng.setFld_eq (e : Eng) (off hi lo v : Nat) : e.setFld off hi lo v = e.setReg off (putField (e.reg off) hi lo v) := rfl

/-- A register reads back what was written to it. -/
theorem Eng.reg_setReg_self (e : Eng) (off : Nat) (v : Word) (h : Tab.wf e.regs = true) : (e.setReg off v).reg off = v :=
  Tab.getD_write_self _ off v h

/-- A write of one register leaves every other as it is. -/
theorem Eng.reg_setReg_other (e : Eng) (off o : Nat) (v : Word) (h : Tab.wf e.regs = true) (ho : o ≠ off) :
    (e.setReg off v).reg o = e.reg o :=
  Tab.getD_write_other _ _ off o v h ho

/-- The register file keeps its canonical form. -/
theorem Eng.setReg_wf (e : Eng) (off : Nat) (v : Word) (h : Tab.wf e.regs = true) : Tab.wf (e.setReg off v).regs = true :=
  Tab.wf_write _ off v h

/-! ## Only registers and TEL change -/

/-- `d` differs from `e` in registers and in TEL alone. -/
def OnlyTel (e d : Eng) : Prop := { d with regs := e.regs, tel := e.tel } = e

theorem OnlyTel.refl (e : Eng) : OnlyTel e e := rfl

theorem OnlyTel.trans {a b c : Eng} (h : OnlyTel a b) (k : OnlyTel b c) : OnlyTel a c := by
  unfold OnlyTel at *
  rw [← h, ← k]

theorem OnlyTel.setReg {e d : Eng} (h : OnlyTel e d) (off : Nat) (v : Word) : OnlyTel e (d.setReg off v) := h

theorem OnlyTel.setTel {e d : Eng} (h : OnlyTel e d) (t : Tel) : OnlyTel e { d with tel := t } := h

theorem OnlyTel.bump (e : Eng) (off hi lo n : Nat) : OnlyTel e (e.bump off hi lo n) := rfl

theorem Eng.onlyTel_noteLoss (e : Eng) (p n kind : Nat) : OnlyTel e (e.noteLoss p n kind) := rfl

theorem Eng.onlyTel_count (e : Eng) (i n : Nat) : OnlyTel e (e.count i n) := by
  unfold Eng.count
  dsimp only
  split <;> rfl

/-- An event goes to the queue, or is counted as lost: nothing outside registers and TEL changes. -/
theorem Eng.onlyTel_present (e : Eng) (n : Notice) : OnlyTel e (e.present n) := by
  unfold Eng.present
  split
  · rfl
  · exact ((e.onlyTel_noteLoss _ _ _).trans (OnlyTel.bump _ _ _ _ _)).trans (Eng.onlyTel_count _ _ _)

theorem Eng.onlyTel_raise (e : Eng) (typ prio tag : Nat) (fs : List (Nat × Nat × Nat)) :
    OnlyTel e (e.raise typ prio tag fs) := Eng.onlyTel_present _ _

theorem Eng.onlyTel_raiseOnce (e : Eng) (key typ prio tag : Nat) (fs : List (Nat × Nat × Nat)) :
    OnlyTel e (e.raiseOnce key typ prio tag fs) := by
  unfold Eng.raiseOnce
  split
  · rfl
  · exact ((OnlyTel.refl e).setTel _).trans (Eng.onlyTel_raise _ typ prio tag fs)

theorem Eng.onlyTel_dropTrace (e : Eng) (cause : Nat) : OnlyTel e (e.dropTrace cause) :=
  (((OnlyTel.refl e).setTel _).trans (Eng.onlyTel_count _ 14 1)).trans (Eng.onlyTel_raiseOnce _ _ _ _ _ _)

theorem Eng.onlyTel_pushTrace (e : Eng) (slots : Nat) (r : Bytes) : OnlyTel e (e.pushTrace slots r) := by
  unfold Eng.pushTrace
  extract_lets drop
  split
  · exact Eng.onlyTel_dropTrace _ _
  · rfl

/-- A trace record is sent or dropped: nothing outside registers and TEL changes. -/
theorem Eng.onlyTel_traceAt (e : Eng) (kind island ts : Nat) (fs : List (Nat × Nat × Nat)) :
    OnlyTel e (e.traceAt kind island ts fs) := by
  unfold Eng.traceAt
  split
  · rfl
  · split
    · exact Eng.onlyTel_dropTrace _ _
    · exact Eng.onlyTel_pushTrace _ _ _

theorem Eng.onlyTel_trace (e : Eng) (kind island : Nat) (fs : List (Nat × Nat × Nat)) :
    OnlyTel e (e.trace kind island fs) := Eng.onlyTel_traceAt _ _ _ _ _

/-- A fold of steps that change registers and TEL alone. -/
theorem OnlyTel.fold {α : Type} (f : Eng → α → Eng) (h : ∀ e a, OnlyTel e (f e a)) (l : List α) (e : Eng) :
    OnlyTel e (l.foldl f e) := by
  induction l generalizing e with
  | nil => rfl
  | cons a l ih => exact (h e a).trans (ih _)

theorem Eng.onlyTel_occur (e : Eng) (ev n : Nat) (q : Qual) : OnlyTel e (e.occur ev n q) := by
  refine OnlyTel.fold _ (fun e j => ?_) _ e
  split
  · exact Eng.onlyTel_count _ _ _
  · rfl

theorem Eng.onlyTel_waitEnd (e : Eng) (code island obj since : Nat) : OnlyTel e (e.waitEnd code island obj since) := by
  unfold Eng.waitEnd
  dsimp only
  split
  · exact Eng.onlyTel_occur _ _ _ _
  · exact (Eng.onlyTel_occur _ _ _ _).trans (Eng.onlyTel_traceAt _ _ _ _ _)

theorem OnlyTel.now {e d : Eng} (h : OnlyTel e d) : d.now = e.now := by rw [← h]
theorem OnlyTel.shadow {e d : Eng} (h : OnlyTel e d) : d.shadow = e.shadow := by rw [← h]
theorem OnlyTel.loStage {e d : Eng} (h : OnlyTel e d) : d.loStage = e.loStage := by rw [← h]
theorem OnlyTel.readData {e d : Eng} (h : OnlyTel e d) : d.readData = e.readData := by rw [← h]
theorem OnlyTel.free {e d : Eng} (h : OnlyTel e d) : d.free = e.free := by rw [← h]
theorem OnlyTel.isl {e d : Eng} (h : OnlyTel e d) : d.isl = e.isl := by rw [← h]
theorem OnlyTel.img {e d : Eng} (h : OnlyTel e d) : d.img = e.img := by rw [← h]
theorem OnlyTel.iml {e d : Eng} (h : OnlyTel e d) : d.iml = e.iml := by rw [← h]
theorem OnlyTel.dbg {e d : Eng} (h : OnlyTel e d) : d.dbg = e.dbg := by rw [← h]
theorem OnlyTel.dir {e d : Eng} (h : OnlyTel e d) : d.dir = e.dir := by rw [← h]
theorem OnlyTel.ing {e d : Eng} (h : OnlyTel e d) : d.ing = e.ing := by rw [← h]
theorem OnlyTel.ldg {e d : Eng} (h : OnlyTel e d) : d.ldg = e.ldg := by rw [← h]
theorem OnlyTel.dln {e d : Eng} (h : OnlyTel e d) : d.dln = e.dln := by rw [← h]
theorem OnlyTel.cmp {e d : Eng} (h : OnlyTel e d) : d.cmp = e.cmp := by rw [← h]
theorem OnlyTel.dsq {e d : Eng} (h : OnlyTel e d) : d.dsq = e.dsq := by rw [← h]
theorem OnlyTel.smp {e d : Eng} (h : OnlyTel e d) : d.smp = e.smp := by rw [← h]
theorem OnlyTel.pln {e d : Eng} (h : OnlyTel e d) : d.pln = e.pln := by rw [← h]
theorem OnlyTel.mov {e d : Eng} (h : OnlyTel e d) : d.mov = e.mov := by rw [← h]
theorem OnlyTel.twm {e d : Eng} (h : OnlyTel e d) : d.twm = e.twm := by rw [← h]
theorem OnlyTel.pgv {e d : Eng} (h : OnlyTel e d) : d.pgv = e.pgv := by rw [← h]
theorem OnlyTel.legs {e d : Eng} (h : OnlyTel e d) : d.legs = e.legs := by rw [← h]
theorem OnlyTel.failed {e d : Eng} (h : OnlyTel e d) : d.failed = e.failed := by rw [← h]
theorem OnlyTel.out {e d : Eng} (h : OnlyTel e d) : d.out = e.out := by rw [← h]

/-! ## Eng.present -/

@[simp] theorem Eng.present_now (e : Eng) (n : Notice) : (e.present n).now = e.now :=
  (e.onlyTel_present n).now
@[simp] theorem Eng.present_shadow (e : Eng) (n : Notice) : (e.present n).shadow = e.shadow :=
  (e.onlyTel_present n).shadow
@[simp] theorem Eng.present_loStage (e : Eng) (n : Notice) : (e.present n).loStage = e.loStage :=
  (e.onlyTel_present n).loStage
@[simp] theorem Eng.present_readData (e : Eng) (n : Notice) : (e.present n).readData = e.readData :=
  (e.onlyTel_present n).readData
@[simp] theorem Eng.present_free (e : Eng) (n : Notice) : (e.present n).free = e.free :=
  (e.onlyTel_present n).free
@[simp] theorem Eng.present_isl (e : Eng) (n : Notice) : (e.present n).isl = e.isl :=
  (e.onlyTel_present n).isl
@[simp] theorem Eng.present_img (e : Eng) (n : Notice) : (e.present n).img = e.img :=
  (e.onlyTel_present n).img
@[simp] theorem Eng.present_iml (e : Eng) (n : Notice) : (e.present n).iml = e.iml :=
  (e.onlyTel_present n).iml
@[simp] theorem Eng.present_dbg (e : Eng) (n : Notice) : (e.present n).dbg = e.dbg :=
  (e.onlyTel_present n).dbg
@[simp] theorem Eng.present_dir (e : Eng) (n : Notice) : (e.present n).dir = e.dir :=
  (e.onlyTel_present n).dir
@[simp] theorem Eng.present_ing (e : Eng) (n : Notice) : (e.present n).ing = e.ing :=
  (e.onlyTel_present n).ing
@[simp] theorem Eng.present_ldg (e : Eng) (n : Notice) : (e.present n).ldg = e.ldg :=
  (e.onlyTel_present n).ldg
@[simp] theorem Eng.present_dln (e : Eng) (n : Notice) : (e.present n).dln = e.dln :=
  (e.onlyTel_present n).dln
@[simp] theorem Eng.present_cmp (e : Eng) (n : Notice) : (e.present n).cmp = e.cmp :=
  (e.onlyTel_present n).cmp
@[simp] theorem Eng.present_dsq (e : Eng) (n : Notice) : (e.present n).dsq = e.dsq :=
  (e.onlyTel_present n).dsq
@[simp] theorem Eng.present_smp (e : Eng) (n : Notice) : (e.present n).smp = e.smp :=
  (e.onlyTel_present n).smp
@[simp] theorem Eng.present_pln (e : Eng) (n : Notice) : (e.present n).pln = e.pln :=
  (e.onlyTel_present n).pln
@[simp] theorem Eng.present_mov (e : Eng) (n : Notice) : (e.present n).mov = e.mov :=
  (e.onlyTel_present n).mov
@[simp] theorem Eng.present_twm (e : Eng) (n : Notice) : (e.present n).twm = e.twm :=
  (e.onlyTel_present n).twm
@[simp] theorem Eng.present_pgv (e : Eng) (n : Notice) : (e.present n).pgv = e.pgv :=
  (e.onlyTel_present n).pgv
@[simp] theorem Eng.present_legs (e : Eng) (n : Notice) : (e.present n).legs = e.legs :=
  (e.onlyTel_present n).legs
@[simp] theorem Eng.present_failed (e : Eng) (n : Notice) : (e.present n).failed = e.failed :=
  (e.onlyTel_present n).failed
@[simp] theorem Eng.present_out (e : Eng) (n : Notice) : (e.present n).out = e.out :=
  (e.onlyTel_present n).out

/-! ## Eng.raise -/

@[simp] theorem Eng.raise_now (e : Eng) (typ prio tag : Nat) (fs : List (Nat × Nat × Nat)) : (e.raise typ prio tag fs).now = e.now :=
  (e.onlyTel_raise typ prio tag fs).now
@[simp] theorem Eng.raise_shadow (e : Eng) (typ prio tag : Nat) (fs : List (Nat × Nat × Nat)) : (e.raise typ prio tag fs).shadow = e.shadow :=
  (e.onlyTel_raise typ prio tag fs).shadow
@[simp] theorem Eng.raise_loStage (e : Eng) (typ prio tag : Nat) (fs : List (Nat × Nat × Nat)) : (e.raise typ prio tag fs).loStage = e.loStage :=
  (e.onlyTel_raise typ prio tag fs).loStage
@[simp] theorem Eng.raise_readData (e : Eng) (typ prio tag : Nat) (fs : List (Nat × Nat × Nat)) : (e.raise typ prio tag fs).readData = e.readData :=
  (e.onlyTel_raise typ prio tag fs).readData
@[simp] theorem Eng.raise_free (e : Eng) (typ prio tag : Nat) (fs : List (Nat × Nat × Nat)) : (e.raise typ prio tag fs).free = e.free :=
  (e.onlyTel_raise typ prio tag fs).free
@[simp] theorem Eng.raise_isl (e : Eng) (typ prio tag : Nat) (fs : List (Nat × Nat × Nat)) : (e.raise typ prio tag fs).isl = e.isl :=
  (e.onlyTel_raise typ prio tag fs).isl
@[simp] theorem Eng.raise_img (e : Eng) (typ prio tag : Nat) (fs : List (Nat × Nat × Nat)) : (e.raise typ prio tag fs).img = e.img :=
  (e.onlyTel_raise typ prio tag fs).img
@[simp] theorem Eng.raise_iml (e : Eng) (typ prio tag : Nat) (fs : List (Nat × Nat × Nat)) : (e.raise typ prio tag fs).iml = e.iml :=
  (e.onlyTel_raise typ prio tag fs).iml
@[simp] theorem Eng.raise_dbg (e : Eng) (typ prio tag : Nat) (fs : List (Nat × Nat × Nat)) : (e.raise typ prio tag fs).dbg = e.dbg :=
  (e.onlyTel_raise typ prio tag fs).dbg
@[simp] theorem Eng.raise_dir (e : Eng) (typ prio tag : Nat) (fs : List (Nat × Nat × Nat)) : (e.raise typ prio tag fs).dir = e.dir :=
  (e.onlyTel_raise typ prio tag fs).dir
@[simp] theorem Eng.raise_ing (e : Eng) (typ prio tag : Nat) (fs : List (Nat × Nat × Nat)) : (e.raise typ prio tag fs).ing = e.ing :=
  (e.onlyTel_raise typ prio tag fs).ing
@[simp] theorem Eng.raise_ldg (e : Eng) (typ prio tag : Nat) (fs : List (Nat × Nat × Nat)) : (e.raise typ prio tag fs).ldg = e.ldg :=
  (e.onlyTel_raise typ prio tag fs).ldg
@[simp] theorem Eng.raise_dln (e : Eng) (typ prio tag : Nat) (fs : List (Nat × Nat × Nat)) : (e.raise typ prio tag fs).dln = e.dln :=
  (e.onlyTel_raise typ prio tag fs).dln
@[simp] theorem Eng.raise_cmp (e : Eng) (typ prio tag : Nat) (fs : List (Nat × Nat × Nat)) : (e.raise typ prio tag fs).cmp = e.cmp :=
  (e.onlyTel_raise typ prio tag fs).cmp
@[simp] theorem Eng.raise_dsq (e : Eng) (typ prio tag : Nat) (fs : List (Nat × Nat × Nat)) : (e.raise typ prio tag fs).dsq = e.dsq :=
  (e.onlyTel_raise typ prio tag fs).dsq
@[simp] theorem Eng.raise_smp (e : Eng) (typ prio tag : Nat) (fs : List (Nat × Nat × Nat)) : (e.raise typ prio tag fs).smp = e.smp :=
  (e.onlyTel_raise typ prio tag fs).smp
@[simp] theorem Eng.raise_pln (e : Eng) (typ prio tag : Nat) (fs : List (Nat × Nat × Nat)) : (e.raise typ prio tag fs).pln = e.pln :=
  (e.onlyTel_raise typ prio tag fs).pln
@[simp] theorem Eng.raise_mov (e : Eng) (typ prio tag : Nat) (fs : List (Nat × Nat × Nat)) : (e.raise typ prio tag fs).mov = e.mov :=
  (e.onlyTel_raise typ prio tag fs).mov
@[simp] theorem Eng.raise_twm (e : Eng) (typ prio tag : Nat) (fs : List (Nat × Nat × Nat)) : (e.raise typ prio tag fs).twm = e.twm :=
  (e.onlyTel_raise typ prio tag fs).twm
@[simp] theorem Eng.raise_pgv (e : Eng) (typ prio tag : Nat) (fs : List (Nat × Nat × Nat)) : (e.raise typ prio tag fs).pgv = e.pgv :=
  (e.onlyTel_raise typ prio tag fs).pgv
@[simp] theorem Eng.raise_legs (e : Eng) (typ prio tag : Nat) (fs : List (Nat × Nat × Nat)) : (e.raise typ prio tag fs).legs = e.legs :=
  (e.onlyTel_raise typ prio tag fs).legs
@[simp] theorem Eng.raise_failed (e : Eng) (typ prio tag : Nat) (fs : List (Nat × Nat × Nat)) : (e.raise typ prio tag fs).failed = e.failed :=
  (e.onlyTel_raise typ prio tag fs).failed
@[simp] theorem Eng.raise_out (e : Eng) (typ prio tag : Nat) (fs : List (Nat × Nat × Nat)) : (e.raise typ prio tag fs).out = e.out :=
  (e.onlyTel_raise typ prio tag fs).out

/-! ## Eng.raiseOnce -/

@[simp] theorem Eng.raiseOnce_now (e : Eng) (key typ prio tag : Nat) (fs : List (Nat × Nat × Nat)) : (e.raiseOnce key typ prio tag fs).now = e.now :=
  (e.onlyTel_raiseOnce key typ prio tag fs).now
@[simp] theorem Eng.raiseOnce_shadow (e : Eng) (key typ prio tag : Nat) (fs : List (Nat × Nat × Nat)) : (e.raiseOnce key typ prio tag fs).shadow = e.shadow :=
  (e.onlyTel_raiseOnce key typ prio tag fs).shadow
@[simp] theorem Eng.raiseOnce_loStage (e : Eng) (key typ prio tag : Nat) (fs : List (Nat × Nat × Nat)) : (e.raiseOnce key typ prio tag fs).loStage = e.loStage :=
  (e.onlyTel_raiseOnce key typ prio tag fs).loStage
@[simp] theorem Eng.raiseOnce_readData (e : Eng) (key typ prio tag : Nat) (fs : List (Nat × Nat × Nat)) : (e.raiseOnce key typ prio tag fs).readData = e.readData :=
  (e.onlyTel_raiseOnce key typ prio tag fs).readData
@[simp] theorem Eng.raiseOnce_free (e : Eng) (key typ prio tag : Nat) (fs : List (Nat × Nat × Nat)) : (e.raiseOnce key typ prio tag fs).free = e.free :=
  (e.onlyTel_raiseOnce key typ prio tag fs).free
@[simp] theorem Eng.raiseOnce_isl (e : Eng) (key typ prio tag : Nat) (fs : List (Nat × Nat × Nat)) : (e.raiseOnce key typ prio tag fs).isl = e.isl :=
  (e.onlyTel_raiseOnce key typ prio tag fs).isl
@[simp] theorem Eng.raiseOnce_img (e : Eng) (key typ prio tag : Nat) (fs : List (Nat × Nat × Nat)) : (e.raiseOnce key typ prio tag fs).img = e.img :=
  (e.onlyTel_raiseOnce key typ prio tag fs).img
@[simp] theorem Eng.raiseOnce_iml (e : Eng) (key typ prio tag : Nat) (fs : List (Nat × Nat × Nat)) : (e.raiseOnce key typ prio tag fs).iml = e.iml :=
  (e.onlyTel_raiseOnce key typ prio tag fs).iml
@[simp] theorem Eng.raiseOnce_dbg (e : Eng) (key typ prio tag : Nat) (fs : List (Nat × Nat × Nat)) : (e.raiseOnce key typ prio tag fs).dbg = e.dbg :=
  (e.onlyTel_raiseOnce key typ prio tag fs).dbg
@[simp] theorem Eng.raiseOnce_dir (e : Eng) (key typ prio tag : Nat) (fs : List (Nat × Nat × Nat)) : (e.raiseOnce key typ prio tag fs).dir = e.dir :=
  (e.onlyTel_raiseOnce key typ prio tag fs).dir
@[simp] theorem Eng.raiseOnce_ing (e : Eng) (key typ prio tag : Nat) (fs : List (Nat × Nat × Nat)) : (e.raiseOnce key typ prio tag fs).ing = e.ing :=
  (e.onlyTel_raiseOnce key typ prio tag fs).ing
@[simp] theorem Eng.raiseOnce_ldg (e : Eng) (key typ prio tag : Nat) (fs : List (Nat × Nat × Nat)) : (e.raiseOnce key typ prio tag fs).ldg = e.ldg :=
  (e.onlyTel_raiseOnce key typ prio tag fs).ldg
@[simp] theorem Eng.raiseOnce_dln (e : Eng) (key typ prio tag : Nat) (fs : List (Nat × Nat × Nat)) : (e.raiseOnce key typ prio tag fs).dln = e.dln :=
  (e.onlyTel_raiseOnce key typ prio tag fs).dln
@[simp] theorem Eng.raiseOnce_cmp (e : Eng) (key typ prio tag : Nat) (fs : List (Nat × Nat × Nat)) : (e.raiseOnce key typ prio tag fs).cmp = e.cmp :=
  (e.onlyTel_raiseOnce key typ prio tag fs).cmp
@[simp] theorem Eng.raiseOnce_dsq (e : Eng) (key typ prio tag : Nat) (fs : List (Nat × Nat × Nat)) : (e.raiseOnce key typ prio tag fs).dsq = e.dsq :=
  (e.onlyTel_raiseOnce key typ prio tag fs).dsq
@[simp] theorem Eng.raiseOnce_smp (e : Eng) (key typ prio tag : Nat) (fs : List (Nat × Nat × Nat)) : (e.raiseOnce key typ prio tag fs).smp = e.smp :=
  (e.onlyTel_raiseOnce key typ prio tag fs).smp
@[simp] theorem Eng.raiseOnce_pln (e : Eng) (key typ prio tag : Nat) (fs : List (Nat × Nat × Nat)) : (e.raiseOnce key typ prio tag fs).pln = e.pln :=
  (e.onlyTel_raiseOnce key typ prio tag fs).pln
@[simp] theorem Eng.raiseOnce_mov (e : Eng) (key typ prio tag : Nat) (fs : List (Nat × Nat × Nat)) : (e.raiseOnce key typ prio tag fs).mov = e.mov :=
  (e.onlyTel_raiseOnce key typ prio tag fs).mov
@[simp] theorem Eng.raiseOnce_twm (e : Eng) (key typ prio tag : Nat) (fs : List (Nat × Nat × Nat)) : (e.raiseOnce key typ prio tag fs).twm = e.twm :=
  (e.onlyTel_raiseOnce key typ prio tag fs).twm
@[simp] theorem Eng.raiseOnce_pgv (e : Eng) (key typ prio tag : Nat) (fs : List (Nat × Nat × Nat)) : (e.raiseOnce key typ prio tag fs).pgv = e.pgv :=
  (e.onlyTel_raiseOnce key typ prio tag fs).pgv
@[simp] theorem Eng.raiseOnce_legs (e : Eng) (key typ prio tag : Nat) (fs : List (Nat × Nat × Nat)) : (e.raiseOnce key typ prio tag fs).legs = e.legs :=
  (e.onlyTel_raiseOnce key typ prio tag fs).legs
@[simp] theorem Eng.raiseOnce_failed (e : Eng) (key typ prio tag : Nat) (fs : List (Nat × Nat × Nat)) : (e.raiseOnce key typ prio tag fs).failed = e.failed :=
  (e.onlyTel_raiseOnce key typ prio tag fs).failed
@[simp] theorem Eng.raiseOnce_out (e : Eng) (key typ prio tag : Nat) (fs : List (Nat × Nat × Nat)) : (e.raiseOnce key typ prio tag fs).out = e.out :=
  (e.onlyTel_raiseOnce key typ prio tag fs).out

/-! ## Eng.count -/

@[simp] theorem Eng.count_now (e : Eng) (i n : Nat) : (e.count i n).now = e.now :=
  (e.onlyTel_count i n).now
@[simp] theorem Eng.count_shadow (e : Eng) (i n : Nat) : (e.count i n).shadow = e.shadow :=
  (e.onlyTel_count i n).shadow
@[simp] theorem Eng.count_loStage (e : Eng) (i n : Nat) : (e.count i n).loStage = e.loStage :=
  (e.onlyTel_count i n).loStage
@[simp] theorem Eng.count_readData (e : Eng) (i n : Nat) : (e.count i n).readData = e.readData :=
  (e.onlyTel_count i n).readData
@[simp] theorem Eng.count_free (e : Eng) (i n : Nat) : (e.count i n).free = e.free :=
  (e.onlyTel_count i n).free
@[simp] theorem Eng.count_isl (e : Eng) (i n : Nat) : (e.count i n).isl = e.isl :=
  (e.onlyTel_count i n).isl
@[simp] theorem Eng.count_img (e : Eng) (i n : Nat) : (e.count i n).img = e.img :=
  (e.onlyTel_count i n).img
@[simp] theorem Eng.count_iml (e : Eng) (i n : Nat) : (e.count i n).iml = e.iml :=
  (e.onlyTel_count i n).iml
@[simp] theorem Eng.count_dbg (e : Eng) (i n : Nat) : (e.count i n).dbg = e.dbg :=
  (e.onlyTel_count i n).dbg
@[simp] theorem Eng.count_dir (e : Eng) (i n : Nat) : (e.count i n).dir = e.dir :=
  (e.onlyTel_count i n).dir
@[simp] theorem Eng.count_ing (e : Eng) (i n : Nat) : (e.count i n).ing = e.ing :=
  (e.onlyTel_count i n).ing
@[simp] theorem Eng.count_ldg (e : Eng) (i n : Nat) : (e.count i n).ldg = e.ldg :=
  (e.onlyTel_count i n).ldg
@[simp] theorem Eng.count_dln (e : Eng) (i n : Nat) : (e.count i n).dln = e.dln :=
  (e.onlyTel_count i n).dln
@[simp] theorem Eng.count_cmp (e : Eng) (i n : Nat) : (e.count i n).cmp = e.cmp :=
  (e.onlyTel_count i n).cmp
@[simp] theorem Eng.count_dsq (e : Eng) (i n : Nat) : (e.count i n).dsq = e.dsq :=
  (e.onlyTel_count i n).dsq
@[simp] theorem Eng.count_smp (e : Eng) (i n : Nat) : (e.count i n).smp = e.smp :=
  (e.onlyTel_count i n).smp
@[simp] theorem Eng.count_pln (e : Eng) (i n : Nat) : (e.count i n).pln = e.pln :=
  (e.onlyTel_count i n).pln
@[simp] theorem Eng.count_mov (e : Eng) (i n : Nat) : (e.count i n).mov = e.mov :=
  (e.onlyTel_count i n).mov
@[simp] theorem Eng.count_twm (e : Eng) (i n : Nat) : (e.count i n).twm = e.twm :=
  (e.onlyTel_count i n).twm
@[simp] theorem Eng.count_pgv (e : Eng) (i n : Nat) : (e.count i n).pgv = e.pgv :=
  (e.onlyTel_count i n).pgv
@[simp] theorem Eng.count_legs (e : Eng) (i n : Nat) : (e.count i n).legs = e.legs :=
  (e.onlyTel_count i n).legs
@[simp] theorem Eng.count_failed (e : Eng) (i n : Nat) : (e.count i n).failed = e.failed :=
  (e.onlyTel_count i n).failed
@[simp] theorem Eng.count_out (e : Eng) (i n : Nat) : (e.count i n).out = e.out :=
  (e.onlyTel_count i n).out

/-! ## Eng.occur -/

@[simp] theorem Eng.occur_now (e : Eng) (ev n : Nat) (q : Qual) : (e.occur ev n q).now = e.now :=
  (e.onlyTel_occur ev n q).now
@[simp] theorem Eng.occur_shadow (e : Eng) (ev n : Nat) (q : Qual) : (e.occur ev n q).shadow = e.shadow :=
  (e.onlyTel_occur ev n q).shadow
@[simp] theorem Eng.occur_loStage (e : Eng) (ev n : Nat) (q : Qual) : (e.occur ev n q).loStage = e.loStage :=
  (e.onlyTel_occur ev n q).loStage
@[simp] theorem Eng.occur_readData (e : Eng) (ev n : Nat) (q : Qual) : (e.occur ev n q).readData = e.readData :=
  (e.onlyTel_occur ev n q).readData
@[simp] theorem Eng.occur_free (e : Eng) (ev n : Nat) (q : Qual) : (e.occur ev n q).free = e.free :=
  (e.onlyTel_occur ev n q).free
@[simp] theorem Eng.occur_isl (e : Eng) (ev n : Nat) (q : Qual) : (e.occur ev n q).isl = e.isl :=
  (e.onlyTel_occur ev n q).isl
@[simp] theorem Eng.occur_img (e : Eng) (ev n : Nat) (q : Qual) : (e.occur ev n q).img = e.img :=
  (e.onlyTel_occur ev n q).img
@[simp] theorem Eng.occur_iml (e : Eng) (ev n : Nat) (q : Qual) : (e.occur ev n q).iml = e.iml :=
  (e.onlyTel_occur ev n q).iml
@[simp] theorem Eng.occur_dbg (e : Eng) (ev n : Nat) (q : Qual) : (e.occur ev n q).dbg = e.dbg :=
  (e.onlyTel_occur ev n q).dbg
@[simp] theorem Eng.occur_dir (e : Eng) (ev n : Nat) (q : Qual) : (e.occur ev n q).dir = e.dir :=
  (e.onlyTel_occur ev n q).dir
@[simp] theorem Eng.occur_ing (e : Eng) (ev n : Nat) (q : Qual) : (e.occur ev n q).ing = e.ing :=
  (e.onlyTel_occur ev n q).ing
@[simp] theorem Eng.occur_ldg (e : Eng) (ev n : Nat) (q : Qual) : (e.occur ev n q).ldg = e.ldg :=
  (e.onlyTel_occur ev n q).ldg
@[simp] theorem Eng.occur_dln (e : Eng) (ev n : Nat) (q : Qual) : (e.occur ev n q).dln = e.dln :=
  (e.onlyTel_occur ev n q).dln
@[simp] theorem Eng.occur_cmp (e : Eng) (ev n : Nat) (q : Qual) : (e.occur ev n q).cmp = e.cmp :=
  (e.onlyTel_occur ev n q).cmp
@[simp] theorem Eng.occur_dsq (e : Eng) (ev n : Nat) (q : Qual) : (e.occur ev n q).dsq = e.dsq :=
  (e.onlyTel_occur ev n q).dsq
@[simp] theorem Eng.occur_smp (e : Eng) (ev n : Nat) (q : Qual) : (e.occur ev n q).smp = e.smp :=
  (e.onlyTel_occur ev n q).smp
@[simp] theorem Eng.occur_pln (e : Eng) (ev n : Nat) (q : Qual) : (e.occur ev n q).pln = e.pln :=
  (e.onlyTel_occur ev n q).pln
@[simp] theorem Eng.occur_mov (e : Eng) (ev n : Nat) (q : Qual) : (e.occur ev n q).mov = e.mov :=
  (e.onlyTel_occur ev n q).mov
@[simp] theorem Eng.occur_twm (e : Eng) (ev n : Nat) (q : Qual) : (e.occur ev n q).twm = e.twm :=
  (e.onlyTel_occur ev n q).twm
@[simp] theorem Eng.occur_pgv (e : Eng) (ev n : Nat) (q : Qual) : (e.occur ev n q).pgv = e.pgv :=
  (e.onlyTel_occur ev n q).pgv
@[simp] theorem Eng.occur_legs (e : Eng) (ev n : Nat) (q : Qual) : (e.occur ev n q).legs = e.legs :=
  (e.onlyTel_occur ev n q).legs
@[simp] theorem Eng.occur_failed (e : Eng) (ev n : Nat) (q : Qual) : (e.occur ev n q).failed = e.failed :=
  (e.onlyTel_occur ev n q).failed
@[simp] theorem Eng.occur_out (e : Eng) (ev n : Nat) (q : Qual) : (e.occur ev n q).out = e.out :=
  (e.onlyTel_occur ev n q).out

/-! ## Eng.traceAt -/

@[simp] theorem Eng.traceAt_now (e : Eng) (kind island ts : Nat) (fs : List (Nat × Nat × Nat)) : (e.traceAt kind island ts fs).now = e.now :=
  (e.onlyTel_traceAt kind island ts fs).now
@[simp] theorem Eng.traceAt_shadow (e : Eng) (kind island ts : Nat) (fs : List (Nat × Nat × Nat)) : (e.traceAt kind island ts fs).shadow = e.shadow :=
  (e.onlyTel_traceAt kind island ts fs).shadow
@[simp] theorem Eng.traceAt_loStage (e : Eng) (kind island ts : Nat) (fs : List (Nat × Nat × Nat)) : (e.traceAt kind island ts fs).loStage = e.loStage :=
  (e.onlyTel_traceAt kind island ts fs).loStage
@[simp] theorem Eng.traceAt_readData (e : Eng) (kind island ts : Nat) (fs : List (Nat × Nat × Nat)) : (e.traceAt kind island ts fs).readData = e.readData :=
  (e.onlyTel_traceAt kind island ts fs).readData
@[simp] theorem Eng.traceAt_free (e : Eng) (kind island ts : Nat) (fs : List (Nat × Nat × Nat)) : (e.traceAt kind island ts fs).free = e.free :=
  (e.onlyTel_traceAt kind island ts fs).free
@[simp] theorem Eng.traceAt_isl (e : Eng) (kind island ts : Nat) (fs : List (Nat × Nat × Nat)) : (e.traceAt kind island ts fs).isl = e.isl :=
  (e.onlyTel_traceAt kind island ts fs).isl
@[simp] theorem Eng.traceAt_img (e : Eng) (kind island ts : Nat) (fs : List (Nat × Nat × Nat)) : (e.traceAt kind island ts fs).img = e.img :=
  (e.onlyTel_traceAt kind island ts fs).img
@[simp] theorem Eng.traceAt_iml (e : Eng) (kind island ts : Nat) (fs : List (Nat × Nat × Nat)) : (e.traceAt kind island ts fs).iml = e.iml :=
  (e.onlyTel_traceAt kind island ts fs).iml
@[simp] theorem Eng.traceAt_dbg (e : Eng) (kind island ts : Nat) (fs : List (Nat × Nat × Nat)) : (e.traceAt kind island ts fs).dbg = e.dbg :=
  (e.onlyTel_traceAt kind island ts fs).dbg
@[simp] theorem Eng.traceAt_dir (e : Eng) (kind island ts : Nat) (fs : List (Nat × Nat × Nat)) : (e.traceAt kind island ts fs).dir = e.dir :=
  (e.onlyTel_traceAt kind island ts fs).dir
@[simp] theorem Eng.traceAt_ing (e : Eng) (kind island ts : Nat) (fs : List (Nat × Nat × Nat)) : (e.traceAt kind island ts fs).ing = e.ing :=
  (e.onlyTel_traceAt kind island ts fs).ing
@[simp] theorem Eng.traceAt_ldg (e : Eng) (kind island ts : Nat) (fs : List (Nat × Nat × Nat)) : (e.traceAt kind island ts fs).ldg = e.ldg :=
  (e.onlyTel_traceAt kind island ts fs).ldg
@[simp] theorem Eng.traceAt_dln (e : Eng) (kind island ts : Nat) (fs : List (Nat × Nat × Nat)) : (e.traceAt kind island ts fs).dln = e.dln :=
  (e.onlyTel_traceAt kind island ts fs).dln
@[simp] theorem Eng.traceAt_cmp (e : Eng) (kind island ts : Nat) (fs : List (Nat × Nat × Nat)) : (e.traceAt kind island ts fs).cmp = e.cmp :=
  (e.onlyTel_traceAt kind island ts fs).cmp
@[simp] theorem Eng.traceAt_dsq (e : Eng) (kind island ts : Nat) (fs : List (Nat × Nat × Nat)) : (e.traceAt kind island ts fs).dsq = e.dsq :=
  (e.onlyTel_traceAt kind island ts fs).dsq
@[simp] theorem Eng.traceAt_smp (e : Eng) (kind island ts : Nat) (fs : List (Nat × Nat × Nat)) : (e.traceAt kind island ts fs).smp = e.smp :=
  (e.onlyTel_traceAt kind island ts fs).smp
@[simp] theorem Eng.traceAt_pln (e : Eng) (kind island ts : Nat) (fs : List (Nat × Nat × Nat)) : (e.traceAt kind island ts fs).pln = e.pln :=
  (e.onlyTel_traceAt kind island ts fs).pln
@[simp] theorem Eng.traceAt_mov (e : Eng) (kind island ts : Nat) (fs : List (Nat × Nat × Nat)) : (e.traceAt kind island ts fs).mov = e.mov :=
  (e.onlyTel_traceAt kind island ts fs).mov
@[simp] theorem Eng.traceAt_twm (e : Eng) (kind island ts : Nat) (fs : List (Nat × Nat × Nat)) : (e.traceAt kind island ts fs).twm = e.twm :=
  (e.onlyTel_traceAt kind island ts fs).twm
@[simp] theorem Eng.traceAt_pgv (e : Eng) (kind island ts : Nat) (fs : List (Nat × Nat × Nat)) : (e.traceAt kind island ts fs).pgv = e.pgv :=
  (e.onlyTel_traceAt kind island ts fs).pgv
@[simp] theorem Eng.traceAt_legs (e : Eng) (kind island ts : Nat) (fs : List (Nat × Nat × Nat)) : (e.traceAt kind island ts fs).legs = e.legs :=
  (e.onlyTel_traceAt kind island ts fs).legs
@[simp] theorem Eng.traceAt_failed (e : Eng) (kind island ts : Nat) (fs : List (Nat × Nat × Nat)) : (e.traceAt kind island ts fs).failed = e.failed :=
  (e.onlyTel_traceAt kind island ts fs).failed
@[simp] theorem Eng.traceAt_out (e : Eng) (kind island ts : Nat) (fs : List (Nat × Nat × Nat)) : (e.traceAt kind island ts fs).out = e.out :=
  (e.onlyTel_traceAt kind island ts fs).out

/-! ## Eng.trace -/

@[simp] theorem Eng.trace_now (e : Eng) (kind island : Nat) (fs : List (Nat × Nat × Nat)) : (e.trace kind island fs).now = e.now :=
  (e.onlyTel_trace kind island fs).now
@[simp] theorem Eng.trace_shadow (e : Eng) (kind island : Nat) (fs : List (Nat × Nat × Nat)) : (e.trace kind island fs).shadow = e.shadow :=
  (e.onlyTel_trace kind island fs).shadow
@[simp] theorem Eng.trace_loStage (e : Eng) (kind island : Nat) (fs : List (Nat × Nat × Nat)) : (e.trace kind island fs).loStage = e.loStage :=
  (e.onlyTel_trace kind island fs).loStage
@[simp] theorem Eng.trace_readData (e : Eng) (kind island : Nat) (fs : List (Nat × Nat × Nat)) : (e.trace kind island fs).readData = e.readData :=
  (e.onlyTel_trace kind island fs).readData
@[simp] theorem Eng.trace_free (e : Eng) (kind island : Nat) (fs : List (Nat × Nat × Nat)) : (e.trace kind island fs).free = e.free :=
  (e.onlyTel_trace kind island fs).free
@[simp] theorem Eng.trace_isl (e : Eng) (kind island : Nat) (fs : List (Nat × Nat × Nat)) : (e.trace kind island fs).isl = e.isl :=
  (e.onlyTel_trace kind island fs).isl
@[simp] theorem Eng.trace_img (e : Eng) (kind island : Nat) (fs : List (Nat × Nat × Nat)) : (e.trace kind island fs).img = e.img :=
  (e.onlyTel_trace kind island fs).img
@[simp] theorem Eng.trace_iml (e : Eng) (kind island : Nat) (fs : List (Nat × Nat × Nat)) : (e.trace kind island fs).iml = e.iml :=
  (e.onlyTel_trace kind island fs).iml
@[simp] theorem Eng.trace_dbg (e : Eng) (kind island : Nat) (fs : List (Nat × Nat × Nat)) : (e.trace kind island fs).dbg = e.dbg :=
  (e.onlyTel_trace kind island fs).dbg
@[simp] theorem Eng.trace_dir (e : Eng) (kind island : Nat) (fs : List (Nat × Nat × Nat)) : (e.trace kind island fs).dir = e.dir :=
  (e.onlyTel_trace kind island fs).dir
@[simp] theorem Eng.trace_ing (e : Eng) (kind island : Nat) (fs : List (Nat × Nat × Nat)) : (e.trace kind island fs).ing = e.ing :=
  (e.onlyTel_trace kind island fs).ing
@[simp] theorem Eng.trace_ldg (e : Eng) (kind island : Nat) (fs : List (Nat × Nat × Nat)) : (e.trace kind island fs).ldg = e.ldg :=
  (e.onlyTel_trace kind island fs).ldg
@[simp] theorem Eng.trace_dln (e : Eng) (kind island : Nat) (fs : List (Nat × Nat × Nat)) : (e.trace kind island fs).dln = e.dln :=
  (e.onlyTel_trace kind island fs).dln
@[simp] theorem Eng.trace_cmp (e : Eng) (kind island : Nat) (fs : List (Nat × Nat × Nat)) : (e.trace kind island fs).cmp = e.cmp :=
  (e.onlyTel_trace kind island fs).cmp
@[simp] theorem Eng.trace_dsq (e : Eng) (kind island : Nat) (fs : List (Nat × Nat × Nat)) : (e.trace kind island fs).dsq = e.dsq :=
  (e.onlyTel_trace kind island fs).dsq
@[simp] theorem Eng.trace_smp (e : Eng) (kind island : Nat) (fs : List (Nat × Nat × Nat)) : (e.trace kind island fs).smp = e.smp :=
  (e.onlyTel_trace kind island fs).smp
@[simp] theorem Eng.trace_pln (e : Eng) (kind island : Nat) (fs : List (Nat × Nat × Nat)) : (e.trace kind island fs).pln = e.pln :=
  (e.onlyTel_trace kind island fs).pln
@[simp] theorem Eng.trace_mov (e : Eng) (kind island : Nat) (fs : List (Nat × Nat × Nat)) : (e.trace kind island fs).mov = e.mov :=
  (e.onlyTel_trace kind island fs).mov
@[simp] theorem Eng.trace_twm (e : Eng) (kind island : Nat) (fs : List (Nat × Nat × Nat)) : (e.trace kind island fs).twm = e.twm :=
  (e.onlyTel_trace kind island fs).twm
@[simp] theorem Eng.trace_pgv (e : Eng) (kind island : Nat) (fs : List (Nat × Nat × Nat)) : (e.trace kind island fs).pgv = e.pgv :=
  (e.onlyTel_trace kind island fs).pgv
@[simp] theorem Eng.trace_legs (e : Eng) (kind island : Nat) (fs : List (Nat × Nat × Nat)) : (e.trace kind island fs).legs = e.legs :=
  (e.onlyTel_trace kind island fs).legs
@[simp] theorem Eng.trace_failed (e : Eng) (kind island : Nat) (fs : List (Nat × Nat × Nat)) : (e.trace kind island fs).failed = e.failed :=
  (e.onlyTel_trace kind island fs).failed
@[simp] theorem Eng.trace_out (e : Eng) (kind island : Nat) (fs : List (Nat × Nat × Nat)) : (e.trace kind island fs).out = e.out :=
  (e.onlyTel_trace kind island fs).out

/-! ## Eng.waitEnd -/

@[simp] theorem Eng.waitEnd_now (e : Eng) (code island obj since : Nat) : (e.waitEnd code island obj since).now = e.now :=
  (e.onlyTel_waitEnd code island obj since).now
@[simp] theorem Eng.waitEnd_shadow (e : Eng) (code island obj since : Nat) : (e.waitEnd code island obj since).shadow = e.shadow :=
  (e.onlyTel_waitEnd code island obj since).shadow
@[simp] theorem Eng.waitEnd_loStage (e : Eng) (code island obj since : Nat) : (e.waitEnd code island obj since).loStage = e.loStage :=
  (e.onlyTel_waitEnd code island obj since).loStage
@[simp] theorem Eng.waitEnd_readData (e : Eng) (code island obj since : Nat) : (e.waitEnd code island obj since).readData = e.readData :=
  (e.onlyTel_waitEnd code island obj since).readData
@[simp] theorem Eng.waitEnd_free (e : Eng) (code island obj since : Nat) : (e.waitEnd code island obj since).free = e.free :=
  (e.onlyTel_waitEnd code island obj since).free
@[simp] theorem Eng.waitEnd_isl (e : Eng) (code island obj since : Nat) : (e.waitEnd code island obj since).isl = e.isl :=
  (e.onlyTel_waitEnd code island obj since).isl
@[simp] theorem Eng.waitEnd_img (e : Eng) (code island obj since : Nat) : (e.waitEnd code island obj since).img = e.img :=
  (e.onlyTel_waitEnd code island obj since).img
@[simp] theorem Eng.waitEnd_iml (e : Eng) (code island obj since : Nat) : (e.waitEnd code island obj since).iml = e.iml :=
  (e.onlyTel_waitEnd code island obj since).iml
@[simp] theorem Eng.waitEnd_dbg (e : Eng) (code island obj since : Nat) : (e.waitEnd code island obj since).dbg = e.dbg :=
  (e.onlyTel_waitEnd code island obj since).dbg
@[simp] theorem Eng.waitEnd_dir (e : Eng) (code island obj since : Nat) : (e.waitEnd code island obj since).dir = e.dir :=
  (e.onlyTel_waitEnd code island obj since).dir
@[simp] theorem Eng.waitEnd_ing (e : Eng) (code island obj since : Nat) : (e.waitEnd code island obj since).ing = e.ing :=
  (e.onlyTel_waitEnd code island obj since).ing
@[simp] theorem Eng.waitEnd_ldg (e : Eng) (code island obj since : Nat) : (e.waitEnd code island obj since).ldg = e.ldg :=
  (e.onlyTel_waitEnd code island obj since).ldg
@[simp] theorem Eng.waitEnd_dln (e : Eng) (code island obj since : Nat) : (e.waitEnd code island obj since).dln = e.dln :=
  (e.onlyTel_waitEnd code island obj since).dln
@[simp] theorem Eng.waitEnd_cmp (e : Eng) (code island obj since : Nat) : (e.waitEnd code island obj since).cmp = e.cmp :=
  (e.onlyTel_waitEnd code island obj since).cmp
@[simp] theorem Eng.waitEnd_dsq (e : Eng) (code island obj since : Nat) : (e.waitEnd code island obj since).dsq = e.dsq :=
  (e.onlyTel_waitEnd code island obj since).dsq
@[simp] theorem Eng.waitEnd_smp (e : Eng) (code island obj since : Nat) : (e.waitEnd code island obj since).smp = e.smp :=
  (e.onlyTel_waitEnd code island obj since).smp
@[simp] theorem Eng.waitEnd_pln (e : Eng) (code island obj since : Nat) : (e.waitEnd code island obj since).pln = e.pln :=
  (e.onlyTel_waitEnd code island obj since).pln
@[simp] theorem Eng.waitEnd_mov (e : Eng) (code island obj since : Nat) : (e.waitEnd code island obj since).mov = e.mov :=
  (e.onlyTel_waitEnd code island obj since).mov
@[simp] theorem Eng.waitEnd_twm (e : Eng) (code island obj since : Nat) : (e.waitEnd code island obj since).twm = e.twm :=
  (e.onlyTel_waitEnd code island obj since).twm
@[simp] theorem Eng.waitEnd_pgv (e : Eng) (code island obj since : Nat) : (e.waitEnd code island obj since).pgv = e.pgv :=
  (e.onlyTel_waitEnd code island obj since).pgv
@[simp] theorem Eng.waitEnd_legs (e : Eng) (code island obj since : Nat) : (e.waitEnd code island obj since).legs = e.legs :=
  (e.onlyTel_waitEnd code island obj since).legs
@[simp] theorem Eng.waitEnd_failed (e : Eng) (code island obj since : Nat) : (e.waitEnd code island obj since).failed = e.failed :=
  (e.onlyTel_waitEnd code island obj since).failed
@[simp] theorem Eng.waitEnd_out (e : Eng) (code island obj since : Nat) : (e.waitEnd code island obj since).out = e.out :=
  (e.onlyTel_waitEnd code island obj since).out

/-! ## Eng.noteLoss -/

@[simp] theorem Eng.noteLoss_now (e : Eng) (p n kind : Nat) : (e.noteLoss p n kind).now = e.now :=
  (e.onlyTel_noteLoss p n kind).now
@[simp] theorem Eng.noteLoss_shadow (e : Eng) (p n kind : Nat) : (e.noteLoss p n kind).shadow = e.shadow :=
  (e.onlyTel_noteLoss p n kind).shadow
@[simp] theorem Eng.noteLoss_loStage (e : Eng) (p n kind : Nat) : (e.noteLoss p n kind).loStage = e.loStage :=
  (e.onlyTel_noteLoss p n kind).loStage
@[simp] theorem Eng.noteLoss_readData (e : Eng) (p n kind : Nat) : (e.noteLoss p n kind).readData = e.readData :=
  (e.onlyTel_noteLoss p n kind).readData
@[simp] theorem Eng.noteLoss_free (e : Eng) (p n kind : Nat) : (e.noteLoss p n kind).free = e.free :=
  (e.onlyTel_noteLoss p n kind).free
@[simp] theorem Eng.noteLoss_isl (e : Eng) (p n kind : Nat) : (e.noteLoss p n kind).isl = e.isl :=
  (e.onlyTel_noteLoss p n kind).isl
@[simp] theorem Eng.noteLoss_img (e : Eng) (p n kind : Nat) : (e.noteLoss p n kind).img = e.img :=
  (e.onlyTel_noteLoss p n kind).img
@[simp] theorem Eng.noteLoss_iml (e : Eng) (p n kind : Nat) : (e.noteLoss p n kind).iml = e.iml :=
  (e.onlyTel_noteLoss p n kind).iml
@[simp] theorem Eng.noteLoss_dbg (e : Eng) (p n kind : Nat) : (e.noteLoss p n kind).dbg = e.dbg :=
  (e.onlyTel_noteLoss p n kind).dbg
@[simp] theorem Eng.noteLoss_dir (e : Eng) (p n kind : Nat) : (e.noteLoss p n kind).dir = e.dir :=
  (e.onlyTel_noteLoss p n kind).dir
@[simp] theorem Eng.noteLoss_ing (e : Eng) (p n kind : Nat) : (e.noteLoss p n kind).ing = e.ing :=
  (e.onlyTel_noteLoss p n kind).ing
@[simp] theorem Eng.noteLoss_ldg (e : Eng) (p n kind : Nat) : (e.noteLoss p n kind).ldg = e.ldg :=
  (e.onlyTel_noteLoss p n kind).ldg
@[simp] theorem Eng.noteLoss_dln (e : Eng) (p n kind : Nat) : (e.noteLoss p n kind).dln = e.dln :=
  (e.onlyTel_noteLoss p n kind).dln
@[simp] theorem Eng.noteLoss_cmp (e : Eng) (p n kind : Nat) : (e.noteLoss p n kind).cmp = e.cmp :=
  (e.onlyTel_noteLoss p n kind).cmp
@[simp] theorem Eng.noteLoss_dsq (e : Eng) (p n kind : Nat) : (e.noteLoss p n kind).dsq = e.dsq :=
  (e.onlyTel_noteLoss p n kind).dsq
@[simp] theorem Eng.noteLoss_smp (e : Eng) (p n kind : Nat) : (e.noteLoss p n kind).smp = e.smp :=
  (e.onlyTel_noteLoss p n kind).smp
@[simp] theorem Eng.noteLoss_pln (e : Eng) (p n kind : Nat) : (e.noteLoss p n kind).pln = e.pln :=
  (e.onlyTel_noteLoss p n kind).pln
@[simp] theorem Eng.noteLoss_mov (e : Eng) (p n kind : Nat) : (e.noteLoss p n kind).mov = e.mov :=
  (e.onlyTel_noteLoss p n kind).mov
@[simp] theorem Eng.noteLoss_twm (e : Eng) (p n kind : Nat) : (e.noteLoss p n kind).twm = e.twm :=
  (e.onlyTel_noteLoss p n kind).twm
@[simp] theorem Eng.noteLoss_pgv (e : Eng) (p n kind : Nat) : (e.noteLoss p n kind).pgv = e.pgv :=
  (e.onlyTel_noteLoss p n kind).pgv
@[simp] theorem Eng.noteLoss_legs (e : Eng) (p n kind : Nat) : (e.noteLoss p n kind).legs = e.legs :=
  (e.onlyTel_noteLoss p n kind).legs
@[simp] theorem Eng.noteLoss_failed (e : Eng) (p n kind : Nat) : (e.noteLoss p n kind).failed = e.failed :=
  (e.onlyTel_noteLoss p n kind).failed
@[simp] theorem Eng.noteLoss_out (e : Eng) (p n kind : Nat) : (e.noteLoss p n kind).out = e.out :=
  (e.onlyTel_noteLoss p n kind).out

/-! ## Events -/

/-- While the queue has room, an event is appended to it and nothing else changes. -/
theorem Eng.present_room (e : Eng) (n : Notice) (h : e.tel.queue.length < 64) :
    e.present n = { e with tel := { e.tel with queue := e.tel.queue ++ [n] } } := by
  unfold Eng.present
  rw [if_pos h]

theorem Eng.raise_room (e : Eng) (typ prio tag : Nat) (fs : List (Nat × Nat × Nat)) (h : e.tel.queue.length < 64) :
    e.raise typ prio tag fs =
      { e with tel := { e.tel with queue := e.tel.queue ++ [e.notice typ prio tag (evData fs)] } } :=
  e.present_room _ h

end Sys2Proof.Machine
end

