-- ==== Sys2Proof/Laws/Draft.lean ====
section
/-! SUPPORT. What bringing the running draft up to the present can do: it changes the draft, the sessions that await a prefix
match, and one register of CMP (05 R114, R120, R130). -/

namespace Sys2Proof.Machine

/-- `d` differs from `e` at most in CMP, PLN and the register file. -/
def OnlyDraft (e d : Eng) : Prop := { d with regs := e.regs, cmp := e.cmp, pln := e.pln } = e

theorem OnlyDraft.refl (e : Eng) : OnlyDraft e e := rfl

theorem OnlyDraft.trans {a b c : Eng} (h : OnlyDraft a b) (k : OnlyDraft b c) : OnlyDraft a c := by
  unfold OnlyDraft at *
  rw [← k] at h
  exact h

theorem OnlyDraft.fold {α : Type} (f : Eng → α → Eng) (h : ∀ e a, OnlyDraft e (f e a)) (l : List α) (e : Eng) :
    OnlyDraft e (l.foldl f e) := by
  induction l generalizing e with
  | nil => exact .refl e
  | cons a l ih => exact (h e a).trans (ih _)

theorem OnlyDraft.draft (e : Eng) (f) : OnlyDraft e (e.setDraft f) := rfl
theorem OnlyDraft.bump (e : Eng) (a b c d) : OnlyDraft e (e.bump a b c d) := rfl

theorem Eng.onlyDraft_examine (e : Eng) (k : Key) : OnlyDraft e (e.examine k) := by
  unfold Eng.examine
  dsimp only
  split
  · exact .draft e _
  · split
    · exact .refl e
    · refine .trans (.draft e fun d => { d with examined := d.examined + 1, upTo := some k }) ?_
      generalize e.setDraft _ = e
      split
      · exact .refl e
      · split
        · exact .refl e
        · split
          · exact rfl
          · split
            · exact .draft e _
            · refine .trans (b := ite _ _ _) ?_ (.draft _ _)
              split
              · exact .bump e _ _ _ _
              · exact .refl e

theorem Eng.onlyDraft_runDraft (e : Eng) (n : Nat) : OnlyDraft e (e.runDraft n) := by
  unfold Eng.runDraft
  have h := OnlyDraft.fold (fun (e : Eng) (k : Key) => if e.cmp.draft.running then e.examine k else e)
    (fun e k => by split; exact e.onlyDraft_examine k; exact .refl e)
  extract_lets d later todo z
  split
  · exact (h _ e).trans rfl
  · exact h _ e

/-- Bringing the draft up to the present changes CMP, PLN and the register file only. -/
theorem Eng.onlyDraft_catchUp (e : Eng) : OnlyDraft e e.catchUp := by
  unfold Eng.catchUp
  dsimp only
  split
  · exact .refl e
  · exact e.onlyDraft_runDraft _

@[simp] theorem Eng.catchUp_now (e : Eng) : e.catchUp.now = e.now := by
  conv_rhs => rw [← e.onlyDraft_catchUp]
@[simp] theorem Eng.catchUp_shadow (e : Eng) : e.catchUp.shadow = e.shadow := by
  conv_rhs => rw [← e.onlyDraft_catchUp]
@[simp] theorem Eng.catchUp_loStage (e : Eng) : e.catchUp.loStage = e.loStage := by
  conv_rhs => rw [← e.onlyDraft_catchUp]
@[simp] theorem Eng.catchUp_readData (e : Eng) : e.catchUp.readData = e.readData := by
  conv_rhs => rw [← e.onlyDraft_catchUp]
@[simp] theorem Eng.catchUp_free (e : Eng) : e.catchUp.free = e.free := by
  conv_rhs => rw [← e.onlyDraft_catchUp]
@[simp] theorem Eng.catchUp_isl (e : Eng) : e.catchUp.isl = e.isl := by
  conv_rhs => rw [← e.onlyDraft_catchUp]
@[simp] theorem Eng.catchUp_img (e : Eng) : e.catchUp.img = e.img := by
  conv_rhs => rw [← e.onlyDraft_catchUp]
@[simp] theorem Eng.catchUp_iml (e : Eng) : e.catchUp.iml = e.iml := by
  conv_rhs => rw [← e.onlyDraft_catchUp]
@[simp] theorem Eng.catchUp_tel (e : Eng) : e.catchUp.tel = e.tel := by
  conv_rhs => rw [← e.onlyDraft_catchUp]
@[simp] theorem Eng.catchUp_dbg (e : Eng) : e.catchUp.dbg = e.dbg := by
  conv_rhs => rw [← e.onlyDraft_catchUp]
@[simp] theorem Eng.catchUp_dir (e : Eng) : e.catchUp.dir = e.dir := by
  conv_rhs => rw [← e.onlyDraft_catchUp]
@[simp] theorem Eng.catchUp_ing (e : Eng) : e.catchUp.ing = e.ing := by
  conv_rhs => rw [← e.onlyDraft_catchUp]
@[simp] theorem Eng.catchUp_ldg (e : Eng) : e.catchUp.ldg = e.ldg := by
  conv_rhs => rw [← e.onlyDraft_catchUp]
@[simp] theorem Eng.catchUp_dln (e : Eng) : e.catchUp.dln = e.dln := by
  conv_rhs => rw [← e.onlyDraft_catchUp]
@[simp] theorem Eng.catchUp_dsq (e : Eng) : e.catchUp.dsq = e.dsq := by
  conv_rhs => rw [← e.onlyDraft_catchUp]
@[simp] theorem Eng.catchUp_smp (e : Eng) : e.catchUp.smp = e.smp := by
  conv_rhs => rw [← e.onlyDraft_catchUp]
@[simp] theorem Eng.catchUp_mov (e : Eng) : e.catchUp.mov = e.mov := by
  conv_rhs => rw [← e.onlyDraft_catchUp]
@[simp] theorem Eng.catchUp_twm (e : Eng) : e.catchUp.twm = e.twm := by
  conv_rhs => rw [← e.onlyDraft_catchUp]
@[simp] theorem Eng.catchUp_pgv (e : Eng) : e.catchUp.pgv = e.pgv := by
  conv_rhs => rw [← e.onlyDraft_catchUp]
@[simp] theorem Eng.catchUp_legs (e : Eng) : e.catchUp.legs = e.legs := by
  conv_rhs => rw [← e.onlyDraft_catchUp]
@[simp] theorem Eng.catchUp_failed (e : Eng) : e.catchUp.failed = e.failed := by
  conv_rhs => rw [← e.onlyDraft_catchUp]
@[simp] theorem Eng.catchUp_out (e : Eng) : e.catchUp.out = e.out := by
  conv_rhs => rw [← e.onlyDraft_catchUp]
@[simp] theorem Eng.catchUp_isLead (e : Eng) : e.catchUp.isLead = e.isLead := by simp [Eng.isLead, Eng.role]
@[simp] theorem Eng.catchUp_up (e : Eng) : e.catchUp.up = e.up := by simp [Eng.up]
@[simp] theorem Eng.catchUp_aonUp (e : Eng) : e.catchUp.aonUp = e.aonUp := by simp [Eng.aonUp]

/-! ## The register file -/

/-- What a step of the draft can do to the register file: its canonical form stays, and every register but CMP_DEFER_SET. -/
def KeepsRegs (e d : Eng) : Prop :=
  Tab.wf e.regs = true → Tab.wf d.regs = true ∧ ∀ o, o ≠ Reg.CMP_DEFER_SET → d.reg o = e.reg o

theorem KeepsRegs.same {e d : Eng} (h : d.regs = e.regs) : KeepsRegs e d := by
  intro w
  refine ⟨by rw [h]; exact w, fun o _ => ?_⟩
  simp only [Eng.reg, h]

theorem KeepsRegs.trans {a b c : Eng} (h : KeepsRegs a b) (k : KeepsRegs b c) : KeepsRegs a c := by
  intro w
  obtain ⟨w1, h1⟩ := h w
  obtain ⟨w2, h2⟩ := k w1
  exact ⟨w2, fun o ho => (h2 o ho).trans (h1 o ho)⟩

theorem KeepsRegs.bump (e : Eng) (hi lo n : Nat) : KeepsRegs e (e.bump Reg.CMP_DEFER_SET hi lo n) := fun w =>
  ⟨Eng.setReg_wf _ _ _ w, fun _ ho => Eng.reg_setReg_other _ _ _ _ w ho⟩

theorem KeepsRegs.fold {α : Type} (f : Eng → α → Eng) (h : ∀ e a, KeepsRegs e (f e a)) (l : List α) (e : Eng) :
    KeepsRegs e (l.foldl f e) := by
  induction l generalizing e with
  | nil => exact .same rfl
  | cons a l ih => exact (h e a).trans (ih _)

theorem Eng.keepsRegs_examine (e : Eng) (k : Key) : KeepsRegs e (e.examine k) := by
  unfold Eng.examine
  dsimp only
  split
  · exact .same rfl
  · split
    · exact .same rfl
    · refine .trans (b := e.setDraft fun d => { d with examined := d.examined + 1, upTo := some k }) (.same rfl) ?_
      generalize e.setDraft _ = e
      split
      · exact .same rfl
      · split
        · exact .same rfl
        · split
          · exact .same rfl
          · split
            · exact .same rfl
            · refine .trans (b := ite _ _ _) ?_ (.same rfl)
              split
              · exact .bump e _ _ _
              · exact .same rfl

theorem Eng.keepsRegs_runDraft (e : Eng) (n : Nat) : KeepsRegs e (e.runDraft n) := by
  unfold Eng.runDraft
  have h := KeepsRegs.fold (fun (e : Eng) (k : Key) => if e.cmp.draft.running then e.examine k else e)
    (fun e k => by split; exact e.keepsRegs_examine k; exact .same rfl)
  extract_lets d later todo z
  split
  · exact (h _ e).trans (.same rfl)
  · exact h _ e

/-- Bringing the draft up to the present counts deferred candidates and writes no other register (05 R130). -/
theorem Eng.keepsRegs_catchUp (e : Eng) : KeepsRegs e e.catchUp := by
  unfold Eng.catchUp
  dsimp only
  split
  · exact .same rfl
  · exact e.keepsRegs_runDraft _

end Sys2Proof.Machine
end

