-- ==== Sys2Proof/Laws/Memory.lean ====
section
/-! SUPPORT. The flash, the one addressed memory whose bytes the spec gives the block: every operation on it keeps the canonical
form (rising addresses, no entry that equals the erased byte 0xFF), and a byte reads as it was written. -/

namespace Sys2Proof.Machine

/-- One byte of the flash; an unlisted address reads as erased. -/
def flashByte (m : Tab Byte) (b : Nat) : Byte := Tab.getD m b 0xFF

/-- Programming keeps the canonical form. -/
theorem writeCells_wfD (a : Nat) (b : Bytes) (m : Tab Byte) (h : Tab.wfD 0xFF m = true) :
    Tab.wfD 0xFF (writeCells a b m) = true := by
  induction b generalizing a m with
  | nil => exact h
  | cons v b ih => exact ih (a + 1) _ (Tab.wfD_write _ a v h)

/-- Erasing keeps the canonical form. -/
theorem eraseCells_wfD (a n : Nat) (m : Tab Byte) (h : Tab.wfD 0xFF m = true) : Tab.wfD 0xFF (eraseCells a n m) = true :=
  Tab.wfD_filter _ _ h

/-- The flash of the reset state lists nothing. -/
theorem reset_flash_wfD : Tab.wfD 0xFF State.reset.eng.iml.flash.cells = true := rfl

theorem wf_of_wfD {m : Tab Byte} (h : Tab.wfD 0xFF m = true) : Tab.wf m = true := by
  simp only [Tab.wfD, Bool.and_eq_true] at h
  exact h.1

/-- A byte outside what is programmed keeps its value. -/
theorem flashByte_writeCells_out (a c : Nat) (b : Bytes) (m : Tab Byte) (h : Tab.wfD 0xFF m = true)
    (hc : c < a ∨ a + b.length ≤ c) : flashByte (writeCells a b m) c = flashByte m c := by
  induction b generalizing a m with
  | nil => rfl
  | cons v b ih =>
    simp only [List.length_cons] at hc
    exact (ih (a + 1) _ (Tab.wfD_write _ a v h) (by omega)).trans
      (Tab.getD_write_other _ _ a c v (wf_of_wfD h) (by omega))

/-- A byte that is programmed reads as written. -/
theorem flashByte_writeCells_in (a i : Nat) (b : Bytes) (m : Tab Byte) (h : Tab.wfD 0xFF m = true) (hi : i < b.length) :
    flashByte (writeCells a b m) (a + i) = b[i] := by
  induction b generalizing a m i with
  | nil => simp at hi
  | cons v b ih =>
    cases i with
    | zero =>
      simp only [writeCells, Nat.add_zero, List.getElem_cons_zero]
      rw [flashByte_writeCells_out (a + 1) a b _ (Tab.wfD_write _ a v h) (by omega)]
      exact Tab.getD_write_self _ a v (wf_of_wfD h)
    | succ i =>
      have := ih (a + 1) i _ (Tab.wfD_write 0xFF a v h) (by simpa using hi)
      simpa [writeCells, Nat.add_comm, Nat.add_left_comm, Nat.add_assoc] using this

end Sys2Proof.Machine
end

