-- ==== Sys2Proof/Laws/PerInstr.lean ====
section
/-! SUPPORT. Facts about every command, one lemma per constructor. -/

namespace Sys2Proof.Laws.Timed

/-- A well-formed command happens at a 64-bit fabric timestamp. -/
def Statement (i : Instr) : Prop := i.wf = true → i.time < 2 ^ 64

theorem of_wf (i : Instr) : Statement i := by
  intro h
  unfold Instr.wf at h
  exact of_decide_eq_true (Bool.and_eq_true_iff.mp h).1

theorem bar2BadAccess (t : Nat) (write : Bool) (off : Nat) : Statement (.bar2BadAccess t write off) := of_wf _
theorem registerWrite (t off : Nat) (val : Word) (req : Nat) : Statement (.registerWrite t off val req) := of_wf _
theorem readClear (t off : Nat) (same : Word) : Statement (.readClear t off same) := of_wf _
theorem w1cClear (t off : Nat) (val same : Word) : Statement (.w1cClear t off val same) := of_wf _
theorem pairLoRead (t off : Nat) : Statement (.pairLoRead t off) := of_wf _
theorem pairLoWrite (t off : Nat) (val : Word) (req : Nat) : Statement (.pairLoWrite t off val req) := of_wf _
theorem pairHiWrite (t off : Nat) (val : Word) (req : Nat) : Statement (.pairHiWrite t off val req) := of_wf _
theorem peekRead (t off : Nat) : Statement (.peekRead t off) := of_wf _
theorem stagedWrite (t off : Nat) (val : Word) (req : Nat) : Statement (.stagedWrite t off val req) := of_wf _
theorem stretchWindowEnd (t island : Nat) : Statement (.stretchWindowEnd t island) := of_wf _
theorem legTimeout (t : Nat) (leg : Leg) : Statement (.legTimeout t leg) := of_wf _
theorem dirLookup (t tag requester : Nat) : Statement (.dirLookup t tag requester) := of_wf _
theorem dirMissFill (t tag : Nat) (r : ReadResult) : Statement (.dirMissFill t tag r) := of_wf _
theorem dirCopyBRead (t tag : Nat) (r : ReadResult) : Statement (.dirCopyBRead t tag r) := of_wf _
theorem insertWindowEnd (t : Nat) : Statement (.insertWindowEnd t) := of_wf _
theorem dirSliceFailed (t slice : Nat) : Statement (.dirSliceFailed t slice) := of_wf _
theorem blockReq (t : Nat) (msg : Bytes) : Statement (.blockReq t msg) := of_wf _
theorem backingCopyDone (t : Nat) : Statement (.backingCopyDone t) := of_wf _
theorem sessionExpiry (t tag : Nat) : Statement (.sessionExpiry t tag) := of_wf _
theorem sessionRebuild (t tag : Nat) (other : Bytes) : Statement (.sessionRebuild t tag other) := of_wf _
theorem ingOpen (t : Nat) (rec : Bytes) (src units : Nat) : Statement (.ingOpen t rec src units) := of_wf _
theorem ingTurn (t : Nat) (rec : Bytes) (src units : Nat) : Statement (.ingTurn t rec src units) := of_wf _
theorem ingResume (t : Nat) (rec : Bytes) (src units : Nat) : Statement (.ingResume t rec src units) := of_wf _
theorem ingClose (t : Nat) (rec : Bytes) (src units : Nat) : Statement (.ingClose t rec src units) := of_wf _
theorem ingPin (t : Nat) (rec : Bytes) (src units : Nat) : Statement (.ingPin t rec src units) := of_wf _
theorem ingProbe (t : Nat) (rec : Bytes) (src units : Nat) : Statement (.ingProbe t rec src units) := of_wf _
theorem ingAmend (t : Nat) (rec : Bytes) (src units : Nat) : Statement (.ingAmend t rec src units) := of_wf _
theorem ingressUnknownType (t : Nat) (rec : Bytes) (src units : Nat) : Statement (.ingressUnknownType t rec src units) := of_wf _
theorem producerWindowFill (t slot : Nat) : Statement (.producerWindowFill t slot) := of_wf _
theorem outcomeWordRead (t slot seq : Nat) : Statement (.outcomeWordRead t slot seq) := of_wf _
theorem tailSummary (t : Nat) (msg : Bytes) : Statement (.tailSummary t msg) := of_wf _
theorem idleInstarEnd (t : Nat) : Statement (.idleInstarEnd t) := of_wf _
theorem instarDescriptor (t : Nat) (msg : Bytes) : Statement (.instarDescriptor t msg) := of_wf _
theorem resendRequest (t : Nat) (msg : Bytes) : Statement (.resendRequest t msg) := of_wf _
theorem instarEndReport (t : Nat) (msg : Bytes) : Statement (.instarEndReport t msg) := of_wf _
theorem instarWatchdog (t : Nat) : Statement (.instarWatchdog t) := of_wf _
theorem dsqKernel (t part job : Nat) (raw : Bytes) : Statement (.dsqKernel t part job raw) := of_wf _
theorem dsqAcquire (t part job : Nat) (raw : Bytes) : Statement (.dsqAcquire t part job raw) := of_wf _
theorem dsqRelease (t part job : Nat) (raw : Bytes) : Statement (.dsqRelease t part job raw) := of_wf _
theorem dsqLinkGet (t part job : Nat) (raw : Bytes) : Statement (.dsqLinkGet t part job raw) := of_wf _
theorem dsqLinkPut (t part job : Nat) (raw : Bytes) : Statement (.dsqLinkPut t part job raw) := of_wf _
theorem dsqLayer (t part job : Nat) (raw : Bytes) : Statement (.dsqLayer t part job raw) := of_wf _
theorem dsqEnd (t part job : Nat) (raw : Bytes) : Statement (.dsqEnd t part job raw) := of_wf _
theorem kernelComplete (t part job : Nat) : Statement (.kernelComplete t part job) := of_wf _
theorem haltAck (t part job : Nat) : Statement (.haltAck t part job) := of_wf _
theorem groupSaveDone (t group : Nat) (ok : Bool) : Statement (.groupSaveDone t group ok) := of_wf _
theorem groupRestoreDone (t group : Nat) (ok : Bool) : Statement (.groupRestoreDone t group ok) := of_wf _
theorem contextLoadDone (t group : Nat) (ok : Bool) : Statement (.contextLoadDone t group ok) := of_wf _
theorem coreMachineCheck (t group core : Nat) : Statement (.coreMachineCheck t group core) := of_wf _
theorem kernelWatchdog (t part job : Nat) : Statement (.kernelWatchdog t part job) := of_wf _
theorem clusterHbmError (t part : Nat) : Statement (.clusterHbmError t part) := of_wf _
theorem partitionReady (t part : Nat) : Statement (.partitionReady t part) := of_wf _
theorem voidNotice (t : Nat) (msg : Bytes) : Statement (.voidNotice t msg) := of_wf _
theorem abortMsg (t : Nat) (msg : Bytes) : Statement (.abortMsg t msg) := of_wf _
theorem tensorDumpDone (t bytes : Nat) : Statement (.tensorDumpDone t bytes) := of_wf _
theorem dsqStepGo (t req : Nat) (val : Word) : Statement (.dsqStepGo t req val) := of_wf _
theorem logitStream (t : Nat) (msg : Bytes) : Statement (.logitStream t msg) := of_wf _
theorem tailSweep (t lane : Nat) : Statement (.tailSweep t lane) := of_wf _
theorem logitBufferReadDone (t lane : Nat) (msg : Bytes) : Statement (.logitBufferReadDone t lane msg) := of_wf _
theorem smpLaneRetired (t lane cause : Nat) : Statement (.smpLaneRetired t lane cause) := of_wf _
theorem select (t : Nat) (msg : Bytes) : Statement (.select t msg) := of_wf _
theorem draft (t : Nat) (msg : Bytes) : Statement (.draft t msg) := of_wf _
theorem draftEdgeReadDone (t tag : Nat) : Statement (.draftEdgeReadDone t tag) := of_wf _
theorem refineRequest (t : Nat) (msg : Bytes) : Statement (.refineRequest t msg) := of_wf _
theorem refineReply (t : Nat) (msg note : Bytes) : Statement (.refineReply t msg note) := of_wf _
theorem summaryRerequest (t : Nat) (tag pos : Nat) : Statement (.summaryRerequest t tag pos) := of_wf _
theorem grammarNote (t : Nat) (msg : Bytes) : Statement (.grammarNote t msg) := of_wf _
theorem grammarReadError (t tag rank : Nat) (again : Bool) : Statement (.grammarReadError t tag rank again) := of_wf _
theorem toolOrder (t : Nat) (msg : Bytes) : Statement (.toolOrder t msg) := of_wf _
theorem toolCancel (t : Nat) (msg : Bytes) : Statement (.toolCancel t msg) := of_wf _
theorem toolPart (t : Nat) (msg : Bytes) (labels : List (List Nat)) : Statement (.toolPart t msg labels) := of_wf _
theorem toolPartTimeout (t instar tag : Nat) (labels : List (List Nat)) : Statement (.toolPartTimeout t instar tag labels) := of_wf _
theorem pupate (t : Nat) (msg : Bytes) : Statement (.pupate t msg) := of_wf _
theorem eclose (t : Nat) (msg : Bytes) : Statement (.eclose t msg) := of_wf _
theorem demote (t : Nat) (msg : Bytes) : Statement (.demote t msg) := of_wf _
theorem spill (t : Nat) (msg : Bytes) : Statement (.spill t msg) := of_wf _
theorem refill (t : Nat) (msg : Bytes) : Statement (.refill t msg) := of_wf _
theorem free (t : Nat) (msg : Bytes) : Statement (.free t msg) := of_wf _
theorem cancel (t : Nat) (msg : Bytes) : Statement (.cancel t msg) := of_wf _
theorem reserve (t : Nat) (msg : Bytes) : Statement (.reserve t msg) := of_wf _
theorem prefixCopy (t : Nat) (msg : Bytes) : Statement (.prefixCopy t msg) := of_wf _
theorem migrate (t : Nat) (msg : Bytes) : Statement (.migrate t msg) := of_wf _
theorem orderTimeDue (t tag : Nat) : Statement (.orderTimeDue t tag) := of_wf _
theorem calendarLoad (t : Nat) : Statement (.calendarLoad t) := of_wf _
theorem ttlExpiry (t tag : Nat) : Statement (.ttlExpiry t tag) := of_wf _
theorem pinExpiry (t tag : Nat) : Statement (.pinExpiry t tag) := of_wf _
theorem waitRecordFill (t tenant tool : Nat) : Statement (.waitRecordFill t tenant tool) := of_wf _
theorem waitRecordDecay (t tenant tool : Nat) : Statement (.waitRecordDecay t tenant tool) := of_wf _
theorem prefixSketchHalve (t : Nat) : Statement (.prefixSketchHalve t) := of_wf _
theorem pageLegDone (t channel : Nat) (ok : Bool) (crc : Nat) (chk : MovCheck) : Statement (.pageLegDone t channel ok crc chk) := of_wf _
theorem moveEndReport (t : Nat) (msg : Bytes) : Statement (.moveEndReport t msg) := of_wf _
theorem nicConnectionLost (t target : Nat) : Statement (.nicConnectionLost t target) := of_wf _
theorem nvmeNamespaceFailed (t target : Nat) : Statement (.nvmeNamespaceFailed t target) := of_wf _
theorem hbmStackFailed (t stack : Nat) (weightsLost : Bool) : Statement (.hbmStackFailed t stack weightsLost) := of_wf _
theorem migReq (t : Nat) (msg : Bytes) : Statement (.migReq t msg) := of_wf _
theorem migData (t : Nat) (msg : Bytes) : Statement (.migData t msg) := of_wf _
theorem journalBatch (t : Nat) (msg : Bytes) (stored : Nat) : Statement (.journalBatch t msg stored) := of_wf _
theorem ack (t : Nat) (msg : Bytes) : Statement (.ack t msg) := of_wf _
theorem nak (t : Nat) (msg : Bytes) : Statement (.nak t msg) := of_wf _
theorem batchAckTimeout (t first : Nat) : Statement (.batchAckTimeout t first) := of_wf _
theorem twinLinkDown (t : Nat) : Statement (.twinLinkDown t) := of_wf _
theorem hello (t : Nat) (msg : Bytes) : Statement (.hello t msg) := of_wf _
theorem helloTimer (t : Nat) : Statement (.helloTimer t) := of_wf _
theorem handover (t : Nat) (msg : Bytes) : Statement (.handover t msg) := of_wf _
theorem grant (t : Nat) (msg : Datagram) : Statement (.grant t msg) := of_wf _
theorem deny (t : Nat) (msg : Datagram) : Statement (.deny t msg) := of_wf _
theorem witnessRetry (t : Nat) : Statement (.witnessRetry t) := of_wf _
theorem leaseRenew (t : Nat) : Statement (.leaseRenew t) := of_wf _
theorem leaseEnd (t : Nat) : Statement (.leaseEnd t) := of_wf _
theorem seekingPause (t : Nat) : Statement (.seekingPause t) := of_wf _
theorem fencedRetry (t : Nat) : Statement (.fencedRetry t) := of_wf _
theorem consumerAck (t : Nat) (msg : Bytes) (src : Nat) : Statement (.consumerAck t msg src) := of_wf _
theorem emitAgain (t tag : Nat) : Statement (.emitAgain t tag) := of_wf _
theorem controlBatchTimer (t : Nat) : Statement (.controlBatchTimer t) := of_wf _
theorem snapshotTimer (t : Nat) : Statement (.snapshotTimer t) := of_wf _
theorem snapStart (t : Nat) (val : Word) : Statement (.snapStart t val) := of_wf _
theorem snapshotWriteDone (t rank : Nat) (rep : Option Bytes) : Statement (.snapshotWriteDone t rank rep) := of_wf _
theorem t3WriteDone (t first : Nat) (ok : Bool) : Statement (.t3WriteDone t first ok) := of_wf _
theorem snapData (t : Nat) (msg : Bytes) : Statement (.snapData t msg) := of_wf _
theorem fastLoop (t : Nat) (vcoreMa vsramMa : List Int) (mv : List Nat) (stretch tHot sensor kMean : Nat) (pulses : List Nat) (toolPulses : List (Nat × Nat)) : Statement (.fastLoop t vcoreMa vsramMa mv stretch tHot sensor kMean pulses toolPulses) := of_wf _
theorem pmbusPoll (t : Nat) : Statement (.pmbusPoll t) := of_wf _
theorem pmbusDone (t rail pout status : Nat) (phases : List Nat) (failed : List Nat) : Statement (.pmbusDone t rail pout status phases failed) := of_wf _
theorem vdone (t rail mv : Nat) : Statement (.vdone t rail mv) := of_wf _
theorem clockAck (t : Nat) : Statement (.clockAck t) := of_wf _
theorem slewTimeout (t rail mv : Nat) : Statement (.slewTimeout t rail mv) := of_wf _
theorem excitationTest (t : Nat) : Statement (.excitationTest t) := of_wf _
theorem quietRequest (t : Nat) : Statement (.quietRequest t) := of_wf _
theorem deficitMs (t : Nat) : Statement (.deficitMs t) := of_wf _
theorem surplus (t : Nat) : Statement (.surplus t) := of_wf _
theorem unattainableCheck (t meanW : Nat) : Statement (.unattainableCheck t meanW) := of_wf _
theorem unattainableExit (t meanW : Nat) : Statement (.unattainableExit t meanW) := of_wf _
theorem shedOnCap (t misses : Nat) : Statement (.shedOnCap t misses) := of_wf _
theorem regAlert (t rail addr status phase : Nat) : Statement (.regAlert t rail addr status phase) := of_wf _
theorem regAlertClear (t : Nat) : Statement (.regAlertClear t) := of_wf _
theorem regAlertTimeout (t : Nat) : Statement (.regAlertTimeout t) := of_wf _
theorem alertHoldEnd (t : Nat) : Statement (.alertHoldEnd t) := of_wf _
theorem coolFlowLost (t : Nat) : Statement (.coolFlowLost t) := of_wf _
theorem coolFlowEscalate (t : Nat) : Statement (.coolFlowEscalate t) := of_wf _
theorem coolFlowRestored (t : Nat) : Statement (.coolFlowRestored t) := of_wf _
theorem thermalCrit (t temp sensor : Nat) : Statement (.thermalCrit t temp sensor) := of_wf _
theorem thermalCritTimeout (t temp : Nat) : Statement (.thermalCritTimeout t temp) := of_wf _
theorem vaonGood (t : Nat) (fuses : Bytes) : Statement (.vaonGood t fuses) := of_wf _
theorem railPowerGood (t rail : Nat) : Statement (.railPowerGood t rail) := of_wf _
theorem flashStatusWriteDone (t : Nat) (ok : Bool) : Statement (.flashStatusWriteDone t ok) := of_wf _
theorem hbmReady (t : Nat) (lanes : List Nat) (units : List BistUnit) : Statement (.hbmReady t lanes units) := of_wf _
theorem engResetInput (t : Nat) : Statement (.engResetInput t) := of_wf _
theorem resetEngine (t req : Nat) : Statement (.resetEngine t req) := of_wf _
theorem resetFlutter (t req : Nat) : Statement (.resetFlutter t req) := of_wf _
theorem flutterReset (t : Nat) (msg : Bytes) : Statement (.flutterReset t msg) := of_wf _
theorem aonWatchdog (t island : Nat) : Statement (.aonWatchdog t island) := of_wf _
theorem flashErase (t req addr : Nat) : Statement (.flashErase t req addr) := of_wf _
theorem flashProgram (t req addr : Nat) : Statement (.flashProgram t req addr) := of_wf _
theorem flashRead (t req addr : Nat) : Statement (.flashRead t req addr) := of_wf _
theorem flashValidate (t req addr : Nat) : Statement (.flashValidate t req addr) := of_wf _
theorem flashOpDone (t : Nat) (result : Nat) : Statement (.flashOpDone t result) := of_wf _
theorem pfWarn (t : Nat) : Statement (.pfWarn t) := of_wf _
theorem pfWarnClear (t : Nat) : Statement (.pfWarnClear t) := of_wf _
theorem holdupInstarTimeout (t : Nat) : Statement (.holdupInstarTimeout t) := of_wf _
theorem flushWriteDone (t : Nat) : Statement (.flushWriteDone t) := of_wf _
theorem rideTimeout (t : Nat) : Statement (.rideTimeout t) := of_wf _
theorem dwellEnd (t : Nat) : Statement (.dwellEnd t) := of_wf _
theorem railPowerFail (t rail : Nat) : Statement (.railPowerFail t rail) := of_wf _
theorem pdRailTimeout (t : Nat) : Statement (.pdRailTimeout t) := of_wf _
theorem snapshotEpoch (t : Nat) : Statement (.snapshotEpoch t) := of_wf _
theorem eventPost (t : Nat) : Statement (.eventPost t) := of_wf _
theorem ptpMeasurement (t : Nat) (offset : Int) (ptpTime : Nat) : Statement (.ptpMeasurement t offset ptpTime) := of_wf _
theorem ptpHoldover (t : Nat) : Statement (.ptpHoldover t) := of_wf _
theorem counterSelect (t off : Nat) (val : Word) : Statement (.counterSelect t off val) := of_wf _
theorem ringConsWrite (t ring : Nat) (val : Word) : Statement (.ringConsWrite t ring val) := of_wf _
theorem ringFlush (t ring : Nat) (val : Word) : Statement (.ringFlush t ring val) := of_wf _
theorem ringHoldoffEnd (t ring : Nat) : Statement (.ringHoldoffEnd t ring) := of_wf _
theorem traceSend (t : Nat) : Statement (.traceSend t) := of_wf _
theorem mark (t : Nat) (val : Word) : Statement (.mark t val) := of_wf _
theorem lockAcquire (t req : Nat) : Statement (.lockAcquire t req) := of_wf _
theorem lockRenew (t req : Nat) : Statement (.lockRenew t req) := of_wf _
theorem lockRelease (t req : Nat) : Statement (.lockRelease t req) := of_wf _
theorem lockReleaseCommit (t req : Nat) : Statement (.lockReleaseCommit t req) := of_wf _
theorem lockLeaseEnd (t : Nat) : Statement (.lockLeaseEnd t) := of_wf _
theorem servicePortReset (t cause : Nat) : Statement (.servicePortReset t cause) := of_wf _
theorem peekArg (t : Nat) (val : Word) : Statement (.peekArg t val) := of_wf _
theorem peekCopyDone (t : Nat) : Statement (.peekCopyDone t) := of_wf _
theorem dbgCtrlWrite (t : Nat) (val : Word) (req : Nat) : Statement (.dbgCtrlWrite t val req) := of_wf _
theorem instarGo (t : Nat) (val : Word) (req : Nat) : Statement (.instarGo t val req) := of_wf _
theorem testRequest (t : Nat) (val : Word) (req : Nat) : Statement (.testRequest t val req) := of_wf _
theorem testCancel (t req : Nat) : Statement (.testCancel t req) := of_wf _
theorem testStart (t : Nat) : Statement (.testStart t) := of_wf _
theorem testEnd (t : Nat) (pass : Bool) (failAddr syndrome : Nat) : Statement (.testEnd t pass failAddr syndrome) := of_wf _
theorem laneTestAbort (t : Nat) : Statement (.laneTestAbort t) := of_wf _
theorem fabricFrameBad (t : Nat) (msg : Bytes) : Statement (.fabricFrameBad t msg) := of_wf _
theorem linkCreditReturn (t part : Nat) (n : Nat) : Statement (.linkCreditReturn t part n) := of_wf _
theorem coolFlowOkHigh (t : Nat) : Statement (.coolFlowOkHigh t) := of_wf _
theorem islandDroop (t island : Nat) (on : Bool) : Statement (.islandDroop t island on) := of_wf _
theorem prefixMatchDone (t tag : Nat) : Statement (.prefixMatchDone t tag) := of_wf _
theorem t3ReadDone (t : Nat) (recs : Bytes) (manifestOk : Bool) : Statement (.t3ReadDone t recs manifestOk) := of_wf _
theorem trailWriteDone (t : Nat) : Statement (.trailWriteDone t) := of_wf _

end Sys2Proof.Laws.Timed
end

