-- ==== Sys2Proof/Laws/Run.lean ====
section
/-! SUPPORT. What a command can do as a whole: every meaning is `State.run` of one effect on the engine, and each wrapper of
an effect is that effect where its condition holds. -/

namespace Sys2Proof.Machine

/-- A well-formed command applies its effect at its own timestamp. -/
theorem State.run_wf (s : State) (c : Instr) (name : String) (f : Eng → Eng) (h : c.wf = true) :
    s.run c name f = .next (s.left c.time (f (s.stamp c.time))) := by
  simp [State.run, h, State.left, State.stamp]

/-- An ill-formed command is refused by name. -/
theorem State.run_illFormed (s : State) (c : Instr) (name : String) (f : Eng → Eng) (h : c.wf = false) :
    s.run c name f = .refused (.illFormed name) := by
  simp [State.run, h]

/-- Every command is one effect on the engine, run under its name. -/
theorem exec_run (c : Instr) : ∃ name f, ∀ s : State, exec c s = s.run c name f := by
  cases c
  case bar2BadAccess t write off => exact ⟨_, fun e => if write then e else { e with readData := 0 }, fun _ => rfl⟩
  case readClear t off same => exact ⟨_, fun e => e.catchUp.hostRead off same, fun _ => rfl⟩
  case pairLoRead t off => exact ⟨_, fun e => if pairLo off = some off then e.catchUp.hostRead off 0 else e, fun _ => rfl⟩
  case peekRead t off => exact ⟨_, fun e => e.peek off, fun _ => rfl⟩
  case stretchWindowEnd t n => exact ⟨_, fun e => if e.islandRuns n then e.windowEnd n else e, fun _ => rfl⟩
  case islandDroop t n on =>
    exact ⟨_, fun e => if !e.islandRuns n then e
      else { e with isl := Tab.put e.isl n { Tab.getD e.isl n {} with stretching := on } }, fun _ => rfl⟩
  all_goals exact ⟨_, _, fun _ => rfl⟩

/-! ## The wrappers -/

/-- An effect at an engine whose islands run is followed by what follows every command. -/
theorem State.engineDo_up (s : State) (t : Nat) (f : Eng → Eng) (h : s.eng.up = true) :
    s.left t (Eng.engineDo f (s.stamp t)) = s.done t (f (s.found t)) := by
  simp [Eng.engineDo, h, State.done, State.found]

/-- Before the engine is up nothing happens. -/
theorem State.engineDo_down (s : State) (t : Nat) (f : Eng → Eng) (h : s.eng.up = false) :
    Eng.engineDo f (s.stamp t) = s.stamp t := by
  simp [Eng.engineDo, h]

theorem State.leadDo_lead (s : State) (t : Nat) (f : Eng → Eng) (h : s.eng.up = true) (hl : s.eng.isLead = true) :
    s.left t (Eng.leadDo f (s.stamp t)) = s.done t (f (s.found t)) := by
  simp [Eng.leadDo, hl, State.engineDo_up, h]

/-- An engine that is not the Lead does nothing. -/
theorem State.leadDo_other (s : State) (t : Nat) (f : Eng → Eng) (hl : s.eng.isLead = false) :
    Eng.leadDo f (s.stamp t) = s.stamp t := by
  simp [Eng.leadDo, hl]

theorem State.aonDo_up (s : State) (t : Nat) (f : Eng → Eng) (h : s.eng.aonUp = true) :
    s.left t (Eng.aonDo f (s.stamp t)) = s.done t (f (s.found t)) := by
  simp [Eng.aonDo, h, State.done, State.found]

theorem State.hostDo_eq (s : State) (t : Nat) (f : Eng → Eng) :
    s.left t (Eng.hostDo f (s.stamp t)) = s.done t (f (s.found t)) := by
  simp [Eng.hostDo, State.done, State.found]

/-- A record that arrives at an engine that is up is ingested. -/
theorem State.readRecord_up (s : State) (t : Nat) (r : Bytes) (src units : Nat) (h : s.eng.up = true) :
    s.left t (Eng.readRecord (s.stamp t) r src units) = s.done t ((s.found t).ingest r src units) := by
  unfold Eng.readRecord
  exact s.engineDo_up t _ h

/-! ## Writes of registers that act by themselves -/

/-- The row of a register that is served and kept. -/
theorem Eng.hostReg_eq (e : Eng) (off : Nat) (r : RegRow) (h1 : off % 4 = 0) (h2 : off < 0x400000)
    (h3 : e.serves off = true) (h4 : e.keeps off = true) (h5 : regAt off = some r) : e.hostReg off = some r := by
  have : ¬ 0x400000 ≤ off := by omega
  simp [Eng.hostReg, h1, this, h3, h4, h5]

/-- A write of RYV_GLB_LOCK is a lock action (13 R370). -/
theorem Eng.hostWrite_lock (e : Eng) (v : Word) (req : Nat) :
    e.hostWrite Reg.GLB_LOCK v req = e.writeLock v.toNat req := by
  have h := Eng.hostReg_eq e Reg.GLB_LOCK _ rfl (by decide) (by rfl) (by rfl) rfl
  simp only [Eng.hostWrite, h]
  simp (decide := true) [Eng.writeAction]

/-- A write of RYV_TEL_MARK opens or closes a range (13 R369). -/
theorem Eng.hostWrite_mark (e : Eng) (v : Word) (req : Nat) (ha : e.aonUp = true) :
    e.hostWrite Reg.TEL_MARK v req = e.markRange v.toNat := by
  have h := Eng.hostReg_eq e Reg.TEL_MARK _ rfl (by decide) (by simp [Eng.serves, Reg.TEL_MARK, ha])
    (by simp [Eng.keeps, Reg.TEL_MARK]) rfl
  simp only [Eng.hostWrite, h]
  simp (decide := true) [Eng.writeAction]

/-- The holder's write of RYV_DBG_CTRL without GO (13 R376). -/
theorem Eng.hostWrite_dbgCtrl (e : Eng) (v : Word) (req : Nat) (ha : e.aonUp = true) (hh : e.holds req = true)
    (hb : bit v.toNat 29 = false) : e.hostWrite Reg.DBG_CTRL v req = e.writeDebug v := by
  have h := Eng.hostReg_eq e Reg.DBG_CTRL _ rfl (by decide) (by simp [Eng.serves, Reg.DBG_CTRL, ha])
    (by simp [Eng.keeps, Reg.DBG_CTRL]) rfl
  simp only [Eng.hostWrite, h]
  simp (decide := true) [Eng.writeAction, Eng.writeRwl, hh, Eng.writeNow, hb]

end Sys2Proof.Machine
end

