-- ==== Sys2Proof/Tests/Slice0.lean ====
section
/-! SUPPORT. Tests: ill-formed commands are refused, worked examples of the manual, one step of some commands, and for every
statement a state and operands that meet its hypotheses. -/

namespace Sys2Proof.Tests

open Sys2Proof Sys2Proof.Machine

set_option Elab.async false

/-! ## Small states -/

/-- An engine that is up and is not the Lead. -/
def memberEng : Eng := { Eng.cold with iml := { Eng.cold.iml with phase := 12 } }
/-- A Lead that is also Tail, alone in its flutter. -/
def leadEng : Eng := { memberEng with img := { memberEng.img with n := 1, roles := [3] } }
def cold : State := State.reset
def member : State := { eng := memberEng }
def lead : State := { eng := leadEng }
/-- The member with requester 7 as holder of the lock. -/
def holder : State :=
  { eng := { memberEng with dbg := { memberEng.dbg with lock := { held := true, holder := 7, leaseEnd := 100 } } } }
/-- The outcome is a next state with `p`. -/
def leaves (o : Host.Outcome State Fault Refusal) (p : Eng → Bool) : Bool :=
  match o with
  | .next t => p t.eng
  | _ => false
/-- The outcome is a refusal for ill-formed operands. -/
def refusedIllFormed (o : Host.Outcome State Fault Refusal) : Bool :=
  match o with
  | .refused (.illFormed _) => true
  | _ => false

/-! ## WellFormed: each check refuses an ill-formed term -/

theorem test_time_refused : refusedIllFormed (exec (.pfWarn (2 ^ 64)) cold) = true := by decide
theorem test_island_refused : refusedIllFormed (exec (.stretchWindowEnd 0 18) cold) = true := by decide
theorem test_droop_island_refused : refusedIllFormed (exec (.islandDroop 0 18 true) cold) = true := by decide
theorem test_watchdog_island_refused : refusedIllFormed (exec (.aonWatchdog 0 18) cold) = true := by decide
theorem test_slice_refused : refusedIllFormed (exec (.dirSliceFailed 0 4) cold) = true := by decide
theorem test_group_refused : refusedIllFormed (exec (.groupSaveDone 0 1600 true) cold) = true := by decide
theorem test_restore_group_refused : refusedIllFormed (exec (.groupRestoreDone 0 1600 true) cold) = true := by decide
theorem test_context_group_refused : refusedIllFormed (exec (.contextLoadDone 0 1600 true) cold) = true := by decide
theorem test_core_refused : refusedIllFormed (exec (.coreMachineCheck 0 0 16) cold) = true := by decide
theorem test_sweep_lane_refused : refusedIllFormed (exec (.tailSweep 0 64) cold) = true := by decide
theorem test_buffer_lane_refused : refusedIllFormed (exec (.logitBufferReadDone 0 64 []) cold) = true := by decide
theorem test_retired_lane_refused : refusedIllFormed (exec (.smpLaneRetired 0 64 1) cold) = true := by decide
theorem test_channel_refused : refusedIllFormed (exec (.pageLegDone 0 64 true 0 .held) cold) = true := by decide
theorem test_stack_refused : refusedIllFormed (exec (.hbmStackFailed 0 8 false) cold) = true := by decide
theorem test_poll_rail_refused : refusedIllFormed (exec (.pmbusDone 0 6 0 0 [] []) cold) = true := by decide
theorem test_vdone_rail_refused : refusedIllFormed (exec (.vdone 0 2 0) cold) = true := by decide
theorem test_slew_rail_refused : refusedIllFormed (exec (.slewTimeout 0 2 0) cold) = true := by decide
theorem test_alert_rail_refused : refusedIllFormed (exec (.regAlert 0 6 0 0 0) cold) = true := by decide
theorem test_good_rail_refused : refusedIllFormed (exec (.railPowerGood 0 6) cold) = true := by decide
theorem test_fail_rail_refused : refusedIllFormed (exec (.railPowerFail 0 6) cold) = true := by decide
theorem test_bist_unit_refused : refusedIllFormed (exec (.hbmReady 0 [64] []) cold) = true ∧
    ∀ u ∈ [BistUnit.slice 4, .channel 64, .core 1600 0, .core 0 16, .stack 8 false, .phase 6 0, .sense 2], refusedIllFormed (exec (.hbmReady 0 [] [.target 9, u]) cold) = true := by decide
theorem test_cons_ring_refused : refusedIllFormed (exec (.ringConsWrite 0 4 0) cold) = true := by decide
theorem test_flush_ring_refused : refusedIllFormed (exec (.ringFlush 0 4 0) cold) = true := by decide
theorem test_holdoff_ring_refused : refusedIllFormed (exec (.ringHoldoffEnd 0 4) cold) = true := by decide

/-! ## Worked examples of the manual -/

/-- Example 3-1: the generation after 0x01 in slot 1 is 0x05, in slot 2 it is 0x02. -/
theorem test_example_3_1 : nextGen 1 1 0x032A01 = 5 ∧ nextGen 1 2 0x032A01 = 2 := by decide
/-- Example 3-2: the third set bit of 0xF is 2, and the second live slice of 0, 1, 3 is 1. -/
theorem test_example_3_2 : kthSetBit 0xF (0xB7E15162 * 4 / 2 ^ 32) = 2 ∧ kthSetBit 0xB (0x8AED2A6A * 3 / 2 ^ 32) = 1 := by
  decide
/-- Example 9-1: q20 before and after a wait of 700 ms, which enters bin 25. -/
theorem test_example_9_1 :
    q20 { bins := [(20, 3), (24, 5), (26, 12), (28, 20)], n := 40 } = 648783 ∧ waitBin 700000 = 25 ∧
    q20 { bins := [(20, 3), (24, 5), (25, 1), (26, 12), (28, 20)], n := 41 } = 762530 := by decide +kernel
/-- Table 9-5: selected edges. -/
theorem test_table_9_5 : (binEdge 0, binEdge 24, binEdge 25, binEdge 31, binEdge 64) =
    (1000, 512000, 663982, 3158448, 16777216000) := by decide +kernel
/-- Example 0-1 and Table 2-1: nominal periods in picoseconds. -/
theorem test_island_periods : (islandPs 0, islandPs 1, islandPs 2, islandPs 6, islandPs 12) = (10000, 556, 500, 833, 417) := by
  decide
/-- R44: a window of island 0 that took 10 % longer than 655,360 ns has a stretch of 409, 10 % of 4,096 truncated. -/
theorem test_stretch : windowStretch 0 720896 = 409 := by decide
/-- R112: from KV_START 1,539 with 600 tokens left and CHUNK_MAX 512 the first chunk feeds 509, the rest 91. -/
theorem test_first_chunk : leadEng.firstChunk 1539 600 = 509 ∧ leadEng.firstChunk 2048 91 = 91 := by decide
/-- Example 4-1: a level of 80,000 credits refills to 92,800 in 2.5 ms at 20,000 tokens a second. -/
theorem test_example_4_1 : refillBucket { rate := 20000, depth := 400000 } { level := 80000 } 2500000 =
    { level := 92800, rem := 0, lastNs := 2500000 } := by decide +kernel
/-- Example 7-1: the processed values of tokens 8,000 and 8,001. -/
theorem test_example_7_1 :
    let q := layout 64 [(0, 4, 0x40000000), (4, 4, 0x3FA00000), (8, 4, 0x3E800000), (12, 4, 0x3F000000)]
    processLogit q true 2 0x40A00000#32 = .value 0x600000000 ∧ processLogit q true 0 0x40100000#32 = .value 0x480000000 ∧
    (massE 32768 + 0, massE 0) = (3037000500, 2147483648) := by decide +kernel
/-- CRC-32C of the digits 1 to 9, the check value of R60's parameters. -/
theorem test_crc32c : crc32c [0x31, 0x32, 0x33, 0x34, 0x35, 0x36, 0x37, 0x38, 0x39] = 0xE3069283 := by decide +kernel

/-! ## One step of some commands -/

/-- A step takes the front command and leaves the rest. -/
theorem test_step_takes_front : step { cold with pending := [.ptpHoldover 5, .pfWarn 6] } =
    exec (.ptpHoldover 5) { cold with pending := [.pfWarn 6] } := rfl
/-- R9: a bad read returns 0. -/
theorem test_bad_read : leaves (exec (.bar2BadAccess 5 false 2) cold) (fun e => e.readData == 0 && e.now == 5) = true := by
  decide +kernel
/-- R370: a free lock is granted, and its lease is LEASE_AON cycles of 10 ns. -/
theorem test_lock_granted : leaves (exec (.lockAcquire 5 7) member)
    (fun e => e.dbg.lock.held && e.dbg.lock.holder == 7 && e.dbg.lock.leaseEnd == 10000005) = true := by decide +kernel
/-- R370: a held lock is not granted to another requester. -/
theorem test_lock_kept : leaves (exec (.lockAcquire 5 8) holder) (fun e => e.dbg.lock.holder == 7) = true := by
  decide +kernel
/-- R371: the holder's write of a staged register does not change it. -/
theorem test_staged : leaves (exec (.stagedWrite 5 Reg.DBG_BREAK_LO 9 7) holder)
    (fun e => e.reg Reg.DBG_BREAK_LO == 0 && e.dbg.lock.staged.length == 1) = true := by decide +kernel
/-- R373: a lease that ended is broken with code 1. -/
theorem test_lease_end : leaves (exec (.lockLeaseEnd 100) holder)
    (fun e => !e.dbg.lock.held && e.dbg.lock.lastBreak == 1) = true := by decide +kernel
/-- R369: an open marker is listed once, and a close removes it. -/
theorem test_mark_opens : leaves (exec (.mark 5 0x00098000) member) (fun e => e.tel.marks == [9]) = true := by decide +kernel
/-- Example 13-1: the selector reads pending until the epoch starts. -/
theorem test_counter_select : leaves (exec (.counterSelect 5 (Reg.TEL_SETA_SEL 0 + 12) 0x02000102) member)
    (fun e => e.view (Reg.TEL_SETA_SEL 0 + 12) == 0x82000102#32) = true := by decide +kernel
/-- Example 13-1: at the next epoch the new selection takes effect with CHANGED set and the live counter at 0. -/
theorem test_epoch_selects :
    leaves (exec (.snapshotEpoch 5) { eng := { memberEng with tel := { memberEng.tel with
        sel := [(3, { force := 0x02000101, pending := some 0x02000102 })], live := [(19, 52400117)] } } })
      (fun e => e.view (Reg.TEL_SETA_SEL 0 + 12) == 0x42000102#32 && Tab.getD e.tel.live 19 0 == 0 &&
        Tab.getD e.tel.snap 19 0 == 52400117) = true := by decide +kernel
/-- R44, R45: a window of AON that took 10 % longer than nominal shows 409, and the excess is added. -/
theorem test_window_end : leaves (exec (.stretchWindowEnd 720896 0) member)
    (fun e => e.fld (Reg.ISL_STRETCH_WIN 0) 15 0 == 409 && e.reg64 (Reg.ISL_STRETCH_PS_LO 0) == 65536000) = true := by
  decide +kernel
/-- R76: an unknown type is answered with MALFORMED at offset 0. -/
theorem test_unknown_type : leaves (exec (.ingressUnknownType 5 (9 :: List.replicate 31 0) 3 1) lead)
    (fun e => e.out.any fun o => match o with
      | .emission 3 b => u8 b 0 == 2 && u8 b 1 == 1 && u32 b 24 == 0
      | _ => false) = true := by decide +kernel
/-- R72, R27: the second slice failure makes the engine declare itself failed. -/
theorem test_second_slice : leaves (exec (.dirSliceFailed 5 2) { eng := { leadEng with dir := { leadEng.dir with failed := 1 } } })
    (fun e => e.failed && e.dir.failed == 5) = true := by decide +kernel
/-- R40: a MOV channel's leg that nothing waits for fails nothing; one that stands since 0 fails at twice its bound. -/
theorem test_leg_bound :
    let d : MDesc := { op := 1, dst := 2, src := 2, count := 1, tag := 1, first := 0, high := true, freeSrc := false,
                       last := true, target := 0xFFFF, ext := 0, seq := 3 }
    let e := { memberEng with mov := { channels := [(4, { cur := some (d, 0), tag := 1 })] } }.noteLegs
    e.pageNs d = 1124 ∧ ({ e with now := 2247 }.legDue (.page 4), { e with now := 2248 }.legDue (.page 4),
      { e with now := 2248 }.legDue (.page 5)) = (false, true, false) := by decide +kernel
/-- R340: a warning starts the hold-up. -/
theorem test_power_fail : leaves (exec (.pfWarn 5) member) (fun e => e.iml.warn && e.iml.hold != 0) = true := by
  decide +kernel
/-- R350: a measurement beyond 1 ms puts the discipline in FAR. -/
theorem test_ptp_fault : leaves (exec (.ptpMeasurement 5 1000001 0) member) (fun e => e.tel.timeState == 4) = true := by
  decide +kernel

/-! ## States that meet the hypotheses of the statements -/

def readyOf (e : Eng) : State := { eng := e }
/-- A session entry of the Lead. -/
def entry1 : Entry := { tag := 1, state := .idle, pin := true, ttlExp := 1 }
def withEntry (x : Entry) : Eng := { leadEng with dir := { leadEng.dir with entries := [(1, x)] } }
def withWing (w : Wing) : Eng := { leadEng with twm := { leadEng.twm with wing := w } }
/-- A Lead of two chips. -/
def pairEng : Eng := { leadEng with img := { leadEng.img with n := 2, roles := [3, 0] } }
def withTest (st kind : Nat) : Eng := { memberEng with dbg := { memberEng.dbg with test := { state := st, kind := kind } } }
def withHold (h : Nat) (since : Nat) : Eng := { memberEng with iml := { memberEng.iml with hold := h, since := since } }
/-- The two checked messages of 64 bytes. -/
def message (kind : Nat) : Bytes := withCrc (layout 60 [(0, 1, kind)])
/-- A sealed message with no entries. -/
def sealedEmpty : Bytes := sealAt (zeros 16) 12
/-- A command word of an operation. -/
def word1 (op : Nat) : Bytes :=
  let b := layout 30 [(0, 1, op)]
  b ++ leBytes 2 (crc32c b)
def job1 : Job := { id := 1, model := 0, instar := 5 }
def withJob (j : Job) : Eng := { memberEng with dsq := { memberEng.dsq with parts := [(0, { jobs := [j] })] } }
def order1 (k : Nat) : Order := { kind := k, tier := 2, tag := 1, kvLen := 16 }

theorem witness_StepRunsFrontCommand : ({ eng := Eng.cold, pending := [.pfWarn 6] } : State).pending = .pfWarn 6 :: [] := rfl
theorem witness_CompletesExactlyWhenWellFormed : (Instr.pfWarn (2 ^ 64)).wf = false := by decide
/-- A well-formed command completes. -/
theorem completes (c : Instr) (s : State) (h : c.wf = true) : ∃ t, exec c s = .next t := by
  obtain ⟨n, f, hf⟩ := exec_run c
  exact ⟨_, (hf s).trans (State.run_wf s c n f h)⟩
theorem witness_QueueAndOutputsAreNotRead : ∃ t, exec (.peekRead 5 0x800000) cold = .next t := completes _ _ (by decide)
def waiting2 : State := { eng := Eng.cold, pending := [.peekRead 5 0, .pfWarn 6] }
theorem witness_StepKeepsStateOk : waiting2.Ok ∧ ∃ t, step waiting2 = .next t :=
  ⟨⟨by decide, by decide⟩, completes (.peekRead 5 0) { waiting2 with pending := [.pfWarn 6] } (by decide)⟩
theorem witness_RunTakesTheQueueInOrder : waiting2.Ok := ⟨by decide, by decide⟩
def quietEng : Eng := { memberEng with ing := { memberEng.ing with reason := memberEng.stopReason } }
theorem witness_NothingFollowsAtQuietEngine : cold.eng.up = false ∧ quietEng.up = true ∧ quietEng.Quiet :=
  ⟨by decide, by decide, by unfold Eng.Quiet; decide +kernel⟩
theorem witness_BadAccessHasNoEffect : 5 < 2 ^ 64 := by decide
theorem witness_PeekReadsHaveNoSideEffect : 5 < 2 ^ 64 ∧ 0x3FFFFC < 0x400000 ∧ pairLo Reg.GLB_ID = none ∧
    pairLo (Reg.ISL_CYCLES_LO 0) = some (Reg.ISL_CYCLES_LO 0) ∧
    pairLo (Reg.ISL_CYCLES_HI 0) = some (Reg.ISL_CYCLES_LO 0) ∧ Reg.ISL_CYCLES_LO 0 ≠ Reg.ISL_CYCLES_HI 0 ∧
    (cold.found 5).serves (Reg.ISL_CYCLES_HI 0) = true := by decide +kernel
theorem witness_HiReadReturnsLatchedHalf : 6 < 2 ^ 64 ∧ pairLo (Reg.ISL_CYCLES_LO 17) = some (Reg.ISL_CYCLES_LO 17) ∧
    pairLo (Reg.ISL_CYCLES_LO 17 + 4) = some (Reg.ISL_CYCLES_LO 17) ∧ Reg.ISL_CYCLES_LO 17 < 0x800000 ∧
    cold.eng.serves (Reg.ISL_CYCLES_LO 17 + 4) = true := by decide +kernel
/-- A register with an RC field and one without. -/
theorem witness_ReadsClearOnlyTheirFields :
    (∃ r, (member.found 5).hostReg (Reg.ISL_STRETCH_WIN 17) = some r ∧ accMask r .rc ≠ 0) ∧
    pairLo (Reg.ISL_STRETCH_WIN 17) = none ∧
    (∃ r, (member.found 5).hostReg Reg.GLB_ID = some r ∧ accMask r .rc = 0) ∧ pairLo Reg.GLB_ID = none :=
  ⟨⟨_, rfl, by decide +kernel⟩, by decide +kernel, ⟨_, rfl, by decide +kernel⟩, by decide +kernel⟩
theorem witness_AbsentRegistersReadZero : regAt 0x3FFFFC = none ∧ 0x3FFFFC % 4 = 0 ∧
    (cold.found 5).serves Reg.DSQ_STEP = false := by decide +kernel
theorem witness_RegisterFileReadsBack : Tab.wf (memberEng.setReg Reg.DBG_BREAK_LO 9).regs = true := by decide +kernel
theorem witness_LockIsGrantedAndRenewed : (member.found 5).dbg.lock.held = false ∧ (member.found 5).tel.queue.length < 64 ∧
    65535 < 65536 ∧ (holder.found 5).dbg.lock.held = true ∧ (holder.found 5).dbg.lock.holder = 7 := by decide +kernel
theorem witness_OtherRequestersAreIgnored : (holder.found 5).dbg.lock.held = true ∧ (holder.found 5).dbg.lock.holder ≠ 8 := by
  decide +kernel
/-- The holder with one staged write, of a register that is no half of a pair. -/
def staged1 : Staged := { off := Reg.PGV_CTRL, val := 1 }
def holding (l : Lock) : State := { eng := { memberEng with dbg := { memberEng.dbg with lock := l } } }
def holder1 : State := holding { held := true, holder := 7, staged := [staged1] }
def overflown : State := holding { held := true, holder := 7, staged := List.replicate 256 staged1, overflow := true }
theorem witness_StagedWritesWait : (∃ r, (holder.found 5).hostReg Reg.DBG_BREAK_LO = some r ∧ r.fields ≠ [] ∧
      (∀ f ∈ r.fields, f.acc = .rwl) ∧ accMask r .rwl ≠ 0) ∧ immediate Reg.DBG_BREAK_LO = false ∧
    (holder.found 5).holds 7 = true ∧ (holder.found 5).dbg.lock.staged.length < 256 ∧
    (overflown.found 5).holds 7 = true ∧ 256 ≤ (overflown.found 5).dbg.lock.staged.length :=
  ⟨⟨_, rfl, by decide +kernel⟩, by decide +kernel⟩
theorem witness_ReleaseCommitsTheList : (holder1.found 5).holds 7 = true ∧ (holder1.found 5).tel.queue.length < 64 ∧
    (holder1.found 5).dbg.lock.overflow = false ∧ (holder1.found 5).dbg.lock.staged = [{ off := Reg.PGV_CTRL, val := 1 }] ∧
    (∃ r, regAt Reg.PGV_CTRL = some r ∧ r.half = .one) ∧ (overflown.found 5).holds 7 = true ∧
    (overflown.found 5).dbg.lock.overflow = true :=
  ⟨by decide +kernel, by decide +kernel, by decide +kernel, by decide +kernel, ⟨_, rfl, by decide +kernel⟩,
    by decide +kernel, by decide +kernel⟩
theorem witness_BrokenLeaseDiscardsTheList : (holder.found 100).dbg.lock.held = true ∧
    (holder.found 100).tel.queue.length < 64 ∧ (holder.found 100).dbg.lock.leaseEnd ≤ (holder.found 100).now := by
  decide +kernel
theorem witness_StretchWindowIsMeasured : 17 < 18 ∧ (member.stamp 5).islandRuns 17 = true ∧ (cold.stamp 5).islandRuns 0 = true ∧
    Tab.wf member.eng.regs = true := by decide +kernel
/-- An epoch of all four slices of which one has failed. -/
def sliced : Eng := { leadEng with dir := { leadEng.dir with slots := [(0, { epoch := 0, k1 := 1, mask := 15 })], failed := 14 } }
theorem witness_SessionsGoToWorkingSlices : Tab.get? sliced.dir.slots (tagGen 1 % 4) = some { epoch := 0, k1 := 1, mask := 15 } ∧
    sliced.failedOrOffline < 15 := by decide +kernel
theorem witness_SliceFailureIsRecorded : lead.eng.up = true ∧ lead.eng.isLead = true ∧ bit (lead.found 5).dir.failed 3 = false ∧
    bit ((readyOf sliced).found 5).dir.failed 3 = true := by decide +kernel
theorem witness_WindowTakesEachSequenceOnce : (windowCheck {} 1).1 = .new ∧ (windowCheck { high := 4096 } 0).1 = .stale ∧
    (windowCheck { high := 4097 } 1).1 = .stale ∧ (windowCheck { high := 4096 } 1).1 = .new ∧
    (windowCheck { high := 9 } 10).1 = .new := by decide +kernel
theorem witness_UnknownTypesAreRejected : lead.eng.up = true ∧ (lead.found 5).isLead = true ∧ (lead.found 5).up = true ∧
    recType [0] = 0 ∧ 7 < recType [8] ∧ 1 ≤ recType [6, 2] ∧ recType [6, 2] ≤ 6 ∧ u8 [6, 2] 1 ≠ 1 := by decide +kernel
def key1 (k : Nat) : Key := { kind := k, ls := 0, share := 0, tIn := 0, tag := 0 }
theorem witness_CompositionOrderIsTotal : (key1 0).lt (key1 1) = true ∧ (key1 1).lt (key1 2) = true ∧
    (key1 0).lt (key1 0) = false := by decide
/-- A prefill of 600 tokens from 1,539, and bounds that admit anything. -/
def prefill1 : DEntry := { tag := 1, kvStart := 1539, feed := 600, kind := 0 }
def noBounds : Bounds := { widthCap := 1, tbt := 2 ^ 60, sigma := 0, limit := 0, basePs := 0, allows := [], noPrefill := false,
                           idleReq := false, quietReq := false, idleUs := 0 }
theorem witness_ChunksEndOnPages :
    leadEng.sizeChunk noBounds [] prefill1 = .ok { prefill1 with feed := 509 } ∧
    leadEng.sizeChunk noBounds [] { prefill1 with kvStart := 2048, feed := 91 } =
      .ok { prefill1 with kvStart := 2048, feed := 91, kind := 1, samplePos := 2139 } := ⟨rfl, rfl⟩
theorem witness_ScaleCountsSaturate : Tab.wf (Tab.getD leadEng.smp.master 1 []) = true ∧
    Tab.get? ([(7, 4095)] : Tab Nat) 7 = some 4095 ∧ Tab.get? ([] : Tab Nat) 7 = none ∧ ([] : Tab Nat).length < 4096 := by
  decide +kernel
def withWait (n : Nat) : Eng :=
  { leadEng with pln := { leadEng.pln with waits := [(waitKey 0 0, { bins := [(3, n)], n := n })] } }
theorem witness_WaitRecordsHalve :
    ((readyOf (withWait 1024)).found 5).waitRec (waitKey 0 0) = some { bins := [(3, 1024)], n := 1024 } ∧
    ((readyOf (withWait 1024)).found 5).param 0x0802 ≤ 1024 ∧ Tab.wf ([(3, 1024)] : Tab Nat) = true ∧
    ((readyOf (withWait 1023)).found 5).waitRec (waitKey 0 0) = some { bins := [(3, 1023)], n := 1023 } ∧
    1023 < ((readyOf (withWait 1023)).found 5).param 0x0802 := by decide +kernel
theorem witness_PinsLapse : ((readyOf (withEntry entry1)).found 5).find 1 = some entry1 ∧ entry1.pin = true ∧
    (((readyOf (withEntry entry1)).found 5).chr 1).pinExp ≤ ((readyOf (withEntry entry1)).found 5).now := by decide +kernel
theorem witness_AcknowledgementsNeverFallBack : (zeros 16).length = 16 ∧
    ((readyOf (withEntry entry1)).found 5).find (u32 [1, 0, 0, 0] 0) = some entry1 ∧
    ((readyOf (withEntry entry1)).found 5).labelFits 3 entry1.tenant = false ∧ (lead.found 5).find 1 = none := by
  decide +kernel
def leased : Eng := { leadEng with twm := { leadEng.twm with wing := .solo, lease := some 5 } }
theorem witness_LeaseEndFencesTheWing : ((readyOf leased).found 5).twm.lease = some 5 ∧ 5 ≤ ((readyOf leased).found 5).now ∧
    ((readyOf leased).found 5).twm.wing = .solo := by decide +kernel
def flashing (op : Nat) : Eng := { memberEng with iml := { memberEng.iml with opBusy := some (op, 0) } }
theorem witness_FlashOperationsActOnTheirBytes : Tab.wfD 0xFF ((readyOf (flashing 1)).found 5).iml.flash.cells = true ∧
    ((readyOf (flashing 1)).found 5).iml.opBusy = some (1, 0) ∧ ((readyOf (flashing 0)).found 5).iml.opBusy = some (0, 0) ∧
    (readyOf (flashing 1)).eng.aonUp = true := by decide +kernel
/-- A flash whose programs and erases may take 1 ms. -/
def flashingSince (op since : Nat) : Eng :=
  { flashing op with iml := { (flashing op).iml with
      opSince := since, fm := { (flashing op).iml.fm with eraseMs := 1, progUs := 1000 } } }
theorem witness_FlashOperationsActOnTheirBytes_times :
    ((readyOf (flashingSince 1 5)).found 5).opLate 1 = false ∧ ((readyOf (flashingSince 0 5)).found 5).opLate 0 = false ∧
    ((readyOf (flashingSince 0 5)).found 2000005).opLate 0 = false ∧ ((readyOf (flashingSince 0 5)).found 2000006).opLate 0 = true := by
  decide +kernel
theorem witness_PowerFailureStopsAdmission : member.eng.aonUp = true ∧ (member.found 5).iml.warn = false ∧
    (member.found 5).iml.hold = 0 ∧ (member.found 5).cmp.heldDesc = none ∧ (member.found 5).dsq.held = [] := by decide +kernel
theorem witness_TelemetryBuffersAreBounded : memberEng.tel.queue.length ≤ 64 ∧ memberEng.tel.fifo.length ≤ 512 ∧
    memberEng.tel.marks.length ≤ 16 := by decide +kernel
theorem witness_CountersWrap : 31 < 32 ∧ Tab.wf memberEng.tel.live = true ∧ Tab.wf memberEng.regs = true := by decide +kernel

/-! ### The statements of completion, clause by clause -/

theorem witness_HostReadsComplete : 0x800000 ≤ 0xBFFFFF ∧ 0xBFFFFF < 0xC00000 ∧
    pairLo (Reg.ISL_CYCLES_LO 17) = some (Reg.ISL_CYCLES_LO 17) := by decide +kernel
theorem witness_HostWritesComplete : 3 < 4 ∧ (member.found 5).hasAcc Reg.ISL_OVER_LIMIT .w1c = true ∧
    pairLo Reg.DBG_BREAK_LO = some Reg.DBG_BREAK_LO ∧ pairLo Reg.DBG_BREAK_HI = some (Reg.DBG_BREAK_HI - 4) ∧
    4 ≤ Reg.DBG_BREAK_HI ∧ (member.found 5).hasAcc Reg.DBG_BREAK_LO .rwl = true ∧ immediate Reg.DBG_BREAK_LO = false ∧
    15 < 16 ∧ (member.found 5).aonUp = true := by decide +kernel
theorem witness_LockCommandsComplete : (member.found 5).dbg.lock.held = false ∧ (holder.found 100).holds 7 = true ∧
    (holder.found 100).dbg.lock.held = true ∧ (holder.found 100).dbg.lock.leaseEnd ≤ (holder.found 100).now := by decide +kernel
/-- A lane test under way while a stream has waited 10 µs. -/
def laneTest : Eng :=
  let e := withTest 2 1
  { e with smp := { e.smp with waiting :=
    [{ tag := 1, pos := 0, instar := 0, draw := 0, fmt := 0, first := 0, count := 0, model := 0, raw := [] }] } }
theorem witness_DebugCommandsComplete : member.eng.aonUp = true ∧
    ({ memberEng.dbg with copying := some (5, 0) } : Dbg).copying = some (5, 0) ∧ (holder.found 5).holds 7 = true ∧
    (holder.found 5).up = true ∧
    (let e := (readyOf { withTest 1 3 with img := { memberEng.img with params := [(0x0B0E * 65536, 1)] } }).found 5
     e.dbg.test.state = 1 ∧ e.testMayStart = true) ∧
    ((readyOf (withTest 2 3)).found 80000).dbg.test.state = 2 ∧
    (let e := (readyOf laneTest).found 10000
     e.dbg.test.state = 2 ∧ e.dbg.test.kind = 1 ∧ ∃ r ∈ e.smp.waiting, r.since + 10000 ≤ e.now ∧ e.streamReady r = true) := by
  decide +kernel
theorem witness_IslandCommandsComplete : 17 < 18 ∧ (member.stamp 5).islandRuns 17 = true ∧ member.eng.up = true ∧
    (member.found 5).legDue (.window 65535) = false := by
  decide +kernel
/-- A Lead in a pair that owns every block. -/
def paired : Eng := { withWing .paired with dir := { leadEng.dir with ownBase := 2 } }
theorem insertBy_length {α : Type} (le : α → α → Bool) (a : α) (l : List α) : (insertBy le a l).length = l.length + 1 := by
  induction l with
  | nil => rfl
  | cons b l ih => simp only [insertBy]; split <;> simp [ih]
theorem sortBy_length {α : Type} (le : α → α → Bool) (l : List α) : (sortBy le l).length = l.length := by
  induction l with
  | nil => rfl
  | cons a l ih =>
    change (insertBy le a (sortBy le l)).length = _
    rw [insertBy_length, ih, List.length_cons]
theorem grantable_paired (t : Nat) : ((readyOf paired).found t).heard.grantable 1 ≠ [] := by
  have all : (List.range 65536).filter (fun b => ((readyOf paired).found t).heard.owns b &&
      !((readyOf paired).found t).heard.blockLive b && !((readyOf paired).found t).heard.dir.granting.contains b) =
      List.range 65536 := by
    rw [List.filter_eq_self]
    intro b _
    rfl
  intro h
  have := congrArg List.length h
  simp only [Eng.grantable, all, List.length_take, sortBy_length, List.length_range, List.length_nil] at this
  omega
def expiring : Eng :=
  let e := withEntry { entry1 with residency := 0 }
  { e with twm := { e.twm with wing := .paired }, img := { e.img with tenants := [(0, { expiry := 1 })] } }
theorem witness_DirectoryCommandsComplete : lead.eng.up = true ∧ lead.eng.isLead = true ∧ 3 < 4 ∧
    Tab.get? ([(1, { slice := 0 })] : Tab Fill) 1 = some { slice := 0 } ∧ ({ slice := 0 } : Fill).copyB = false ∧
    Tab.get? ([(1, { slice := 0, copyB := true })] : Tab Fill) 1 = some { slice := 0, copyB := true } ∧
    ({ leadEng.dir with copyTo := some 3 } : Dir).copyTo = some 3 ∧ leadEng.dir.aOk = true ∧
    twinMsgOk (message 0x22) 0x22 = true ∧ ((readyOf paired).found 5).heard.twm.wing = .paired ∧
    ((readyOf paired).found 5).heard.isLead = true ∧
    (let e := (readyOf expiring).found (2 ^ 40)
     e.find 1 = some { entry1 with residency := 0 } ∧ e.expired { entry1 with residency := 0 } = true) ∧
    (let e := (readyOf { withEntry { entry1 with state := .held, hold := 1 } with twm := paired.twm }).found 5
     e.find 1 = some { entry1 with state := .held, hold := 1 } ∧ entry1.moving = false ∧ e.undurable 1 = false ∧ e.twm.wing = .paired ∧
     e.twm.dual = false ∧ crcOk [] 64 = false) := by decide +kernel
theorem witness_IngressCommandsComplete : member.eng.up = true := by decide +kernel
def kept1 : Eng := { pairEng with cmp := { pairEng.cmp with kept := [{ num := 5, raw := [] }] } }
def idling : Eng :=
  let e := withWing .paired
  { e with cmp := { e.cmp with flights := [{ num := 5, launched := true, idle := true }] } }
theorem witness_ComposingCommandsComplete : pairEng.up = true ∧
    (let e := (readyOf kept1).found 5
     let msg := layout 16 [(0, 6, 5), (8, 1, 1)]
     msg.length = 16 ∧ e.children.contains (u8 msg 8) = true ∧ e.cmp.askedFor ≠ some (u48 msg 0) ∧
     (e.cmp.kept.find? fun d => d.num == u48 msg 0) = some { num := 5, raw := [] }) ∧
    (zeros 64).length = 64 ∧ lead.eng.isLead = true ∧
    (let e := (readyOf idling).found 5
     let f : Flight := { num := 5, launched := true, idle := true }
     e.inFlight = some f ∧ f.idle = true ∧ f.launched = true ∧ e.commits = true ∧ f.launch + f.idleNs ≤ e.now) ∧
    ({ leadEng.pln with matching := [1] } : Pln).matching.contains 1 = true := by decide +kernel
theorem witness_HeadCommandsComplete : ∀ op ∈ [1, 2, 3, 4, 5, 6, 15],
    (let e := (readyOf (withJob job1)).found 5
     e.job? 0 1 = some job1 ∧ e.takesCommand 0 job1 = true ∧ e.mayFetch op job1 (word1 op) = true ∧
     cmdOk (word1 op) = true ∧ e.stepHolds 0 job1 = false) := by decide +kernel
def kernel1 : Kern := { id := 0, phase := 0, start := 0, groups := [0], wcet := 1 }
def running1 : Job := { job1 with st := .running, kern := some kernel1 }
theorem witness_DispatchCommandsComplete : 1599 < 1600 ∧ 15 < 16 ∧ member.eng.up = true ∧
    (let e := (readyOf (withJob running1)).found 5
     e.job? 0 1 = some running1 ∧ running1.kernelRuns = true ∧ running1.kern = some kernel1 ∧
     e.param 0x0700 * kernel1.wcet < (kernel1.ran + (e.now - kernel1.start)) * 1000) ∧
    (Tab.get? ([(0, {})] : Tab PartCfg) 0).isSome = true ∧ ({ mode := 1 } : Part).mode = 1 ∧ lead.eng.isLead = true := by
  decide +kernel
def stream1 : Stream := { tag := 1, pos := 2, instar := 0, draw := 0, fmt := 0, first := 0, count := 0, model := 0, raw := [] }
def merged1 : Merged := { instar := 5, tag := 0, pos := 0 }
theorem witness_SamplingCommandsComplete : 63 < 64 ∧ (lead.found 5).isTail = true ∧ selectOk sealedEmpty = true ∧
    ({ leadEng.smp with edgeReads := [1] } : Smp).edgeReads.contains 1 = true ∧
    (([stream1].find? fun r => r.tag == 1 && r.pos == 2) = some stream1) ∧ lead.eng.isLead = true ∧
    (let e := (readyOf { leadEng with smp := { leadEng.smp with merged := [merged1] } }).found 5
     e.positionAt (u32 sealedEmpty 0) (u32 sealedEmpty 4) = some merged1 ∧
     merged1.noted.contains (u8 sealedEmpty 10) = false ∧ noteOk sealedEmpty = true) := by decide +kernel
theorem witness_ToolCommandsComplete : lead.eng.up = true ∧ lead.eng.isLead = true := by decide +kernel
theorem witness_OrderCommandsComplete : ∀ k ∈ [1, 2, 3, 4, 5, 6, 7, 8, 9, 10],
    Order.parse (order1 k).bytes = some (order1 k) ∧ (order1 k).kind = k := by decide +kernel
theorem witness_PlacementTimersComplete : lead.eng.up = true ∧ lead.eng.isLead = true ∧
    (let p : Pln := { leadEng.pln with held := [(9, order1 1)] }
     p.onDie < p.held.length ∧ p.onDie < 4096) ∧
    (let e := (readyOf (withEntry entry1)).found 2048
     e.find 1 = some entry1 ∧ entry1.state = .idle ∧ entry1.moving = false ∧ entry1.ttlExp ≠ 0 ∧
     entry1.ttlExp ≤ actTime e.now ∧ (e.chipRec 1).dec = none ∧ entry1.pin = true ∧ (e.chr 1).pinExp ≤ e.now) ∧
    2 ^ 20 ≤ ({ leadEng.pln with firsts := 2 ^ 20 } : Pln).firsts := by decide +kernel
theorem witness_MoveCommandsComplete : 63 < 64 ∧ 7 < 8 ∧ member.eng.up = true ∧ (lead.found 5).isLead = true ∧
    (member.found 5).isLead = false := by decide +kernel
theorem witness_JournalCommandsComplete : lead.eng.up = true ∧ lead.eng.isLead = true ∧ u8 [0x10] 0 = 0x10 ∧ u8 [0x11] 0 = 0x11 ∧
    (let e := (readyOf { leadEng with twm := { leadEng.twm with handshake := true } }).found 60000000000
     e.twm.handshake = true ∧ e.twm.lastRx + 10000000 ≤ e.now ∧ e.stopping = false ∧
     e.twm.lastSnap + e.param 0x0C05 * 1000000000 ≤ e.now) ∧ bit (0x80000000#32).toNat 31 = true := by decide +kernel
theorem witness_WingCommandsComplete : twinMsgOk (message 0x21) 0x21 = true ∧ lead.eng.isLead = true ∧
    (let e := (readyOf leased).found 500000000
     e.twm.wing = .solo ∧ e.twm.lease = some 5 ∧ 5 ≤ e.now ∧ e.twm.retryAt + 500000000 ≤ e.now) ∧
    (let e := (readyOf (withWing .seeking)).found 30000000000
     e.twm.wing = .seeking ∧ e.twm.paused = false ∧ e.twm.seekSince + 30000000000 ≤ e.now) ∧
    (let e := (readyOf (withWing .fenced)).found 500000000
     e.twm.wing = .fenced ∧ e.twm.dual = false ∧ e.twm.retryAt + 500000000 ≤ e.now) ∧ (zeros 16).length = 16 ∧
    (let e := (readyOf { withEntry entry1 with twm := paired.twm }).found 5000000
     e.twm.wing = .paired ∧ e.twm.dual = false ∧ e.ing.mismatch = false ∧ (e.find 1).isSome = true ∧
     (e.emitOf 1).lastSent + e.param 0x0C01 * 1000 ≤ e.now) := by decide +kernel
theorem witness_PowerSamplingCommandsComplete : 1 < 2 ∧ member.eng.aonUp = true := by decide +kernel
def laddered (l : Nat) : Eng := { leadEng with pgv := { leadEng.pgv with ladder := l, defSince := some 0, surSince := some 0 } }
theorem witness_LadderCommandsComplete :
    (let e := (readyOf (laddered 0)).found 10000000
     e.pgv.defSince = some 0 ∧ 0 + 1000000 ≤ e.now ∧ e.pgv.surSince = some 0 ∧ 0 + 10000000 ≤ e.now) ∧
    (let e := (readyOf (laddered 4)).found 50000000
     e.pgv.ladder = 4 ∧ e.pgv.idleSince + 50000000 ≤ e.now ∧ e.capEff < 1601) ∧
    (let e := (readyOf (laddered 5)).found 5
     e.pgv.ladder = 5 ∧ 1600 ≤ e.capEff) ∧ lead.eng.up = true ∧ lead.eng.isLead = true ∧ lead.eng.aonUp = true := by
  decide +kernel
def uncooled : Eng := { memberEng with pgv := { memberEng.pgv with coolLost := some 0 } }
theorem witness_AlarmCommandsComplete : 5 < 6 ∧ member.eng.aonUp = true ∧
    (let e := (readyOf uncooled).found 2000000000
     e.pgv.coolLost = some 0 ∧ e.policy = 1 ∧ 0 + 2000000000 ≤ e.now ∧ e.pgv.coolHigh = none ∧
     16 * e.param 0x0B17 ≤ 1680 ∧ e.pgv.critSince = none) := by decide +kernel
theorem witness_BootCommandsComplete : 5 < 6 ∧ 17 < 18 ∧ cold.eng.iml.phase = 0 ∧ member.eng.aonUp = true ∧
    63 < 64 ∧ (∀ u ∈ [BistUnit.slice 3, .channel 63, .core 1599 15, .stack 7 true, .target 65535, .phase 5 15, .sense 1],
      u.ok = true) ∧
    (member.found 5).islandRuns 17 = true ∧ (holder.found 5).holds 7 = true ∧
    (let s : State := readyOf { leadEng with dbg := holder.eng.dbg }
     (s.found 5).holds 7 = true ∧ (s.found 5).isLead = true ∧ (s.found 5).up = true) := by decide +kernel
theorem witness_HoldupCommandsComplete : 5 < 6 ∧ member.eng.aonUp = true ∧ (member.found 5).iml.warn = false ∧
    (member.found 5).iml.hold = 0 ∧
    (let e := (readyOf (withHold 3 0)).found 200000000
     e.iml.hold = 3 ∧ e.iml.since + e.param 0x0100 * 1000000 ≤ e.now) ∧
    (let e := (readyOf (withHold 5 0)).found 100000000
     e.iml.hold = 5 ∧ e.iml.since + 100000000 ≤ e.now ∧ e.iml.warn = false) := by decide +kernel
/-- An event at the front of the queue. -/
def notice1 : Notice := memberEng.notice 0xD3 2 0 []
theorem witness_TelemetryCommandsComplete : 3 < 4 ∧ member.eng.aonUp = true ∧
    ({ memberEng.tel with queue := [notice1] } : Tel).queue = notice1 :: [] ∧
    (let e := (readyOf { memberEng with tel := { memberEng.tel with timeState := 2 } }).found 2000000000
     e.tel.timeState = 2 ∧ e.tel.lastMeas + 2000000000 ≤ e.now) ∧
    (let e := (readyOf { memberEng.setReg Reg.TEL_TRACE_CTRL 0x80000000 with tel := { memberEng.tel with fifo := [[]] } }).found 5
     e.tel.fifo = [] :: [] ∧ e.fld Reg.TEL_TRACE_CTRL 31 31 = 1) := by decide +kernel

end Sys2Proof.Tests
end

section
/-! Host accesses of BAR2 (00 R9 to R14): how a command runs, where registers are, what a read and a write do; and the
statements about them. -/

namespace Sys2Proof

/-- What a table whose unlisted keys read `d` lists after a write: never `d` at the key written. -/
theorem Tab.get?_write {α : Type} [DecidableEq α] {m : Tab α} (d : α) (k j : Nat) (v : α) (h : Tab.wf m = true) :
    Tab.get? (Tab.write m d k v) j = if j = k then (if v = d then none else some v) else Tab.get? m j := by
  unfold Tab.write
  split
  · rw [Tab.get?_del k j h]
  · rw [Tab.get?_put]

/-! ## Where registers are -/

/-- Every register of the index stands on a 32-bit boundary (14 R404). -/
theorem regRowsAt_aligned (off : Nat) : ∀ r ∈ regRowsAt off, r.base % 4 = 0 ∧ r.stride % 4 = 0 := by
  unfold regRowsAt
  split
  · decide
  · split
    · decide
    · split
      · decide
      · split <;> decide

theorem regAt_aligned {off : Nat} {r : RegRow} (h : regAt off = some r) : off % 4 = 0 := by
  obtain ⟨hb, hs⟩ := regRowsAt_aligned off r (List.mem_of_find?_eq_some h)
  have hp := List.find?_some h
  simp only [decide_eq_true_eq] at hp
  obtain ⟨hle, hmod, -⟩ := hp
  have hd : 4 ∣ off - r.base := (Nat.dvd_of_mod_eq_zero hs).trans (Nat.dvd_of_mod_eq_zero hmod)
  omega

end Sys2Proof

namespace Sys2Proof.Machine

/-- Below the tenant view pages an offset without a register belongs to no pair. -/
theorem pairLo_of_absent {off : Nat} (ho : off < 0x400000) (h : regAt off = none) : pairLo off = none := by
  have hp : ¬ (0x400000 ≤ off ∧ off < 0x800000) := by omega
  simp [pairLo, hp, h]

/-- Below the tenant view pages the halves of pairs stand on 32-bit boundaries. -/
theorem pairLo_aligned {off lo : Nat} (ho : off < 0x400000) (h : pairLo off = some lo) : off % 4 = 0 := by
  cases hr : regAt off with
  | none => simp [pairLo_of_absent ho hr] at h
  | some r => exact regAt_aligned hr

/-- A lo half stands on a 32-bit boundary wherever it is, and its hi half is on the same side of the peek aperture. -/
theorem pairLo_self {off : Nat} (hb : off < 0x800000) (h : pairLo off = some off) :
    off % 4 = 0 ∧ off + 4 < 0x800000 := by
  by_cases hp : 0x400000 ≤ off
  · rw [pairLo, if_pos ⟨hp, hb⟩] at h
    split at h
    · have := Option.some.inj h
      omega
    · cases h
  · exact ⟨pairLo_aligned (by omega) h, by omega⟩

/-! ## Which island serves a register -/

/-- Whether a register is served is a matter of the phase of start-up (14 R398). -/
theorem Eng.serves_of_iml {d e : Eng} (h : d.iml = e.iml) (off : Nat) : d.serves off = e.serves off := by
  simp only [Eng.serves, Eng.aonUp, Eng.up, h]

theorem Eng.view_of_not_served {e : Eng} {off : Nat} (h : e.serves off = false) : e.view off = 0 := by
  simp [Eng.view, h]

theorem Eng.view_of_absent {e : Eng} {off : Nat} (ho : off < 0x400000) (h : regAt off = none) : e.view off = 0 := by
  have hp : ¬ (0x400000 ≤ off ∧ off < 0x800000) := by omega
  simp [Eng.view, h, hp]

theorem Eng.view_of_unaligned {e : Eng} {off : Nat} (h : off % 4 ≠ 0) : e.view off = 0 := by
  simp [Eng.view, h]

/-! ## The register that an access reaches -/

theorem Eng.hostReg_of_high (e : Eng) {off : Nat} (h : 0x400000 ≤ off) : e.hostReg off = none := by
  simp [Eng.hostReg, h]

theorem Eng.hostReg_of_absent (e : Eng) {off : Nat} (h : regAt off = none ∨ e.serves off = false) :
    e.hostReg off = none := by
  unfold Eng.hostReg
  split
  · rfl
  · next hs =>
    rcases h with h | h
    · exact h
    · simp [h] at hs

/-- A register that is reached is aligned and outside the tenant view pages and the peek aperture. -/
theorem Eng.hostReg_some {e : Eng} {off : Nat} {r : RegRow} (h : e.hostReg off = some r) :
    off % 4 = 0 ∧ off < 0x400000 := by
  unfold Eng.hostReg at h
  split at h
  · cases h
  · omega

/-! ## What a read returns -/

/-- Below the peek aperture, a register that is no hi half reads its live value. -/
theorem Eng.readValue_live (e : Eng) {off : Nat} (ho : off < 0x800000) (h : pairLo off = none ∨ pairLo off = some off) :
    e.readValue off = e.view off := by
  have hp : ¬ (0x800000 ≤ off ∧ off < 0xC00000) := by omega
  by_cases ha : off % 4 = 0
  · rcases h with h | h <;> simp [Eng.readValue, ha, hp, h]
  · simp [Eng.readValue, ha, Eng.view_of_unaligned ha]

/-- A hi half reads the shadow of its pair (R13). -/
theorem Eng.readValue_hi (e : Eng) {off lo : Nat} (ho : off < 0x800000) (ha : off % 4 = 0) (h : pairLo off = some lo)
    (hlo : lo ≠ off) (hs : e.serves off = true) : e.readValue off = Tab.getD e.shadow lo 0 := by
  have hp : ¬ (0x800000 ≤ off ∧ off < 0xC00000) := by omega
  simp [Eng.readValue, ha, hp, h, hlo, hs]

/-- Where no register is served, a read returns 0 (R10, R398). -/
theorem Eng.readValue_absent (e : Eng) {off : Nat} (ho : off < 0x400000) (h : regAt off = none ∨ e.serves off = false) :
    e.readValue off = 0 := by
  rcases h with h | h
  · rw [e.readValue_live (by omega) (.inl (pairLo_of_absent ho h)), Eng.view_of_absent ho h]
  · have hp : ¬ (0x800000 ≤ off ∧ off < 0xC00000) := by omega
    cases hlo : pairLo off <;> simp [Eng.readValue, hp, hlo, h, Eng.view_of_not_served h]

/-! ## What a read does -/

/-- What every read does, before RC fields clear: it returns its value, and a lo half latches its hi half (R13). -/
def Eng.latched (e : Eng) (off : Nat) : Eng :=
  { e with
    readData := e.readValue off
    shadow := if pairLo off = some off then Tab.put e.shadow off (e.view (off + 4)) else e.shadow }

/-- A read of no pair's lo half latches nothing. -/
theorem Eng.latched_of_not_lo (e : Eng) {off : Nat} (h : pairLo off ≠ some off) :
    e.latched off = { e with readData := e.readValue off } := by
  simp [Eng.latched, h]

/-- A read that reaches no register only returns and latches. -/
theorem Eng.hostRead_none {e : Eng} {off : Nat} (same : Word) (h : e.hostReg off = none) :
    e.hostRead off same = e.latched off := by
  by_cases hlo : pairLo off = some off <;> simp only [Eng.hostRead, Eng.latched, h, hlo, if_true, if_false]

/-- A read of a register returns, latches, and clears the RC fields but for what arrives in that cycle (R11). -/
theorem Eng.hostRead_some {e : Eng} {off : Nat} {r : RegRow} (same : Word) (h : e.hostReg off = some r) :
    e.hostRead off same = if accMask r .rc = 0 then e.latched off
      else (e.latched off).setReg off ((e.reg off &&& ~~~(accMask r .rc)) ||| (same &&& accMask r .rc)) := by
  by_cases hlo : pairLo off = some off <;> simp only [Eng.hostRead, Eng.latched, h, hlo, if_true, if_false]

/-- All that a read can do: return, latch, and change the register file. -/
theorem Eng.hostRead_eq_latched (e : Eng) (off : Nat) (same : Word) :
    ∃ regs, e.hostRead off same = { e.latched off with regs := regs } := by
  cases h : e.hostReg off with
  | none => exact ⟨e.regs, Eng.hostRead_none same h⟩
  | some r =>
    rw [Eng.hostRead_some same h]
    split
    · exact ⟨e.regs, rfl⟩
    · exact ⟨_, rfl⟩

@[simp] theorem Eng.hostRead_readData (e : Eng) (off : Nat) (same : Word) :
    (e.hostRead off same).readData = e.readValue off := by
  obtain ⟨regs, h⟩ := e.hostRead_eq_latched off same
  rw [h]; rfl

@[simp] theorem Eng.hostRead_iml (e : Eng) (off : Nat) (same : Word) : (e.hostRead off same).iml = e.iml := by
  obtain ⟨regs, h⟩ := e.hostRead_eq_latched off same
  rw [h]; rfl

theorem Eng.hostRead_shadow_lo (e : Eng) {off : Nat} (same : Word) (hlo : pairLo off = some off) :
    (e.hostRead off same).shadow = Tab.put e.shadow off (e.view (off + 4)) := by
  obtain ⟨regs, h⟩ := e.hostRead_eq_latched off same
  rw [h]; exact if_pos hlo

/-! ## What a write does -/

/-- A write that reaches no register does nothing (R10, R398). -/
theorem Eng.hostWrite_none {e : Eng} {off : Nat} (val : Word) (req : Nat) (h : e.hostReg off = none) :
    e.hostWrite off val req = e := by
  simp only [Eng.hostWrite, h]

/-- TEL's registers from the selectors to the rings' controls are kept by every engine. -/
theorem Eng.keeps_tel (e : Eng) {off : Nat} (h : 0x340000 ≤ off) : e.keeps off = true := by
  have hlt : ∀ n, n ≤ 0x340000 → ¬ off < n := by omega
  simp [Eng.keeps, hlt]

/-- TEL's registers are served from step 1 of start-up on (R398). -/
theorem Eng.hostReg_tel (e : Eng) {off : Nat} {r : RegRow} (h : 0x340000 ≤ off) (hb : off < 0x400000)
    (hr : regAt off = some r) (ha : e.aonUp = true) : e.hostReg off = some r :=
  e.hostReg_eq off r (regAt_aligned hr) hb (by simp [Eng.serves, h, ha, show ¬ off < 0x40000 by omega])
    (e.keeps_tel h) hr

theorem regAt_selector : ∀ j < 16, (regAt (Reg.TEL_SETA_SEL 0 + 4 * j)).isSome = true := by decide
theorem regAt_ringCons : ∀ p < 4, (regAt (Reg.TEL_RING_CONS p)).isSome = true := by decide

theorem selector_range {j : Nat} (hj : j < 16) :
    Reg.TEL_SETA_SEL 0 ≤ Reg.TEL_SETA_SEL 0 + 4 * j ∧ Reg.TEL_SETA_SEL 0 + 4 * j ≤ Reg.TEL_SETB_SEL 7 := by
  simp only [Reg.TEL_SETA_SEL, Reg.TEL_SETB_SEL]
  omega

/-- A write of a selector register selects a counter (13 R354). -/
theorem Eng.hostWrite_selector (e : Eng) {j : Nat} (hj : j < 16) (v : Word) (req : Nat) (ha : e.aonUp = true) :
    e.hostWrite (Reg.TEL_SETA_SEL 0 + 4 * j) v req = e.selectCounter j v.toNat := by
  obtain ⟨r, hr⟩ := Option.isSome_iff_exists.mp (regAt_selector j hj)
  have hb : 0x340000 ≤ Reg.TEL_SETA_SEL 0 + 4 * j ∧ Reg.TEL_SETA_SEL 0 + 4 * j < 0x400000 := by
    simp only [Reg.TEL_SETA_SEL]; omega
  have hix : (Reg.TEL_SETA_SEL 0 + 4 * j - Reg.TEL_SETA_SEL 0) / 4 = j := by omega
  simp only [Eng.hostWrite, e.hostReg_tel hb.1 hb.2 hr ha, if_pos (selector_range hj), hix]

/-- A write of a ring's CONS register moves its consumer (13 R363). -/
theorem Eng.hostWrite_ringCons (e : Eng) {p : Nat} (hp : p < 4) (v : Word) (req : Nat) (ha : e.aonUp = true) :
    e.hostWrite (Reg.TEL_RING_CONS p) v req = e.writeCons p v.toNat := by
  obtain ⟨r, hr⟩ := Option.isSome_iff_exists.mp (regAt_ringCons p hp)
  have hb : 0x340000 ≤ Reg.TEL_RING_CONS p ∧ Reg.TEL_RING_CONS p < 0x400000 := by
    simp only [Reg.TEL_RING_CONS]; omega
  have hsel : ¬ (Reg.TEL_SETA_SEL 0 ≤ Reg.TEL_RING_CONS p ∧ Reg.TEL_RING_CONS p ≤ Reg.TEL_SETB_SEL 7) := by
    simp only [Reg.TEL_SETA_SEL, Reg.TEL_SETB_SEL, Reg.TEL_RING_CONS]; omega
  have hring : Reg.TEL_RING_PROD 0 ≤ Reg.TEL_RING_CONS p ∧ Reg.TEL_RING_CONS p < Reg.TEL_TRACE_CTRL ∧
      Reg.TEL_RING_CONS p % 0x20 = 4 := by
    simp only [Reg.TEL_RING_PROD, Reg.TEL_RING_CONS, Reg.TEL_TRACE_CTRL]; omega
  have hix : (Reg.TEL_RING_CONS p - Reg.TEL_RING_PROD 0) / 0x20 = p := by
    simp only [Reg.TEL_RING_PROD, Reg.TEL_RING_CONS]; omega
  simp only [Eng.hostWrite, e.hostReg_tel hb.1 hb.2 hr ha, if_neg hsel, if_pos hring, hix]

/-! ## How a host access runs -/

/-- A well-formed command completes with the effect that it runs. -/
theorem exec_of_run {c : Instr} {s : State} {name : String} {f : Eng → Eng} (h : exec c s = s.run c name f)
    (ht : c.time < 2 ^ 64) (hu : c.unitOk = true) : exec c s = .next (s.left c.time (f (s.stamp c.time))) := by
  rw [h, State.run_wf s c name f (Bool.and_eq_true_iff.mpr ⟨decide_eq_true ht, hu⟩)]

/-- A well-formed host access that makes `d` of the engine it meets completes with `d` and what follows. -/
theorem exec_of_hostDo {c : Instr} {s : State} {name : String} {f : Eng → Eng} {d : Eng}
    (h : exec c s = s.run c name (Eng.hostDo f)) (ht : c.time < 2 ^ 64) (hu : c.unitOk = true)
    (hd : f (s.found c.time) = d) : exec c s = .next (s.done c.time d) := by
  rw [exec_of_run h ht hu, State.hostDo_eq, hd]

/-- A step runs the command at the front of the queue on the block with the queue's rest. -/
theorem step_of_pending {s : State} {c : Instr} {q : List Instr} (h : s.pending = c :: q) :
    step s = exec c { s with pending := q } := by
  simp only [step, h]

@[simp] theorem State.found_shadow (s : State) (t : Nat) : (s.found t).shadow = s.eng.shadow :=
  Eng.catchUp_shadow _

@[simp] theorem State.found_iml (s : State) (t : Nat) : (s.found t).iml = s.eng.iml :=
  Eng.catchUp_iml _

/-- An access that is not aligned and 32 bits wide completes with its read's 0, and nothing else (R9). -/
theorem exec_bar2BadAccess (s : State) {t : Nat} (ht : t < 2 ^ 64) (write : Bool) (off : Nat) :
    exec (.bar2BadAccess t write off) s =
      .next (s.left t (if write then s.stamp t else { s.stamp t with readData := 0 })) :=
  exec_of_run (c := .bar2BadAccess t write off)
    (f := fun e => if write then e else { e with readData := 0 }) rfl ht rfl

/-- A read through the aperture returns the live value (R12). -/
theorem exec_peekRead (s : State) {t off : Nat} (ht : t < 2 ^ 64) (hlo : 0x800000 ≤ off) (hhi : off < 0xC00000) :
    exec (.peekRead t off) s =
      .next (s.left t { s.stamp t with readData := (s.found t).view (off - 0x800000) }) := by
  have h : exec (.peekRead t off) s = .next (s.left t ((s.stamp t).peek off)) :=
    exec_of_run (c := .peekRead t off) (f := fun e => e.peek off) rfl ht rfl
  rw [h, Eng.peek, if_pos ⟨hlo, hhi⟩]
  rfl

theorem exec_readClear (s : State) {t : Nat} (ht : t < 2 ^ 64) (off : Nat) (same : Word) :
    exec (.readClear t off same) s = .next (s.left t ((s.found t).hostRead off same)) :=
  exec_of_run (c := .readClear t off same) (f := fun e => e.catchUp.hostRead off same) rfl ht rfl

theorem exec_pairLoRead (s : State) {t off : Nat} (ht : t < 2 ^ 64) (hlo : pairLo off = some off) :
    exec (.pairLoRead t off) s = .next (s.left t ((s.found t).hostRead off 0)) := by
  have h : exec (.pairLoRead t off) s =
      .next (s.left t (if pairLo off = some off then (s.found t).hostRead off 0 else s.stamp t)) :=
    exec_of_run (c := .pairLoRead t off)
      (f := fun e => if pairLo off = some off then e.catchUp.hostRead off 0 else e) rfl ht rfl
  rw [h, if_pos hlo]

theorem exec_registerWrite (s : State) {t : Nat} (ht : t < 2 ^ 64) (off : Nat) (val : Word) (req : Nat) :
    exec (.registerWrite t off val req) s = .next (s.done t ((s.found t).hostWrite off val req)) :=
  exec_of_hostDo (c := .registerWrite t off val req) rfl ht rfl rfl

end Sys2Proof.Machine

namespace Sys2Proof

open Machine

/-! ## The statements -/

/-- Settles O4: the fields of the reset state are literals. -/
theorem resetIsOk : Obligations.ResetIsOk := by
  unfold Obligations.ResetIsOk State.Ok
  simp [State.reset, Eng.cold]

/-- Settles O5: nothing is listed in the register file of the reset state, so every register reads its reset value. -/
theorem resetHoldsResetValues : Obligations.ResetHoldsResetValues :=
  ⟨fun _ => rfl, rfl, rfl, rfl, rfl, rfl, rfl, rfl, rfl, rfl, rfl⟩

/-- Settles O9, by `exec_bar2BadAccess`. -/
theorem badAccessHasNoEffect : Obligations.BadAccessHasNoEffect := by
  intro s t off ht
  exact ⟨exec_bar2BadAccess s ht true off, exec_bar2BadAccess s ht false off⟩

/-- Settles O14: a write of the sparse register file lists the value, or drops the entry where the value is the reset's. -/
theorem registerFileReadsBack : Obligations.RegisterFileReadsBack := by
  intro e off v hwf
  refine ⟨e.reg_setReg_self off v hwf, fun o ho => e.reg_setReg_other off o v hwf ho, e.setReg_wf off v hwf, rfl, ?_⟩
  intro hcanon o w hw
  rw [Eng.setReg, Tab.get?_write (regReset off) off o v hwf] at hw
  split at hw
  · next ho =>
    obtain ⟨hv, hvw⟩ := Option.ite_none_left_eq_some.mp hw
    cases hvw
    exact ho ▸ hv
  · exact hcanon o w hw

/-- Settles O10: the peek read shows the view, an ordinary read the view or the shadow, and no write reaches the aperture. -/
theorem peekReadsHaveNoSideEffect : Obligations.PeekReadsHaveNoSideEffect := by
  intro s t off req val same ht ho
  refine ⟨?_, fun hlo => ⟨_, exec_readClear s ht off same, ?_⟩, fun lo hlo hne hs => ⟨_, exec_readClear s ht off same, ?_⟩, ?_⟩
  · rw [exec_peekRead s ht (by omega) (by omega), Nat.add_sub_cancel_left]
    rfl
  · simp [Eng.readValue_live _ (by omega) hlo]
  · simp [Eng.readValue_hi _ (by omega) (pairLo_aligned ho hlo) hlo hne hs]
  · rw [exec_registerWrite s ht, Eng.hostWrite_none val req (Eng.hostReg_of_high _ (by omega))]

/-- Settles O11: the read of the lo half puts the hi half's value in the shadow, which nothing between the two commands
changes, and the read of the hi half takes it from there. -/
theorem hiReadReturnsLatchedHalf : Obligations.HiReadReturnsLatchedHalf := by
  intro s q t t' off same ht ht' hq hlo hhi hb hs
  obtain ⟨ha, hb'⟩ := pairLo_self hb hlo
  obtain ⟨u, hstep, hu, heng⟩ : ∃ u : State, step s = .next u ∧ u.pending = .readClear t' (off + 4) same :: q ∧
      u.eng = (s.left t ((s.found t).hostRead off 0)).eng :=
    ⟨_, (step_of_pending hq).trans (exec_pairLoRead _ ht hlo), rfl, rfl⟩
  have hstep' := (step_of_pending hu).trans (exec_readClear { u with pending := q } ht' (off + 4) same)
  have hserves : (State.found { u with pending := q } t').serves (off + 4) = true :=
    (Eng.serves_of_iml (by simp [heng]) _).trans hs
  have hread : (State.found { u with pending := q } t').readValue (off + 4) = (s.found t).view (off + 4) := by
    rw [Eng.readValue_hi _ hb' (by omega) hhi (by omega) hserves]
    simp [heng, Eng.hostRead_shadow_lo _ _ hlo]
  have hrun : Host.Core.run core 2 s = step u := by
    simp only [Host.Core.run, core, hstep, hstep']
  refine ⟨_, hrun.trans hstep', rfl, ?_⟩
  simpa using hread

/-- Settles O12: a register that is no half of a pair latches nothing, so only its RC fields change. -/
theorem readsClearOnlyTheirFields : Obligations.ReadsClearOnlyTheirFields := by
  intro s t off same r ht hr hpair
  obtain ⟨-, ho⟩ := Eng.hostReg_some hr
  have hread := exec_readClear s ht off same
  have hlatch : (s.found t).latched off = { s.found t with readData := (s.found t).view off } := by
    rw [Eng.latched_of_not_lo _ (by simp [hpair]), Eng.readValue_live _ (by omega) (.inl hpair)]
  rw [Eng.hostRead_some same hr, hlatch] at hread
  refine ⟨fun hm => ?_, fun hm => ?_⟩
  · rw [hread, if_pos hm]
  · rw [hread, if_neg hm]
    rfl

/-- Settles O13: no access reaches a register there, and its value is 0. -/
theorem absentRegistersReadZero : Obligations.AbsentRegistersReadZero := by
  intro s t off req val same ht _ ho
  refine ⟨fun h => ⟨_, exec_readClear s ht off same, ?_, ?_⟩, fun h => ?_⟩
  · simp [Eng.readValue_absent _ ho h]
  · rw [State.left_regs, Eng.hostRead_none same (Eng.hostReg_of_absent _ h)]
    rfl
  · rw [exec_registerWrite s ht, Eng.hostWrite_none val req (Eng.hostReg_of_absent _ h)]

/-- Settles O38: one law per command that reads. -/
theorem hostReadsComplete : Obligations.HostReadsComplete := by
  intro s t off same ht
  exact ⟨exec_bar2BadAccess s ht false off, exec_bar2BadAccess s ht true off, exec_peekRead s ht,
    exec_readClear s ht off same, exec_pairLoRead s ht⟩

/-- Settles O39: each command runs the write of its register, under a condition that the statement gives. -/
theorem hostWritesComplete : Obligations.HostWritesComplete := by
  intro s t off req ring val same ht hring
  refine ⟨exec_registerWrite s ht off val req, fun hw => ?_, fun hlo => ?_, fun hhi ho => ?_, fun hl hi => ?_,
    fun j hj ha => ?_, fun ha => ?_, ?_, fun ha => ?_⟩
  · exact exec_of_hostDo (c := .w1cClear t off val same) rfl ht rfl (if_pos hw)
  · exact exec_of_hostDo (c := .pairLoWrite t off val req) rfl ht rfl (if_pos hlo)
  · have hne : pairLo off ≠ none ∧ pairLo off ≠ some off := by
      simp only [hhi, ne_eq, reduceCtorEq, not_false_eq_true, Option.some.injEq, true_and]
      omega
    exact exec_of_hostDo (c := .pairHiWrite t off val req) rfl ht rfl (if_pos hne)
  · have hstaged : ((s.found t).hasAcc off .rwl && !immediate off) = true := by simp [hl, hi]
    exact exec_of_hostDo (c := .stagedWrite t off val req) rfl ht rfl (if_pos hstaged)
  · exact exec_of_hostDo (c := .counterSelect t (Reg.TEL_SETA_SEL 0 + 4 * j) val) rfl ht rfl
      ((if_pos (selector_range hj)).trans (Eng.hostWrite_selector _ hj val 0 ha))
  · exact exec_of_hostDo (c := .ringConsWrite t ring val) rfl ht (decide_eq_true hring)
      (Eng.hostWrite_ringCons _ hring val 0 ha)
  · exact exec_of_hostDo (c := .ringFlush t ring val) rfl ht (decide_eq_true hring) rfl
  · exact exec_of_hostDo (c := .mark t val) rfl ht rfl (Eng.hostWrite_mark _ val 0 ha)

end Sys2Proof

end

section
/-! A slice of the session directory fails (03 R63, R72): what the failure and the epoch it attempts change, and the statement
about it. -/

namespace Sys2Proof.Machine

/-- A well-formed command of the Lead's subsystems that makes `d` of the engine it meets completes with `d` and what follows. -/
theorem exec_of_leadDo {c : Instr} {s : State} {name : String} {f : Eng → Eng} {d : Eng}
    (h : exec c s = s.run c name (Eng.leadDo f)) (ht : c.time < 2 ^ 64) (hu : c.unitOk = true)
    (hup : s.eng.up = true) (hlead : s.eng.isLead = true) (hd : f (s.found c.time) = d) :
    exec c s = .next (s.done c.time d) := by
  rw [exec_of_run h ht hu, State.leadDo_lead s _ f hup hlead, hd]

theorem exec_dirSliceFailed (s : State) {t sl : Nat} (ht : t < 2 ^ 64) (hsl : sl < 4) (hup : s.eng.up = true)
    (hlead : s.eng.isLead = true) :
    exec (.dirSliceFailed t sl) s = .next (s.done t ((s.found t).failSlice sl)) :=
  exec_of_leadDo (c := .dirSliceFailed t sl) rfl ht (decide_eq_true hsl) hup hlead rfl

/-- Removing slice `s` from a mask of the four slices clears its bit. -/
theorem bit_and_without_slice (m : Nat) {s : Nat} (hs : s < 4) : bit (m &&& (0xF - 2 ^ s)) s = false := by
  have hclear : ∀ s < 4, (0xF - 2 ^ s).testBit s = false := by decide
  rw [bit, Nat.testBit_and, hclear s hs, Bool.and_false]

/-- A dropped slice has no line left in the cache. -/
theorem Eng.slice_ne_of_mem_dropSlice {e : Eng} {s : Nat} {l : Line} (h : l ∈ (e.dropSlice s).dir.cache) : l.slice ≠ s := by
  simpa using (List.mem_filter.mp h).2

/-- An engine that differs in registers and TEL alone is the first with registers and TEL of its own. -/
theorem OnlyTel.exists_eq {e d : Eng} (h : OnlyTel e d) : ∃ regs tel, d = { e with regs := regs, tel := tel } :=
  ⟨d.regs, d.tel, by rw [← h]⟩

/-- The engine with another epoch in force and other epoch records (R62). -/
def Eng.inEpoch (e : Eng) (epoch : Nat) (slots : Tab EpochRec) : Eng :=
  { e with dir := { e.dir with epoch := epoch, slots := slots } }

theorem OnlyTel.inEpoch {e d : Eng} (h : OnlyTel e d) (epoch : Nat) (slots : Tab EpochRec) :
    OnlyTel (e.inEpoch epoch slots) (d.inEpoch epoch slots) :=
  congrArg (fun x : Eng => x.inEpoch epoch slots) h

theorem OnlyTel.declareFailed {e d : Eng} (h : OnlyTel e d) : OnlyTel e.declareFailed d.declareFailed :=
  congrArg Eng.declareFailed h

/-- All that an attempt of an epoch can do: it starts one or defers it, and TEL hears of it (R62). -/
theorem Eng.onlyTel_newEpoch (e : Eng) (cause : Nat) :
    ∃ epoch slots, OnlyTel (e.inEpoch epoch slots) (e.newEpoch cause) := by
  unfold Eng.newEpoch
  dsimp only
  split
  · exact ⟨_, _, Eng.onlyTel_raise _ _ _ _ _⟩
  · exact ⟨e.dir.epoch, e.dir.slots, (OnlyTel.bump e _ _ _ _).trans (Eng.onlyTel_raise _ _ _ _ _)⟩

/-- The engine that has retired its slice `s`: the slice stands in the failed mask and no longer in the offline one, it caches
nothing, and a retired unit is noted for the next report (R72, R127). -/
def Eng.withoutSlice (e : Eng) (s : Nat) : Eng :=
  (Eng.dropSlice { e with dir := { e.dir with
      failed := e.dir.failed ||| 2 ^ s, offline := e.dir.offline &&& (0xF - 2 ^ s) } } s).noteRetired

/-- A slice that has failed already fails no further. -/
theorem Eng.failSlice_of_failed {e : Eng} {s : Nat} (h : bit e.dir.failed s = true) : e.failSlice s = e :=
  if_pos h

/-- All that the failure of a slice can do, TEL apart: the slice is retired, an epoch may start (R63), and the engine fails
where another slice had failed before (R27). -/
theorem Eng.failSlice_of_working {e : Eng} {s : Nat} (h : bit e.dir.failed s = false) : ∃ epoch slots,
    OnlyTel { (e.withoutSlice s).inEpoch epoch slots with failed := e.failed || decide (e.dir.failed ≠ 0) }
      (e.failSlice s) := by
  have hraise := (e.withoutSlice s).onlyTel_raise 0x32 3 0 [(16, 1, s), (17, 1, e.dir.failed ||| 2 ^ s)]
  obtain ⟨epoch, slots, hepoch⟩ := Eng.onlyTel_newEpoch _ 1
  have hboth := (hraise.inEpoch epoch slots).trans hepoch
  refine ⟨epoch, slots, ?_⟩
  rw [Eng.failSlice, if_neg (by simp [h])]
  by_cases hsecond : e.dir.failed ≠ 0
  · rw [decide_eq_true hsecond, if_pos rfl, Bool.or_true]
    exact hboth.declareFailed
  · rw [decide_eq_false hsecond, if_neg Bool.false_ne_true, Bool.or_false]
    exact hboth

end Sys2Proof.Machine

namespace Sys2Proof

open Machine

/-- Settles O22: `Eng.failSlice_of_working` says all that a failing slice changes, and each clause is one part of it. -/
theorem sliceFailureIsRecorded : Obligations.SliceFailureIsRecorded := by
  intro s t sl ht hsl hup hlead e
  have hexec : exec (.dirSliceFailed t sl) s = .next (s.done t (e.failSlice sl)) := exec_dirSliceFailed s ht hsl hup hlead
  -- How the engine was found no longer matters, and unfolding it would make `rfl` costly.
  clear_value e
  refine ⟨fun hbit => ?_, fun hbit => ?_⟩
  · rw [hexec, Eng.failSlice_of_failed hbit]
  · obtain ⟨epoch, slots, honly⟩ := Eng.failSlice_of_working hbit
    obtain ⟨regs, tel, hd⟩ := honly.exists_eq
    rw [hd] at hexec
    have hcache : ∀ l ∈ ((e.withoutSlice sl).inEpoch epoch slots).dir.cache, l.slice ≠ sl :=
      fun _ hl => Eng.slice_ne_of_mem_dropSlice hl
    have hfailed : (e.failed || decide (e.dir.failed ≠ 0)) = true ↔ e.failed = true ∨ e.dir.failed ≠ 0 := by
      rw [Bool.or_eq_true, decide_eq_true_iff]
    exact ⟨_, hexec, rfl, bit_and_without_slice _ hsl, hcache, rfl, hfailed, rfl, rfl⟩

end Sys2Proof

end

section
/-! The islands' own measurements (02 R44, R45): which registers an operation writes, what the end of a window does in order,
and the statements about it. -/

namespace Sys2Proof.Machine

/-! ## Which registers an operation writes -/

/-- From `e` to `d` the register file keeps its canonical form, and no register outside `P` changes; `KeepsRegs` is this for
CMP_DEFER_SET alone. -/
def WritesOnly (P : Nat → Prop) (e d : Eng) : Prop :=
  Tab.wf e.regs = true → Tab.wf d.regs = true ∧ ∀ o, ¬ P o → d.reg o = e.reg o

/-- The registers from the first of TEL on (Table 14-7). -/
abbrev IsTelReg (off : Nat) : Prop := 0x340000 ≤ off

section
variable {P : Nat → Prop} {a b c e d : Eng}

theorem WritesOnly.same (h : d.regs = e.regs) : WritesOnly P e d := fun hwf =>
  ⟨h ▸ hwf, fun o _ => by rw [Eng.reg, h, Eng.reg]⟩

theorem WritesOnly.trans (h : WritesOnly P a b) (k : WritesOnly P b c) : WritesOnly P a c := fun hwf => by
  obtain ⟨hb, hreg⟩ := h hwf
  obtain ⟨hc, hreg'⟩ := k hb
  exact ⟨hc, fun o ho => (hreg' o ho).trans (hreg o ho)⟩

theorem WritesOnly.mono {Q : Nat → Prop} (h : WritesOnly P e d) (hPQ : ∀ o, P o → Q o) : WritesOnly Q e d := fun hwf =>
  ⟨(h hwf).1, fun o ho => (h hwf).2 o fun hP => ho (hPQ o hP)⟩

theorem WritesOnly.fold {α : Type} (f : Eng → α → Eng) (h : ∀ e a, WritesOnly P e (f e a)) (l : List α) (e : Eng) :
    WritesOnly P e (l.foldl f e) := by
  induction l generalizing e with
  | nil => exact .same rfl
  | cons a l ih => exact (h e a).trans (ih _)

theorem WritesOnly.reg64 (h : WritesOnly P e d) (hwf : Tab.wf e.regs = true) {off : Nat} (hlo : ¬ P off)
    (hhi : ¬ P (off + 4)) : d.reg64 off = e.reg64 off := by
  rw [Eng.reg64, Eng.reg64, (h hwf).2 _ hlo, (h hwf).2 _ hhi]

end

theorem Eng.writesOnly_setReg (e : Eng) (off : Nat) (v : Word) : WritesOnly (· = off) e (e.setReg off v) := fun hwf =>
  ⟨e.setReg_wf off v hwf, fun o ho => e.reg_setReg_other off o v hwf ho⟩

theorem Eng.writesOnly_bump (e : Eng) (off hi lo n : Nat) : WritesOnly (· = off) e (e.bump off hi lo n) :=
  e.writesOnly_setReg _ _

theorem Eng.writesOnly_bump64 (e : Eng) (off n : Nat) :
    WritesOnly (fun o => o = off ∨ o = off + 4) e (e.bump64 off n) :=
  ((Eng.writesOnly_setReg _ _ _).mono fun _ => .inl).trans ((Eng.writesOnly_setReg _ _ _).mono fun _ => .inr)

theorem Eng.writesOnly_count (e : Eng) (i n : Nat) : WritesOnly IsTelReg e (e.count i n) := by
  unfold Eng.count
  dsimp only
  split
  · exact .same rfl
  · exact .trans (.same rfl) ((Eng.writesOnly_setReg _ _ _).mono (by rintro _ rfl; decide))

/-- Occurrences of an event are counted in TEL (13 R355). -/
theorem Eng.writesOnly_occur (e : Eng) (ev n : Nat) (q : Qual) : WritesOnly IsTelReg e (e.occur ev n q) := by
  refine WritesOnly.fold _ (fun e j => ?_) _ e
  split
  · exact Eng.writesOnly_count _ _ _
  · exact .same rfl

/-- An event that finds no room in its queue is counted in TEL (13 R361). -/
theorem Eng.writesOnly_raise (e : Eng) (typ prio tag : Nat) (fs : List (Nat × Nat × Nat)) :
    WritesOnly IsTelReg e (e.raise typ prio tag fs) := by
  rw [Eng.raise, Eng.present]
  split
  · exact .same rfl
  · refine .trans (.trans (b := Eng.noteLoss _ _ _ _) (.same rfl) ((Eng.writesOnly_bump _ _ _ _ _).mono ?_))
      (Eng.writesOnly_count _ _ _)
    rintro _ rfl
    exact Nat.le_trans (by decide) (Nat.le_add_right _ _)

/-- A 64-bit count grows, and wraps. -/
theorem Eng.reg64_bump64 (e : Eng) (off n : Nat) (hwf : Tab.wf e.regs = true) :
    (e.bump64 off n).reg64 off = (e.reg64 off + n) % 2 ^ 64 := by
  have hwf' := e.setReg_wf off (BitVec.ofNat 32 (e.reg64 off + n)) hwf
  rw [Eng.bump64, Eng.setReg64, Eng.reg64, Eng.reg_setReg_self _ _ _ hwf', Eng.reg_setReg_other _ _ _ _ hwf' (by omega),
    Eng.reg_setReg_self _ _ _ hwf, BitVec.toNat_ofNat, BitVec.toNat_ofNat]
  omega

/-- Both halves of a register, written one after the other, are all that it holds. -/
theorem toNat_putField_halves (w : Word) {l h : Nat} (hl : l < 65536) (hh : h < 65536) :
    (putField (putField w 15 0 l) 31 16 h).toNat = h * 65536 + l := by
  simp only [putField, bitsOf, BitVec.toNat_ofNat]
  omega

/-! ## Where an island's registers are (Table 2-6) -/

theorem island_offsets (n : Nat) :
    Reg.ISL_STRETCH_PS_LO n = Reg.ISL_CYCLES_LO n + 8 ∧ Reg.ISL_STRETCH_WIN n = Reg.ISL_CYCLES_LO n + 20 := by
  simp only [Reg.ISL_STRETCH_PS_LO, Reg.ISL_STRETCH_WIN, Reg.ISL_CYCLES_LO]
  omega

theorem stretchWin_range {n : Nat} (hn : n < 18) :
    0x10000 ≤ Reg.ISL_STRETCH_WIN n ∧ Reg.ISL_STRETCH_WIN n < 0x12000 := by
  simp only [Reg.ISL_STRETCH_WIN]
  omega

/-! ## The end of a window, in order -/

/-- The window counts in the island's totals (R45), and its excess as occurrences of the selectable event 0x10. -/
def Eng.addWindow (e : Eng) (n excess : Nat) : Eng :=
  ((e.bump64 (Reg.ISL_CYCLES_LO n) 65536).bump64 (Reg.ISL_STRETCH_PS_LO n) excess).occur 0x10 excess { unit := some n }

/-- The window's stretch stands beside the highest one since the last read (R45). -/
def Eng.keepStretch (e : Eng) (n sw : Nat) : Eng :=
  let win := Reg.ISL_STRETCH_WIN n
  (e.setFld win 15 0 sw).setFld win 31 16 (max (e.fld win 31 16) sw)

/-- A stretch over the limit that was in force at the window's start is told (R46). -/
def Eng.judgeStretch (e : Eng) (n limit sw : Nat) : Eng :=
  if limit < sw then
    (e.setReg Reg.ISL_OVER_LIMIT (e.reg Reg.ISL_OVER_LIMIT ||| BitVec.ofNat 32 (2 ^ n))).raise 0x01 1 0
      [(16, 1, n), (18, 2, sw)]
  else e

/-- The next window of an island starts after `w`, under the limit now in force (R48). -/
def Eng.nextWindow (e : Eng) (n : Nat) (w : Island) : Eng :=
  let limit := e.fld Reg.ISL_STRETCH_LIMIT 15 0
  { e with isl := Tab.put e.isl n { w with winStart := w.winStart + 65536, tsStart := e.now, limit := limit } }

/-- All that the end of a window does but start the next one. -/
def Eng.measured (e : Eng) (n excess sw limit : Nat) : Eng :=
  ((e.addWindow n excess).keepStretch n sw).judgeStretch n limit sw

theorem Eng.windowEnd_eq (e : Eng) (n : Nat) :
    let w := Tab.getD e.isl n {}
    let ns := e.now - w.tsStart
    e.windowEnd n = (e.measured n (windowExcess n ns) (windowStretch n ns) w.limit).nextWindow n w := rfl

@[simp] theorem Eng.nextWindow_reg (e : Eng) (n : Nat) (w : Island) (off : Nat) :
    (e.nextWindow n w).reg off = e.reg off := rfl

theorem Eng.nextWindow_tsStart (e : Eng) (n : Nat) (w : Island) :
    (Tab.getD (e.nextWindow n w).isl n {}).tsStart = e.now := by
  simp [Eng.nextWindow]

theorem OnlyTel.nextWindow {e d : Eng} (h : OnlyTel e d) (n : Nat) (w : Island) :
    { d.nextWindow n w with regs := e.regs, tel := e.tel, isl := e.isl } = e :=
  congrArg (fun x : Eng => { x with isl := e.isl }) h

/-! ## What the end of a window changes -/

theorem OnlyTel.bump64 (e : Eng) (off n : Nat) : OnlyTel e (e.bump64 off n) := rfl

theorem Eng.onlyTel_judgeStretch (e : Eng) (n limit sw : Nat) : OnlyTel e (e.judgeStretch n limit sw) := by
  unfold Eng.judgeStretch
  split
  · exact ((OnlyTel.refl e).setReg _ _).trans (Eng.onlyTel_raise _ _ _ _ _)
  · exact .refl e

theorem Eng.onlyTel_measured (e : Eng) (n excess sw limit : Nat) : OnlyTel e (e.measured n excess sw limit) :=
  have hadd : OnlyTel e (e.addWindow n excess) :=
    ((OnlyTel.bump64 _ _ _).trans (OnlyTel.bump64 _ _ _)).trans (Eng.onlyTel_occur _ _ _ _)
  ((hadd.setReg _ _).setReg _ _).trans (Eng.onlyTel_judgeStretch _ _ _ _)

theorem Eng.writesOnly_keepStretch (e : Eng) (n sw : Nat) :
    WritesOnly (· = Reg.ISL_STRETCH_WIN n) e (e.keepStretch n sw) :=
  (Eng.writesOnly_setReg _ _ _).trans (Eng.writesOnly_setReg _ _ _)

theorem Eng.writesOnly_judgeStretch (e : Eng) (n limit sw : Nat) :
    WritesOnly (fun o => o = Reg.ISL_OVER_LIMIT ∨ IsTelReg o) e (e.judgeStretch n limit sw) := by
  unfold Eng.judgeStretch
  split
  · exact ((Eng.writesOnly_setReg _ _ _).mono fun _ => .inl).trans ((Eng.writesOnly_raise _ _ _ _ _).mono fun _ => .inr)
  · exact .same rfl

/-- The window's stretch and the highest one fill the register. -/
theorem Eng.toNat_keepStretch (e : Eng) (n : Nat) {sw : Nat} (hsw : sw < 65536) (hwf : Tab.wf e.regs = true) :
    ((e.keepStretch n sw).reg (Reg.ISL_STRETCH_WIN n)).toNat =
      max (e.fld (Reg.ISL_STRETCH_WIN n) 31 16) sw * 65536 + sw := by
  have hmax : max (e.fld (Reg.ISL_STRETCH_WIN n) 31 16) sw < 65536 := max_lt (Nat.mod_lt _ (by decide)) hsw
  simp only [Eng.keepStretch, Eng.setFld_eq]
  rw [Eng.reg_setReg_self _ _ _ (e.setReg_wf _ _ hwf), Eng.reg_setReg_self _ _ _ hwf, toNat_putField_halves _ hsw hmax]

/-- The totals of an island come before its other registers. -/
theorem Eng.writesOnly_addWindow (e : Eng) (n excess : Nat) :
    WritesOnly (fun o => o < Reg.ISL_STRETCH_WIN n ∨ IsTelReg o) e (e.addWindow n excess) := by
  obtain ⟨hps, hwin⟩ := island_offsets n
  exact .trans (.trans ((Eng.writesOnly_bump64 _ _ _).mono fun o _ => .inl (by omega))
    ((Eng.writesOnly_bump64 _ _ _).mono fun o _ => .inl (by omega))) ((Eng.writesOnly_occur _ _ _ _).mono fun _ => .inr)

/-- Once the totals stand, only registers behind them change. -/
theorem Eng.writesOnly_addWindow_measured (e : Eng) (n excess sw limit : Nat) (hn : n < 18) :
    WritesOnly (Reg.ISL_STRETCH_WIN n ≤ ·) (e.addWindow n excess) (e.measured n excess sw limit) := by
  obtain ⟨-, hlt⟩ := stretchWin_range hn
  have hover : Reg.ISL_OVER_LIMIT = 0x12004 := rfl
  exact ((Eng.writesOnly_keepStretch _ _ _).mono fun o ho => ho.ge).trans
    ((Eng.writesOnly_judgeStretch _ _ _ _).mono fun o ho => by omega)

section
variable (e : Eng) {n sw : Nat} (excess limit : Nat) (hn : n < 18) (hwf : Tab.wf e.regs = true)
include hn hwf

theorem Eng.measured_wf : Tab.wf (e.measured n excess sw limit).regs = true :=
  (e.writesOnly_addWindow_measured n excess sw limit hn (e.writesOnly_addWindow n excess hwf).1).1

/-- The counts before the stretch are what the totals' counts leave there. -/
theorem Eng.measured_reg64 {off : Nat} (ho : off + 4 < Reg.ISL_STRETCH_WIN n) :
    (e.measured n excess sw limit).reg64 off =
      ((e.bump64 (Reg.ISL_CYCLES_LO n) 65536).bump64 (Reg.ISL_STRETCH_PS_LO n) excess).reg64 off := by
  obtain ⟨-, hlt⟩ := stretchWin_range hn
  have hbump := (e.writesOnly_bump64 (Reg.ISL_CYCLES_LO n) 65536 hwf).1
  rw [(e.writesOnly_addWindow_measured n excess sw limit hn).reg64 (e.writesOnly_addWindow n excess hwf).1 (by omega)
    (by omega)]
  exact (Eng.writesOnly_occur _ _ _ _).reg64 (Eng.writesOnly_bump64 _ _ _ hbump).1 (by omega) (by omega)

/-- The total of cycles grows by the window (R45). -/
theorem Eng.measured_cycles : (e.measured n excess sw limit).reg64 (Reg.ISL_CYCLES_LO n) =
    (e.reg64 (Reg.ISL_CYCLES_LO n) + 65536) % 2 ^ 64 := by
  obtain ⟨hps, hwin⟩ := island_offsets n
  have hbump := e.writesOnly_bump64 (Reg.ISL_CYCLES_LO n) 65536 hwf
  rw [e.measured_reg64 excess limit hn hwf (by omega), (Eng.writesOnly_bump64 _ _ _).reg64 hbump.1 (by omega) (by omega),
    e.reg64_bump64 _ _ hwf]

/-- The total of excess time grows by the window's (R45). -/
theorem Eng.measured_stretchPs : (e.measured n excess sw limit).reg64 (Reg.ISL_STRETCH_PS_LO n) =
    (e.reg64 (Reg.ISL_STRETCH_PS_LO n) + excess) % 2 ^ 64 := by
  obtain ⟨hps, hwin⟩ := island_offsets n
  have hbump := e.writesOnly_bump64 (Reg.ISL_CYCLES_LO n) 65536
  rw [e.measured_reg64 excess limit hn hwf (by omega), Eng.reg64_bump64 _ _ _ (hbump hwf).1,
    hbump.reg64 hwf (by omega) (by omega)]

/-- The stretch stands in the low half, the highest one since the last read in the high half (R45). -/
theorem Eng.toNat_measured_win (hsw : sw < 65536) :
    ((e.measured n excess sw limit).reg (Reg.ISL_STRETCH_WIN n)).toNat =
      max (e.fld (Reg.ISL_STRETCH_WIN n) 31 16) sw * 65536 + sw := by
  obtain ⟨hadd, hsame⟩ := e.writesOnly_addWindow n excess hwf
  have hkeep := Eng.writesOnly_keepStretch (e.addWindow n excess) n sw hadd
  obtain ⟨-, hlt⟩ := stretchWin_range hn
  have hover : Reg.ISL_OVER_LIMIT = 0x12004 := rfl
  rw [Eng.measured, (Eng.writesOnly_judgeStretch _ _ _ _ hkeep.1).2 _ (by omega), Eng.toNat_keepStretch _ _ hsw hadd,
    Eng.fld, hsame _ (by omega), Eng.fld]

end

/-! ## A read of the stretch -/

/-- The row of RYV_ISL[n]_STRETCH_WIN (Table 2-6): a read clears the high half. -/
def stretchWinRow : RegRow := ⟨0x00010014, 0x100, 18, .one, [⟨31, 16, .rc⟩, ⟨15, 0, .ro⟩]⟩

theorem regAt_stretchWin : ∀ n < 18, regAt (Reg.ISL_STRETCH_WIN n) = some stretchWinRow := by decide

theorem accMask_stretchWinRow : accMask stretchWinRow .rc = 0xFFFF0000#32 := by decide

/-- Where the high half clears and nothing arrives, its field is 0. -/
theorem bitsOf_high_cleared (w : Word) : bitsOf (w &&& ~~~0xFFFF0000#32 ||| 0 &&& 0xFFFF0000#32).toNat 31 16 = 0 := by
  have hlow : (w &&& ~~~0xFFFF0000#32 ||| 0 &&& 0xFFFF0000#32).toNat ≤ 0xFFFF := by simp [Nat.and_le_right]
  rw [bitsOf]
  omega

theorem Eng.hostReg_stretchWin (e : Eng) {n : Nat} (hn : n < 18) :
    e.hostReg (Reg.ISL_STRETCH_WIN n) = some stretchWinRow := by
  obtain ⟨-, hlt⟩ := stretchWin_range hn
  have hrow := regAt_stretchWin n hn
  exact e.hostReg_eq _ _ (regAt_aligned hrow) (by omega) (if_pos (by omega)) (if_pos (by omega)) hrow

theorem pairLo_stretchWin {n : Nat} (hn : n < 18) : pairLo (Reg.ISL_STRETCH_WIN n) = none := by
  obtain ⟨-, hlt⟩ := stretchWin_range hn
  rw [pairLo, if_neg (by omega), regAt_stretchWin n hn]
  rfl

/-- Whether an island runs is a matter of the phase of start-up (12 R337). -/
theorem Eng.islandRuns_of_iml {d e : Eng} (h : d.iml = e.iml) (n : Nat) : d.islandRuns n = e.islandRuns n := by
  simp only [Eng.islandRuns, Eng.aonUp, Eng.up, h]

/-- An island that runs shows its stretch as it is stored. -/
theorem Eng.view_stretchWin (e : Eng) {n : Nat} (hn : n < 18) (hruns : e.islandRuns n = true) :
    e.view (Reg.ISL_STRETCH_WIN n) = e.reg (Reg.ISL_STRETCH_WIN n) := by
  obtain ⟨hge, hlt⟩ := stretchWin_range hn
  have hrow := regAt_stretchWin n hn
  have hserves : e.serves (Reg.ISL_STRETCH_WIN n) = true := if_pos (by omega)
  have hkeeps : e.keeps (Reg.ISL_STRETCH_WIN n) = true := if_pos (by omega)
  have hisland : (Reg.ISL_STRETCH_WIN n - 0x10000) / 0x100 = n := by simp only [Reg.ISL_STRETCH_WIN]; omega
  have hstatus : Reg.ISL_STRETCH_WIN n ≠ Reg.ISL_STATUS n := by simp only [Reg.ISL_STRETCH_WIN, Reg.ISL_STATUS]; omega
  have hkept : e.viewKept (Reg.ISL_STRETCH_WIN n) = (e.reg (Reg.ISL_STRETCH_WIN n)).toNat := by
    rw [Eng.viewKept, if_neg (by omega), if_pos (by omega)]
    simp only [Eng.viewIsl, hisland, if_neg (show ¬ 18 ≤ n by omega), if_neg hstatus, if_pos hruns]
  rw [Eng.view, if_neg (by simp [regAt_aligned hrow, hserves]), if_neg (by omega), hrow]
  simp only [if_pos hkeeps, hkept, BitVec.ofNat_toNat, BitVec.setWidth_eq]

/-- A read returns the stretch and clears the highest one (R45). -/
theorem Eng.hostRead_stretchWin (e : Eng) {n : Nat} (hn : n < 18) (hruns : e.islandRuns n = true)
    (hwf : Tab.wf e.regs = true) :
    (e.hostRead (Reg.ISL_STRETCH_WIN n) 0).readData = e.reg (Reg.ISL_STRETCH_WIN n) ∧
      (e.hostRead (Reg.ISL_STRETCH_WIN n) 0).fld (Reg.ISL_STRETCH_WIN n) 31 16 = 0 := by
  obtain ⟨-, hlt⟩ := stretchWin_range hn
  refine ⟨?_, ?_⟩
  · rw [Eng.hostRead_readData, Eng.readValue_live _ (by omega) (.inl (pairLo_stretchWin hn)), e.view_stretchWin hn hruns]
  · rw [Eng.hostRead_some 0 (e.hostReg_stretchWin hn), accMask_stretchWinRow, if_neg (by decide), Eng.fld,
      (e.latched _).reg_setReg_self _ _ hwf, bitsOf_high_cleared]

/-! ## The commands -/

theorem exec_of_engineDo {c : Instr} {s : State} {name : String} {f : Eng → Eng} {d : Eng}
    (h : exec c s = s.run c name (Eng.engineDo f)) (ht : c.time < 2 ^ 64) (hu : c.unitOk = true)
    (hup : s.eng.up = true) (hd : f (s.found c.time) = d) : exec c s = .next (s.done c.time d) := by
  rw [exec_of_run h ht hu, State.engineDo_up s _ f hup, hd]

theorem exec_stretchWindowEnd (s : State) {t n : Nat} (ht : t < 2 ^ 64) (hn : n < 18)
    (hruns : (s.stamp t).islandRuns n = true) :
    exec (.stretchWindowEnd t n) s = .next (s.left t ((s.stamp t).windowEnd n)) := by
  have h : exec (.stretchWindowEnd t n) s =
      .next (s.left t (if (s.stamp t).islandRuns n then (s.stamp t).windowEnd n else s.stamp t)) :=
    exec_of_run (c := .stretchWindowEnd t n) (f := fun e => if e.islandRuns n then e.windowEnd n else e)
      rfl ht (decide_eq_true hn)
  rw [h, if_pos hruns]

theorem exec_islandDroop (s : State) {t n : Nat} (on : Bool) (ht : t < 2 ^ 64) (hn : n < 18)
    (hruns : (s.stamp t).islandRuns n = true) :
    exec (.islandDroop t n on) s = .next (s.left t { s.stamp t with
      isl := Tab.put (s.stamp t).isl n { Tab.getD (s.stamp t).isl n {} with stretching := on } }) := by
  have h := exec_of_run (c := .islandDroop t n on) (s := s) (name := "ISLAND_DROOP") (f := fun e => if !e.islandRuns n then e
      else { e with isl := Tab.put e.isl n { Tab.getD e.isl n {} with stretching := on } }) rfl ht (decide_eq_true hn)
  rw [h]
  simp only [Instr.time, hruns, Bool.not_true, Bool.false_eq_true, if_false]

theorem exec_legTimeout (s : State) {t : Nat} (ht : t < 2 ^ 64) (leg : Leg) (hup : s.eng.up = true) :
    exec (.legTimeout t leg) s = .next (s.done t ((s.found t).legTimeout leg)) :=
  exec_of_engineDo (c := .legTimeout t leg) rfl ht rfl hup rfl

theorem Eng.legTimeout_of_not_due {e : Eng} {leg : Leg} (h : e.legDue leg = false) : e.legTimeout leg = e :=
  if_pos (by simp [h])

end Sys2Proof.Machine

namespace Sys2Proof

open Machine

/-- Settles O42: one law per command, and a leg that is not due changes nothing. -/
theorem islandCommandsComplete : Obligations.IslandCommandsComplete := by
  intro s t n on leg ht hn
  refine ⟨exec_stretchWindowEnd s ht hn, exec_islandDroop s on ht hn, exec_legTimeout s ht leg, fun hup hdue => ?_⟩
  rw [exec_legTimeout s ht leg hup, Eng.legTimeout_of_not_due hdue]

/-- Settles O20: the window's end leaves what `Eng.measured` has written, and a later read finds it there. -/
theorem stretchWindowIsMeasured : Obligations.StretchWindowIsMeasured := by
  intro s t n ht hn hruns hwf e nominal excess sw win
  have hexec : exec (.stretchWindowEnd t n) s = .next (s.left t (e.windowEnd n)) := exec_stretchWindowEnd s ht hn hruns
  have hwf : Tab.wf e.regs = true := hwf
  have hruns : e.islandRuns n = true := hruns
  have hsw : sw < 65536 := Nat.lt_succ_of_le (Nat.min_le_right _ _)
  obtain ⟨w, limit, hd⟩ : ∃ w limit, e.windowEnd n = (e.measured n excess sw limit).nextWindow n w :=
    ⟨_, _, e.windowEnd_eq n⟩
  -- What the window has measured is fixed from here on, and unfolding it would make `rfl` costly.
  clear_value e sw excess
  generalize hm : e.measured n excess sw limit = m at hd
  have honly : OnlyTel e m := hm ▸ e.onlyTel_measured n excess sw limit
  have hwin : (m.reg win).toNat = max (e.fld win 31 16) sw * 65536 + sw :=
    hm ▸ e.toNat_measured_win excess limit hn hwf hsw
  have hmax : bitsOf (m.reg win).toNat 31 16 = max (e.fld win 31 16) sw := by rw [hwin, bitsOf]; omega
  rw [hd] at hexec
  refine ⟨_, hexec, ?_, hmax, hm ▸ e.measured_stretchPs excess limit hn hwf,
    hm ▸ e.measured_cycles excess limit hn hwf, ?_, ?_, fun t' ht' => ?_⟩
  · rw [Eng.fld, Eng.nextWindow_reg, hwin, bitsOf]
    omega
  · rw [Eng.nextWindow_tsStart, honly.now]
  · exact honly.nextWindow n w
  · obtain ⟨hwff, hsame⟩ := Eng.keepsRegs_catchUp ((s.left t (m.nextWindow n w)).stamp t')
      (hm ▸ e.measured_wf excess limit hn hwf)
    have hrunsf : ((s.left t (m.nextWindow n w)).found t').islandRuns n = true :=
      (Eng.islandRuns_of_iml ((State.found_iml _ _).trans honly.iml) n).trans hruns
    obtain ⟨hread, hclear⟩ := Eng.hostRead_stretchWin _ hn hrunsf hwff
    have hdefer : win ≠ Reg.CMP_DEFER_SET := ((stretchWin_range hn).2.trans (by decide)).ne
    refine ⟨_, exec_readClear _ ht' win 0, hclear, ?_⟩
    rw [State.left_readData, hread]
    exact (congrArg (fun v : Word => bitsOf v.toNat 31 16) (hsame win hdefer)).trans hmax

end Sys2Proof

end

section
/-! Where slice_of sends a session (03 R61, R63): what a 32-bit part of the hash picks from a mask of the slices, and the
statement about it. -/

namespace Sys2Proof.Machine

/-- A position below the number of set bits picks the number of one of the four slices that is set. -/
theorem kthSetBit_mem {mask k : Nat} (hk : k < popcount 4 mask) :
    kthSetBit mask k < 4 ∧ bit mask (kthSetBit mask k) = true := by
  have hget : kthSetBit mask k = ((List.range 4).filter (bit mask))[k]'hk := List.getD_eq_getElem _ _ hk
  have hmem : kthSetBit mask k ∈ (List.range 4).filter (bit mask) := hget ▸ List.getElem_mem hk
  simpa using hmem

/-- The slice that a 32-bit word picks from a mask: the word's share of 2^32 is the position among the set bits (R61). -/
def pickSlice (mask w : Nat) : Nat := kthSetBit mask (w * popcount 4 mask / 2 ^ 32)

/-- A 32-bit word picks a set slice from every mask that is not empty. -/
theorem pickSlice_mem {mask w : Nat} (hpos : 0 < mask) (hmask : mask < 16) (hw : w < 2 ^ 32) :
    pickSlice mask w < 4 ∧ bit mask (pickSlice mask w) = true := by
  have hcount : ∀ m < 16, 0 < m → 0 < popcount 4 m := by decide
  have hscaled : w * popcount 4 mask < 2 ^ 32 * popcount 4 mask :=
    Nat.mul_lt_mul_of_pos_right hw (hcount mask hmask hpos)
  exact kthSetBit_mem (Nat.div_lt_of_lt_mul hscaled)

/-- A slice that the complement of a mask holds is not in the mask. -/
theorem bit_eq_false_of_bit_compl {m s : Nat} (hm : m < 16) (hs : s < 4) (h : bit (0xF - m) s = true) : bit m s = false := by
  have hcompl : ∀ m < 16, ∀ s < 4, bit (0xF - m) s = true → bit m s = false := by decide
  exact hcompl m hm s hs h

/-- slice_of with a record of the tag's epoch: the high half of a 64-bit hash picks from the epoch's slices, and where that
slice is gone, the low half picks from those that work (R61, R63). -/
theorem Eng.sliceOf_of_slot {e : Eng} {tag : Nat} {r : EpochRec} (h : Tab.get? e.dir.slots (tagGen tag % 4) = some r) :
    ∃ hash < 2 ^ 64, e.sliceOf tag =
      if bit e.failedOrOffline (pickSlice r.mask (hash / 2 ^ 32)) then pickSlice (0xF - e.failedOrOffline) (hash % 2 ^ 32)
      else pickSlice r.mask (hash / 2 ^ 32) := by
  refine ⟨(siphash (BitVec.ofNat 64 e.img.keys.salt) (BitVec.ofNat 64 r.k1) (leBytes 4 (tagIndex tag))).toNat,
    BitVec.isLt _, ?_⟩
  simp only [Eng.sliceOf, Eng.sliceHash, h, Option.map_some, Option.getD_some]
  exact apply_ite Prod.fst _ _ _

end Sys2Proof.Machine

namespace Sys2Proof

open Machine

/-- Settles O21: the slice picked from the epoch's mask stands unless it is gone, and the one picked instead is in the mask of
those that work, which is not empty. -/
theorem sessionsGoToWorkingSlices : Obligations.SessionsGoToWorkingSlices := by
  intro e tag r hslot hpos hmask hworks
  obtain ⟨hash, hhash, hslice⟩ := Eng.sliceOf_of_slot hslot
  rw [hslice]
  obtain ⟨hlt, -⟩ := pickSlice_mem (w := hash / 2 ^ 32) hpos hmask (by omega)
  obtain ⟨hlt', halive⟩ := pickSlice_mem (mask := 0xF - e.failedOrOffline) (w := hash % 2 ^ 32)
    (by omega) (by omega) (by omega)
  split
  · exact ⟨hlt', bit_eq_false_of_bit_compl (by omega) hlt' halive⟩
  · next hgone => exact ⟨hlt, Bool.eq_false_of_not_eq_true hgone⟩

end Sys2Proof

end

section
/-! Records closed with their CRC-32C (03 R60, 14 R396): what little-endian bytes read back as, how long a digest is, and the
statement that a receiver's check passes. -/

namespace Sys2Proof

/-! ## Little-endian bytes -/

@[simp] theorem leBytes_length (n v : Nat) : (leBytes n v).length = n := by
  induction n generalizing v with
  | zero => rfl
  | succ n ih => rw [leBytes, List.length_cons, ih]

@[simp] theorem beBytes_length (n v : Nat) : (beBytes n v).length = n := by
  rw [beBytes, List.length_reverse, leBytes_length]

@[simp] theorem zeros_length (n : Nat) : (zeros n).length = n := List.length_replicate

/-- A number read past the first bytes is the number read from the bytes that follow them. -/
theorem leAt_append_right (b c : Bytes) (i n : Nat) : leAt (b ++ c) (b.length + i) n = leAt c i n := by
  induction n generalizing i with
  | zero => rfl
  | succ n ih =>
    have hbyte : byteAt (b ++ c) (b.length + i) = byteAt c i := by
      rw [byteAt, List.getD_append_right _ _ _ _ (by omega), Nat.add_sub_cancel_left, byteAt]
    rw [leAt, leAt, hbyte, Nat.add_assoc, ih]

/-- Bytes written read back as the number they were written from, cut to their width. -/
theorem leAt_leBytes (n v : Nat) : leAt (leBytes n v) 0 n = v % 256 ^ n := by
  induction n generalizing v with
  | zero => rw [leAt, pow_zero, Nat.mod_one]
  | succ n ih =>
    have hhead : byteAt (leBytes (n + 1) v) 0 = v % 256 := by simp [byteAt, leBytes]
    have htail : leAt (leBytes (n + 1) v) 1 n = leAt (leBytes n (v / 256)) 0 n :=
      leAt_append_right [BitVec.ofNat 8 v] (leBytes n (v / 256)) 0 n
    rw [leAt, hhead, htail, ih, pow_succ', Nat.mod_mul]

theorem crc32c_lt (b : Bytes) : crc32c b < 2 ^ 32 := BitVec.isLt _

/-! ## SHA-256 gives 32 bytes -/

theorem shaRounds_length (l : List (Word × Word)) (h : List Word) (hh : h.length = 8) : (l.foldl shaRound h).length = 8 := by
  induction l generalizing h with
  | nil => exact hh
  | cons kw l ih => exact ih (shaRound h kw) rfl

theorem shaBlock_length {h : List Word} (blk : Bytes) (hh : h.length = 8) : (shaBlock h blk).length = 8 := by
  rw [shaBlock, List.length_zipWith, shaRounds_length _ h hh, hh, Nat.min_self]

theorem shaBlocks_length (n : Nat) (b : Bytes) {h : List Word} (hh : h.length = 8) : (shaBlocks n b h).length = 8 := by
  induction n generalizing b h with
  | zero => exact hh
  | succ n ih => exact ih _ (shaBlock_length _ hh)

theorem sha256_length (b : Bytes) : (sha256 b).length = 32 := by
  have hinit : shaInit.length = 8 := by rw [shaInit, List.length_map]; rfl
  simp [sha256, List.length_flatMap, shaBlocks_length _ _ hinit]

end Sys2Proof

namespace Sys2Proof.Machine

/-! ## Records closed with their CRC-32C -/

@[simp] theorem layout_length (n : Nat) (fs : List (Nat × Nat × Nat)) : (layout n fs).length = n := by
  rw [layout, List.length_map, List.length_range]

@[simp] theorem withCrc_length (b : Bytes) : (withCrc b).length = b.length + 4 := by
  rw [withCrc, List.length_append, leBytes_length]

/-- What is closed with its CRC-32C passes the check over its whole length (R60). -/
theorem crcOk_withCrc (b : Bytes) : crcOk (withCrc b) (b.length + 4) = true := by
  have hcrc : u32 (withCrc b) b.length = crc32c b :=
    calc leAt (b ++ leBytes 4 (crc32c b)) (b.length + 0) 4
      _ = leAt (leBytes 4 (crc32c b)) 0 4 := leAt_append_right _ _ _ _
      _ = crc32c b % 256 ^ 4 := leAt_leBytes _ _
      _ = crc32c b := Nat.mod_eq_of_lt (crc32c_lt b)
  have htake : (withCrc b).take b.length = b := List.take_left
  rw [crcOk, Nat.add_sub_cancel, hcrc, htake, withCrc_length]
  exact decide_eq_true ⟨rfl, le_refl _⟩

/-- A message of 60 bytes whose byte 0 is its kind passes as one of that kind, once it is closed (R396). -/
theorem twinMsgOk_withCrc {b : Bytes} {k : Nat} (hlen : b.length = 60) (hkind : u8 b 0 = k) :
    twinMsgOk (withCrc b) k = true := by
  have hcrc : crcOk (withCrc b) 64 = true := by
    have h := crcOk_withCrc b
    rwa [hlen] at h
  have hbyte : u8 (withCrc b) 0 = u8 b 0 :=
    congrArg BitVec.toNat (List.getD_append b (leBytes 4 (crc32c b)) 0 0 (by omega))
  simp [twinMsgOk, hlen, hbyte, hkind, hcrc]

@[simp] theorem Eng.keyId_length (e : Eng) : e.keyId.length = 8 := by
  simp [Eng.keyId, sha256_length]

@[simp] theorem Eng.shapeDigest_length (e : Eng) : e.shapeDigest.length = 8 := by
  simp [Eng.shapeDigest, sha256_length]

/-- A HELLO is 60 bytes of kind 0x20, closed (R396). -/
theorem Eng.helloBytes_eq (e : Eng) : ∃ b, e.helloBytes = withCrc b ∧ b.length = 60 ∧ u8 b 0 = 0x20 :=
  ⟨_, rfl, by simp, rfl⟩

end Sys2Proof.Machine

namespace Sys2Proof

open Machine

/-- Settles O26: the last four bytes read back as the CRC-32C that was appended, for any record and so for a HELLO. -/
theorem checkedRecordsPass : Obligations.CheckedRecordsPass := by
  refine ⟨fun b => ⟨withCrc_length b, crcOk_withCrc b⟩, fun e => ?_⟩
  obtain ⟨b, hhello, hlen, hkind⟩ := e.helloBytes_eq
  rw [hhello]
  exact ⟨by rw [withCrc_length, hlen], twinMsgOk_withCrc hlen hkind⟩

end Sys2Proof

end

section
/-! The commands of the session directory and of ingress (03, 04): where each completes, and with what effect of its own. -/

namespace Sys2Proof.Machine

/-! ## The operations of the directory, where their condition holds -/

/-- With copy A sound, the background copy becomes copy B (R69). -/
theorem Eng.backingDone_of_aOk {e : Eng} {st : Nat} (hto : e.dir.copyTo = some st) (ha : e.dir.aOk = true) :
    e.backingDone = Eng.raise { e with dir := { e.dir with stackB := st, bOk := true, copyTo := none } } 0x37 2 0
      [(16, 1, 1), (17, 1, st)] := by
  simp only [Eng.backingDone, hto, ha, if_true]

/-- The Lead of a paired wing withholds and journals the blocks that it grants (R51; log entry 119). -/
theorem Eng.takeBlockReq_of_grantable {e : Eng} {b : Bytes} (hmsg : twinMsgOk b 0x22 = true)
    (hwing : e.heard.twm.wing = .paired) (hlead : e.heard.isLead = true) (hblocks : e.heard.grantable (u32 b 8) ≠ []) :
    e.takeBlockReq b = (e.heard.withhold (e.heard.grantable (u32 b 8))).append 0 e.heard.cmp.last
      [.term 1 e.heard.twm.term e.heard.twm.leader e.heard.img.wing (e.heard.grantable (u32 b 8))] := by
  have hsome : (e.heard.grantable (u32 b 8)).isEmpty = false := by simpa using hblocks
  simp [Eng.takeBlockReq, hmsg, hwing, hlead, hsome]

/-- A held session that may be rebuilt is, where the other copy of its summary is not whole (R278). -/
theorem Eng.rebuildSession_of_held {e : Eng} {tag : Nat} {x : Entry} {other : Bytes} (hx : e.find tag = some x)
    (hstate : x.state = .held) (hhold : x.hold ≠ 2) (hmove : x.moving = false) (hdur : e.undurable tag = false)
    (hwing : e.twm.wing = .paired) (hdual : e.twm.dual = false) (hother : crcOk other 64 = false) :
    e.rebuildSession tag other = e.rebuildEntry x := by
  simp [Eng.rebuildSession, hx, hstate, hhold, hmove, hdur, hwing, hdual, hother]

/-! ## The commands of the directory -/

variable (s : State) {t : Nat} (ht : t < 2 ^ 64) (hup : s.eng.up = true)

include ht hup

theorem exec_blockReq (msg : Bytes) : exec (.blockReq t msg) s = .next (s.done t ((s.found t).takeBlockReq msg)) :=
  exec_of_engineDo (c := .blockReq t msg) rfl ht rfl hup rfl

section
variable (hlead : s.eng.isLead = true)

include hlead

theorem exec_dirLookup (tag req : Nat) : exec (.dirLookup t tag req) s = .next (s.done t ((s.found t).request tag req)) :=
  exec_of_leadDo (c := .dirLookup t tag req) rfl ht rfl hup hlead rfl

/-- The read of copy A ends the fill where it is good, and else copy A has failed (R68). -/
theorem exec_dirMissFill {tag : Nat} {f : Fill} (hf : Tab.get? (s.found t).dir.fills tag = some f) (hcopy : f.copyB = false)
    (r : ReadResult) : exec (.dirMissFill t tag r) s =
      .next (s.done t (if r = .good then (s.found t).endFill tag f else (s.found t).copyAFailed tag f)) := by
  refine exec_of_leadDo (c := .dirMissFill t tag r) rfl ht rfl hup hlead ?_
  cases r <;> simp [Instr.time, hf, hcopy]

/-- The read of copy B ends the fill where it is good, and else copy B has failed (R68). -/
theorem exec_dirCopyBRead {tag : Nat} {f : Fill} (hf : Tab.get? (s.found t).dir.fills tag = some f) (hcopy : f.copyB = true)
    (r : ReadResult) : exec (.dirCopyBRead t tag r) s =
      .next (s.done t (if r = .good then (s.found t).endFill tag f else (s.found t).copyBFailed tag f)) := by
  refine exec_of_leadDo (c := .dirCopyBRead t tag r) rfl ht rfl hup hlead ?_
  cases r <;> simp [Instr.time, hf, hcopy]

theorem exec_insertWindowEnd : exec (.insertWindowEnd t) s = .next (s.done t (s.found t).judgeWindow) :=
  exec_of_leadDo (c := .insertWindowEnd t) rfl ht rfl hup hlead rfl

theorem exec_backingCopyDone : exec (.backingCopyDone t) s = .next (s.done t (s.found t).backingDone) :=
  exec_of_leadDo (c := .backingCopyDone t) rfl ht rfl hup hlead rfl

theorem exec_sessionExpiry {tag : Nat} {x : Entry} (hx : (s.found t).find tag = some x)
    (hexpired : (s.found t).expired x = true) :
    exec (.sessionExpiry t tag) s = .next (s.done t ((s.found t).startClose x 1 0 0 none)) := by
  refine exec_of_leadDo (c := .sessionExpiry t tag) rfl ht rfl hup hlead ?_
  simp only [Instr.time, hx, hexpired, if_true]

theorem exec_sessionRebuild (tag : Nat) (other : Bytes) :
    exec (.sessionRebuild t tag other) s = .next (s.done t ((s.found t).rebuildSession tag other)) :=
  exec_of_leadDo (c := .sessionRebuild t tag other) rfl ht rfl hup hlead rfl

end

/-! ## The commands of ingress -/

/-- A command that brings a record, of whatever type, ingests it. -/
theorem exec_of_readRecord {c : Instr} {name : String} {r : Bytes} {src units : Nat}
    (h : exec c s = s.run c name fun e => e.readRecord r src units) (htime : c.time = t) (hu : c.unitOk = true) :
    exec c s = .next (s.done t ((s.found t).ingest r src units)) := by
  subst htime
  rw [exec_of_run h ht hu, State.readRecord_up s _ r src units hup]

theorem exec_producerWindowFill (slot : Nat) : exec (.producerWindowFill t slot) s =
    .next (s.done t (((s.found t).legIn (.window slot)).windowFilled slot)) :=
  exec_of_engineDo (c := .producerWindowFill t slot) rfl ht rfl hup rfl

theorem exec_outcomeWordRead (slot seq : Nat) : exec (.outcomeWordRead t slot seq) s =
    .next (s.done t ((s.found t).outcomeRead slot seq)) :=
  exec_of_engineDo (c := .outcomeWordRead t slot seq) rfl ht rfl hup rfl

end Sys2Proof.Machine

namespace Sys2Proof

open Machine

/-- Settles O43: one law per command, and one per operation that acts under a condition. -/
theorem directoryCommandsComplete : Obligations.DirectoryCommandsComplete := by
  intro s t tag req msg ht hup hlead e
  refine ⟨exec_dirLookup s ht hup hlead tag req, fun f hf hcopy => ?_, fun f hf hcopy => ?_,
    exec_insertWindowEnd s ht hup hlead, fun sl hsl => exec_dirSliceFailed s ht hsl hup hlead,
    fun st hto ha => ?_, fun hmsg hwing hpartner hblocks => ?_,
    fun x hx hexpired => exec_sessionExpiry s ht hup hlead hx hexpired,
    fun x hx hstate hhold hmove hdur hwing hdual hother => ?_⟩
  · have hread := exec_dirMissFill s ht hup hlead hf hcopy
    exact ⟨hread .good, hread .uncorrectable, hread .badCheck⟩
  · have hread := exec_dirCopyBRead s ht hup hlead hf hcopy
    exact ⟨hread .good, hread .uncorrectable, hread .badCheck⟩
  · rw [exec_backingCopyDone s ht hup hlead, Eng.backingDone_of_aOk hto ha]
  · rw [exec_blockReq s ht hup, Eng.takeBlockReq_of_grantable hmsg hwing hpartner hblocks]
  · rw [exec_sessionRebuild s ht hup hlead,
      Eng.rebuildSession_of_held hx hstate hhold hmove hdur hwing hdual hother]

/-- Settles O44: a record of every type is ingested alike, and a leg's answer has a law of its own. -/
theorem ingressCommandsComplete : Obligations.IngressCommandsComplete := by
  intro s t src units slot seq r ht hup e
  exact ⟨exec_of_readRecord (c := .ingOpen t r src units) s ht hup rfl rfl rfl,
    exec_of_readRecord (c := .ingTurn t r src units) s ht hup rfl rfl rfl,
    exec_of_readRecord (c := .ingResume t r src units) s ht hup rfl rfl rfl,
    exec_of_readRecord (c := .ingClose t r src units) s ht hup rfl rfl rfl,
    exec_of_readRecord (c := .ingPin t r src units) s ht hup rfl rfl rfl,
    exec_of_readRecord (c := .ingProbe t r src units) s ht hup rfl rfl rfl,
    exec_of_readRecord (c := .ingAmend t r src units) s ht hup rfl rfl rfl,
    exec_of_readRecord (c := .ingressUnknownType t r src units) s ht hup rfl rfl rfl,
    exec_producerWindowFill s ht hup slot, exec_outcomeWordRead s ht hup slot seq⟩

end Sys2Proof

end

section
/-! Admission (04): what follows a command at an engine where nothing is due, the emission records' sizes (R82), the REJECT of
a malformed record (R76), and the statements about them. -/

namespace Sys2Proof.Machine

/-! ## What follows a command where nothing is due -/

/-- With no eclosion deferred by a move, none begins. -/
theorem Eng.settleDue_of_none {e : Eng} (h : e.pln.due = []) : e.settleDue = e := by
  have hpln : { e.pln with due := [] } = e.pln := by rw [← h]
  simp only [Eng.settleDue, h, List.filter_nil, List.foldl_nil, hpln]

/-- With TRAIL_MB_S at 0 no record trails to T3 (R342). -/
theorem Eng.trail_of_zero_rate {e : Eng} (h : e.param 0x0C07 = 0) : e.trail = e :=
  if_pos (.inl h)

/-- The hold-up moves on by itself in STOPPING and FLUSHING alone (Table 12-8). -/
theorem Eng.settleHold_of_idle {e : Eng} (h1 : e.iml.hold ≠ 1) (h2 : e.iml.hold ≠ 2) : e.settleHold = e := by
  simp only [Eng.settleHold, h1, h2, false_and, if_false, ne_eq, not_false_eq_true, if_true]

/-- A stop reason that was told already is not told again (R84). -/
theorem Eng.noteAdmission_of_told {e : Eng} (h : e.stopReason = e.ing.reason) : e.noteAdmission = e :=
  if_pos h

theorem Eng.settle_of_down {e : Eng} (h : e.up = false) : e.settle = e := by
  simp [Eng.settle, h]

/-- Each part of what follows a command leaves a quiet engine as it is. -/
theorem Eng.settle_of_quiet {e : Eng} (h : e.Quiet) : e.settle = e := by
  obtain ⟨hlead, hdue, htrail, hstopping, hflushing, htold, hlegs⟩ := h
  cases hup : e.up with
  | false => exact Eng.settle_of_down hup
  | true =>
    simp [Eng.settle, hup, hlead, Eng.settleDue_of_none hdue, Eng.trail_of_zero_rate htrail,
      Eng.settleHold_of_idle hstopping hflushing, Eng.noteAdmission_of_told htold, hlegs]

/-- The power state is traced only where it changed (13 Table 13-6). -/
theorem Eng.after_of_same_power {old e : Eng} (hpoint : e.pgv.seq.target = old.pgv.seq.target)
    (hlim : e.pgv.kLim = old.pgv.kLim) (hreasons : e.pgv.reasons = old.pgv.reasons) (hsettle : e.settle = e) :
    Eng.after old e = e := by
  have htrace : e.tracePower old.pgv = e := if_pos ⟨hpoint.symm, hlim.symm, hreasons.symm⟩
  simp only [Eng.after, hsettle, htrace, ite_self]

/-! ## The sizes of emission records (R82, R260) -/

@[simp] theorem answerBytes_length (typ code flags : Nat) (r : Bytes) (tag value : Nat) (body : List (Nat × Nat × Nat)) :
    (answerBytes typ code flags r tag value body).length = if typ = 6 then 64 else 32 := layout_length _ _

@[simp] theorem tokenBytes_length (tag pos id flags instar turn : Nat) :
    (tokenBytes tag pos id flags instar turn).length = 32 := layout_length _ _

@[simp] theorem yieldBytes_length (loc : Bool) (tool tag pos instar turn : Nat) :
    (yieldBytes loc tool tag pos instar turn).length = 32 := layout_length _ _

@[simp] theorem endBytes_length (reason tag pos sampled instar turn : Nat) :
    (endBytes reason tag pos sampled instar turn).length = 32 := layout_length _ _

/-! ## Malformed records (R76) -/

theorem Eng.malformed_of_unknownType (e : Eng) {r : Bytes} (units : Nat) (h : recType r = 0 ∨ 7 < recType r) :
    e.malformed r units = some 0 := if_pos h

theorem Eng.malformed_of_otherVersion (e : Eng) {r : Bytes} (units : Nat) (h : ¬ (recType r = 0 ∨ 7 < recType r))
    (hver : u8 r 1 ≠ 1) : e.malformed r units = some 1 :=
  (if_neg h).trans (if_pos hver)

/-- What is sent after a change of registers and TEL stands before what left earlier, and nothing else changes. -/
theorem OnlyTel.send {e d : Eng} (h : OnlyTel e d) (o : Out) :
    (d.send o).out = o :: e.out ∧ { d.send o with regs := e.regs, tel := e.tel, out := e.out } = e :=
  ⟨congrArg (o :: ·) h.out, congrArg (fun x : Eng => { x with out := e.out }) h⟩

/-- A record that was not NEW in a window, and whose tenant is not known, is counted and traced before its REJECT leaves. -/
theorem Eng.reject_eq_send (e : Eng) (r : Bytes) (src code value : Nat) :
    ∃ d, OnlyTel e d ∧ e.reject r src code value none false =
      d.send (.emission src (answerBytes 2 code 0 r (u32 r 16) value [])) :=
  ⟨_, (((OnlyTel.bump e _ _ _ _).trans (Eng.onlyTel_count _ 3 1)).trans (Eng.onlyTel_occur _ 0x04 1 _)).trans
    (Eng.onlyTel_trace _ 5 1 _), rfl⟩

/-- The Lead counts a malformed record of any type but AMEND's and rejects it (R76). -/
theorem Eng.ingest_of_malformed {e : Eng} {r : Bytes} {src units off : Nat} (hlead : e.isLead = true)
    (htype : recType r ≠ 7) (hfault : e.malformed r units = some off) :
    e.ingest r src units = (e.bump64 Reg.ING_RECORDS_LO 1).rejectMalformed r src off := by
  have hlead' : (e.bump64 Reg.ING_RECORDS_LO 1).isLead = true := hlead
  have hfault' : (e.bump64 Reg.ING_RECORDS_LO 1).malformed r units = some off := hfault
  simp [Eng.ingest, htype, hlead', hfault']

/-- All that the Lead does with a malformed record, registers and TEL apart, is to send the REJECT. -/
theorem Eng.ingest_malformed_eq_send {e : Eng} {r : Bytes} {src units off : Nat} (hlead : e.isLead = true)
    (htype : recType r ≠ 7) (hfault : e.malformed r units = some off) :
    ∃ d, OnlyTel e d ∧ e.ingest r src units = d.send (.emission src (answerBytes 2 0x01 0 r (u32 r 16) off [])) := by
  rw [Eng.ingest_of_malformed hlead htype hfault]
  obtain ⟨d, hd, hreject⟩ := Eng.reject_eq_send ((e.bump64 Reg.ING_RECORDS_LO 1).raise 0x21 1 0
    [(16, 1, recType r), (18, 2, off), (20, 4, u32 r 4)]) r src 0x01 off
  exact ⟨d, ((OnlyTel.bump64 e _ _).trans (Eng.onlyTel_raise _ _ _ _ _)).trans hd, hreject⟩

end Sys2Proof.Machine

namespace Sys2Proof

open Machine

/-- Settles O8: what follows leaves the engine as it is, and an unchanged power state is not traced. -/
theorem nothingFollowsAtQuietEngine : Obligations.NothingFollowsAtQuietEngine := by
  intro old e hidle hpoint hlim hreasons
  exact Eng.after_of_same_power hpoint hlim hreasons (hidle.elim Eng.settle_of_down Eng.settle_of_quiet)

/-- Settles O24: the tests of type and version come first, and the REJECT they cause is all that leaves. -/
theorem unknownTypesAreRejected : Obligations.UnknownTypesAreRejected := by
  intro s t src units r ht hup e rejects hlead _
  have answered {c : Instr} {name : String} {off : Nat}
      (hrun : exec c s = s.run c name fun e => e.readRecord r src units) (htime : c.time = t) (hunit : c.unitOk = true)
      (htype : recType r ≠ 7) (hfault : e.malformed r units = some off) : rejects c off := by
    have hexec : exec c s = .next (s.done t (e.ingest r src units)) := exec_of_readRecord s ht hup hrun htime hunit
    obtain ⟨d, hd, hsend⟩ := Eng.ingest_malformed_eq_send (src := src) hlead htype hfault
    exact ⟨_, hsend ▸ hexec, hd.send _⟩
  refine ⟨fun hunknown => ?_, fun hlo hhi hver => ?_⟩
  · exact answered (c := .ingressUnknownType t r src units) rfl rfl rfl (by omega)
      (e.malformed_of_unknownType units hunknown)
  · have htype : recType r ≠ 7 := by omega
    have hfault := e.malformed_of_otherVersion units (by omega) hver
    exact ⟨answered (c := .ingOpen t r src units) rfl rfl rfl htype hfault,
      answered (c := .ingTurn t r src units) rfl rfl rfl htype hfault,
      answered (c := .ingResume t r src units) rfl rfl rfl htype hfault,
      answered (c := .ingClose t r src units) rfl rfl rfl htype hfault,
      answered (c := .ingPin t r src units) rfl rfl rfl htype hfault,
      answered (c := .ingProbe t r src units) rfl rfl rfl htype hfault⟩

/-- Settles O25: a record is as long as its layout, whatever its fields hold. -/
theorem emissionsFillWholeUnits : Obligations.EmissionsFillWholeUnits :=
  ⟨fun code flags r tag value body =>
    ⟨answerBytes_length 1 code flags r tag value body, answerBytes_length 2 code flags r tag value body,
      answerBytes_length 6 code flags r tag value body⟩,
    tokenBytes_length, yieldBytes_length, endBytes_length⟩

end Sys2Proof

end

section
/-! Composing (05): the order of composition keys (R105, R106), how a prefill is cut into chunks (R112), the commands of composing
and of the flutter tree, and the statements about them. -/

namespace Sys2Proof.Machine

/-! ## The order of composition keys (Table 5-1) -/

/-- A key as a tuple under the lexicographic order of its components. -/
def Key.lex (k : Key) : ℕ ×ₗ ℕ ×ₗ ℕ ×ₗ ℕ ×ₗ ℕ :=
  toLex (k.kind, toLex (k.ls, toLex (k.share, toLex (k.tIn, k.tag))))

theorem Key.lex_injective : Function.Injective Key.lex := by
  rintro ⟨⟩ ⟨⟩ h
  simpa [Key.lex] using h

/-- Comparing one component, and the rest only where it is equal, is the lexicographic order. -/
theorem ite_ne_lt_eq_true_iff {m n : ℕ} {rest : Bool} :
    (if m ≠ n then decide (m < n) else rest) = true ↔ m < n ∨ m = n ∧ rest = true := by
  by_cases h : m = n <;> simp [h]

theorem Key.lt_iff_lex (a b : Key) : a.lt b = true ↔ a.lex < b.lex := by
  simp only [Key.lt, ite_ne_lt_eq_true_iff, decide_eq_true_eq, Key.lex, Prod.Lex.toLex_lt_toLex]

theorem Key.lt_eq_false_iff_lex (a b : Key) : a.lt b = false ↔ b.lex ≤ a.lex := by
  rw [← not_lt, ← Key.lt_iff_lex, Bool.not_eq_true]

/-! ## The chunks of a prefill (R112) -/

/-- A FEED that R112 allows from position `kv` with `rem` tokens left: within both bounds, and short of what is left only where it
ends on a page boundary. -/
structure PagedFeed (kv rem cap t : Nat) : Prop where
  pos : 1 ≤ t
  le_rem : t ≤ rem
  le_cap : t ≤ cap
  aligned : t < rem → (kv + t) % 16 = 0

theorem Eng.firstChunk_paged (e : Eng) {kv rem : Nat} (h : e.firstChunk kv rem ≠ 0) :
    PagedFeed kv rem e.chunkMax (e.firstChunk kv rem) := by
  unfold Eng.firstChunk at h ⊢
  dsimp only at h ⊢
  by_cases hlt : min rem e.chunkMax < rem
  · rw [if_pos hlt] at h ⊢
    constructor <;> omega
  · rw [if_neg hlt] at h ⊢
    constructor <;> omega

/-- The FEED tried after one that does not fit ends on the page boundary before it. -/
theorem PagedFeed.previous {kv rem cap t : Nat} (h : PagedFeed kv rem cap t) (hne : t - 1 - (kv + t - 1) % 16 ≠ 0) :
    PagedFeed kv rem cap (t - 1 - (kv + t - 1) % 16) := by
  obtain ⟨hpos, hrem, hcap, -⟩ := h
  constructor <;> omega

/-- From an allowed FEED downward, size_chunk answers the entry of an allowed FEED. -/
theorem Eng.sizeFrom_paged (e : Eng) (b : Bounds) (l : List DEntry) (x y : DEntry) {rem cap : Nat} (fuel t : Nat)
    (ht : t ≠ 0 → PagedFeed x.kvStart rem cap t) (hy : e.sizeFrom b l x rem fuel t = .ok y) :
    ∃ u, PagedFeed x.kvStart rem cap u ∧ y = x.chunk u rem := by
  induction fuel generalizing t with
  | zero => cases hy
  | succ fuel ih =>
    rw [Eng.sizeFrom] at hy
    split at hy
    case isTrue => cases hy
    case isFalse hne =>
      have hfeed := ht hne
      dsimp only at hy
      split at hy
      · cases hy
        exact ⟨t, hfeed, rfl⟩
      · split at hy
        · cases hy
        · exact ih _ hfeed.previous hy

theorem Eng.sizeChunk_paged {e : Eng} {b : Bounds} {l : List DEntry} {x y : DEntry} (h : e.sizeChunk b l x = .ok y) :
    ∃ u, PagedFeed x.kvStart x.feed e.chunkMax u ∧ y = x.chunk u x.feed :=
  e.sizeFrom_paged b l x y 4096 _ e.firstChunk_paged h

@[simp] theorem DEntry.chunk_feed (x : DEntry) (t rem : Nat) : (x.chunk t rem).feed = t := by
  unfold DEntry.chunk; split <;> rfl

@[simp] theorem DEntry.chunk_kvStart (x : DEntry) (t rem : Nat) : (x.chunk t rem).kvStart = x.kvStart := by
  unfold DEntry.chunk; split <;> rfl

@[simp] theorem DEntry.chunk_tag (x : DEntry) (t rem : Nat) : (x.chunk t rem).tag = x.tag := by
  unfold DEntry.chunk; split <;> rfl

/-- A chunk that takes all that is left is a final prefill, which samples at its end. -/
theorem DEntry.chunk_final (x : DEntry) (t : Nat) :
    (x.chunk t t).kind = 1 ∧ (x.chunk t t).samplePos = x.kvStart + t := by
  simp [DEntry.chunk]

/-- A chunk that leaves something is a non-final prefill, which samples nothing. -/
theorem DEntry.chunk_nonfinal (x : DEntry) {t rem : Nat} (h : t ≠ rem) :
    (x.chunk t rem).kind = 0 ∧ (x.chunk t rem).samplePos = 0xFFFFFFFF := by
  simp [DEntry.chunk, h]

/-! ## Operations of composing where their conditions hold -/

/-- A child's request for a descriptor that is kept is answered with the resent copy (R126). -/
theorem Eng.resendDescriptor_of_kept {e : Eng} {msg : Bytes} {d : Desc} (hlen : msg.length = 16)
    (hchild : e.children.contains (u8 msg 8) = true) (hasked : e.cmp.askedFor ≠ some (u48 msg 0))
    (hkept : (e.cmp.kept.find? fun d => d.num == u48 msg 0) = some d) :
    e.resendDescriptor msg = (e.bump Reg.CMP_BCAST 31 16 1).send (.frame 0x04 0 (u8 msg 8) (resentDesc d.raw)) := by
  simp only [Eng.resendDescriptor, hlen, hchild, hasked, hkept, ne_eq, not_true_eq_false, Bool.not_true, Bool.false_eq_true,
    or_self, if_false]

/-- An idle instar whose time has passed ends (R121). -/
theorem Eng.endIdle_of_idle {e : Eng} {f : Flight} (hf : e.inFlight = some f) (hidle : f.idle = true)
    (hlaunch : f.launched = true) (hcommits : e.commits = true) (hend : f.launch + f.idleNs ≤ e.now) :
    e.endIdle = (((e.stopDraft).modFlight f.num fun f => { f with turned := true, done := true }).markBoundary
      f.num).retireFlights.trySeal := by
  simp [Eng.endIdle, hf, hidle, hlaunch, hcommits, hend]

/-! ## The commands of composing -/

section
variable (s : State) {t : Nat} (ht : t < 2 ^ 64) (hup : s.eng.up = true)

include ht hup

theorem exec_instarDescriptor (msg : Bytes) :
    exec (.instarDescriptor t msg) s = .next (s.done t ((s.found t).receiveDescriptor msg)) :=
  exec_of_engineDo (c := .instarDescriptor t msg) rfl ht rfl hup rfl

theorem exec_resendRequest (msg : Bytes) :
    exec (.resendRequest t msg) s = .next (s.done t ((s.found t).resendDescriptor msg)) :=
  exec_of_engineDo (c := .resendRequest t msg) rfl ht rfl hup rfl

theorem exec_instarEndReport {msg : Bytes} (hlen : msg.length = 64) :
    exec (.instarEndReport t msg) s = .next (s.done t ((s.found t).gatherReport msg false)) :=
  exec_of_engineDo (c := .instarEndReport t msg) rfl ht rfl hup (if_pos hlen)

theorem exec_fabricFrameBad (msg : Bytes) :
    exec (.fabricFrameBad t msg) s = .next (s.done t ((s.found t).badFrame msg)) :=
  exec_of_engineDo (c := .fabricFrameBad t msg) rfl ht rfl hup rfl

variable (hlead : s.eng.isLead = true)

include hlead

theorem exec_tailSummary (msg : Bytes) :
    exec (.tailSummary t msg) s = .next (s.done t ((s.found t).takeSummary msg)) :=
  exec_of_leadDo (c := .tailSummary t msg) rfl ht rfl hup hlead rfl

theorem exec_idleInstarEnd : exec (.idleInstarEnd t) s = .next (s.done t (s.found t).endIdle) :=
  exec_of_leadDo (c := .idleInstarEnd t) rfl ht rfl hup hlead rfl

theorem exec_instarWatchdog : exec (.instarWatchdog t) s = .next (s.done t (s.found t).instarLate) :=
  exec_of_leadDo (c := .instarWatchdog t) rfl ht rfl hup hlead rfl

theorem exec_prefixMatchDone (tag : Nat) :
    exec (.prefixMatchDone t tag) s = .next (s.done t ((s.found t).matchPrefix tag)) :=
  exec_of_leadDo (c := .prefixMatchDone t tag) rfl ht rfl hup hlead rfl

end

end Sys2Proof.Machine

namespace Sys2Proof

open Machine

/-- Settles O27: `Key.lt` is the lexicographic order of the keys' components, which is linear. -/
theorem compositionOrderIsTotal : Obligations.CompositionOrderIsTotal := by
  intro a b c
  simp only [Key.lt_eq_false_iff_lex, Key.lt_iff_lex]
  exact ⟨le_refl _, le_of_lt, lt_trans, fun hba hab => Key.lex_injective (le_antisymm hab hba)⟩

/-- Settles O28: the entry is the chunk of an allowed FEED, and what it says of itself is in `DEntry.chunk`. -/
theorem chunksEndOnPages : Obligations.ChunksEndOnPages := by
  intro e b l x y hy
  obtain ⟨t, hfeed, rfl⟩ := Eng.sizeChunk_paged hy
  simp only [DEntry.chunk_feed, DEntry.chunk_kvStart, DEntry.chunk_tag]
  refine ⟨hfeed.pos, hfeed.le_cap, hfeed.le_rem, trivial, trivial, fun hlt => ?_, fun hall => ?_⟩
  · exact ⟨hfeed.aligned hlt, x.chunk_nonfinal hlt.ne⟩
  · exact hall ▸ x.chunk_final t

/-- Settles O45: one law per command, and one per operation that acts under a condition. -/
theorem composingCommandsComplete : Obligations.ComposingCommandsComplete := by
  intro s t tag msg ht hup e
  refine ⟨exec_instarDescriptor s ht hup msg, fun d hlen hchild hasked hkept => ?_,
    exec_instarEndReport s ht hup, exec_fabricFrameBad s ht hup msg, fun hlead =>
    ⟨exec_tailSummary s ht hup hlead msg, fun f hf hidle hlaunch hcommits hend => ?_,
      exec_instarWatchdog s ht hup hlead, fun _ => exec_prefixMatchDone s ht hup hlead tag⟩⟩
  · rw [exec_resendRequest s ht hup, Eng.resendDescriptor_of_kept hlen hchild hasked hkept]
  · rw [exec_idleInstarEnd s ht hup hlead, Eng.endIdle_of_idle hf hidle hlaunch hcommits hend]

end Sys2Proof

end

section
/-! Dispatch and debug (06, 13): the commands at the head of a job, what the cluster answers, faults, voids and aborts, the
structure windows, debug control and the tests on demand, and the statements about where they complete. -/

namespace Sys2Proof.Machine

/-! ## The operations of dispatch, where their condition holds -/

/-- An intact command that the job takes and command stepping does not hold is carried out (R135). -/
theorem Eng.headCommand_of_taken {e : Eng} {op p id : Nat} {c : Bytes} {j : Job} (hj : e.job? p id = some j)
    (htakes : e.takesCommand p j = true) (hfetch : e.mayFetch op j c = true) (hok : cmdOk c = true)
    (hstep : e.stepHolds p j = false) : e.headCommand op p id c = (e.doCommand p j c).settleDsq p := by
  simp [Eng.headCommand, hj, htakes, hfetch, hok, hstep]

/-- A kernel that has run beyond KWDOG times its scaled WCET faults its partition with cause 2 (Table 6-5). -/
theorem Eng.kernelLate_of_late {e : Eng} {p id : Nat} {j : Job} {k : Kern} (hj : e.job? p id = some j)
    (hruns : j.kernelRuns = true) (hk : j.kern = some k)
    (hlate : e.param 0x0700 * k.wcet < (k.ran + (e.now - k.start)) * 1000) :
    e.kernelLate p id = (e.faultPart p 2 false).settleDsq p := by
  simp [Eng.kernelLate, hj, hruns, hk, hlate]

/-- A partition in reset takes work again (R149, R153; log entry 52). -/
theorem Eng.partReady_of_resetting {e : Eng} {p : Nat} (hmode : (e.part p).mode = 1) :
    e.partReady p = ((e.setPart p fun q => { q with mode := 0 }).closeVoided p).settleDsq p :=
  if_neg (not_not_intro hmode)

/-! ## The commands of dispatch -/

section
variable (s : State) {t : Nat} (ht : t < 2 ^ 64) (hup : s.eng.up = true)

include ht hup

/-- A command of any operation at the head of a job is carried out where the job takes it. -/
theorem exec_of_headCommand {c : Instr} {name : String} {op p id : Nat} {raw : Bytes} {j : Job}
    (h : exec c s = s.run c name (Eng.engineDo fun e => e.headCommand op p id raw)) (htime : c.time = t)
    (hu : c.unitOk = true) (hj : (s.found t).job? p id = some j) (htakes : (s.found t).takesCommand p j = true)
    (hfetch : (s.found t).mayFetch op j raw = true) (hok : cmdOk raw = true) (hstep : (s.found t).stepHolds p j = false) :
    exec c s = .next (s.done t (((s.found t).doCommand p j raw).settleDsq p)) := by
  subst htime
  exact exec_of_engineDo h ht hu hup (Eng.headCommand_of_taken hj htakes hfetch hok hstep)

theorem exec_kernelComplete (p id : Nat) :
    exec (.kernelComplete t p id) s = .next (s.done t ((s.found t).kernelDone p id)) :=
  exec_of_engineDo (c := .kernelComplete t p id) rfl ht rfl hup rfl

theorem exec_haltAck (p id : Nat) : exec (.haltAck t p id) s = .next (s.done t ((s.found t).halted p id)) :=
  exec_of_engineDo (c := .haltAck t p id) rfl ht rfl hup rfl

theorem exec_groupSaveDone {g : Nat} (hg : g < 1600) (ok : Bool) :
    exec (.groupSaveDone t g ok) s = .next (s.done t ((s.found t).groupSaved g ok)) :=
  exec_of_engineDo (c := .groupSaveDone t g ok) rfl ht (decide_eq_true hg) hup rfl

theorem exec_groupRestoreDone {g : Nat} (hg : g < 1600) (ok : Bool) :
    exec (.groupRestoreDone t g ok) s = .next (s.done t ((s.found t).groupRestored g ok)) :=
  exec_of_engineDo (c := .groupRestoreDone t g ok) rfl ht (decide_eq_true hg) hup rfl

theorem exec_contextLoadDone {g : Nat} (hg : g < 1600) (ok : Bool) :
    exec (.contextLoadDone t g ok) s = .next (s.done t ((s.found t).contextLoaded g ok)) :=
  exec_of_engineDo (c := .contextLoadDone t g ok) rfl ht (decide_eq_true hg) hup rfl

theorem exec_coreMachineCheck {g core : Nat} (hg : g < 1600) (hcore : core < 16) :
    exec (.coreMachineCheck t g core) s = .next (s.done t ((s.found t).fenceCore g core)) :=
  exec_of_engineDo (c := .coreMachineCheck t g core) rfl ht (decide_eq_true ⟨hg, hcore⟩) hup rfl

theorem exec_kernelWatchdog (p id : Nat) :
    exec (.kernelWatchdog t p id) s = .next (s.done t ((s.found t).kernelLate p id)) :=
  exec_of_engineDo (c := .kernelWatchdog t p id) rfl ht rfl hup rfl

/-- An uncorrectable HBM error faults a partition that the image gives, with cause 5 (Table 6-5). -/
theorem exec_clusterHbmError {p : Nat} (hp : (Tab.get? (s.found t).img.partitions p).isSome = true) :
    exec (.clusterHbmError t p) s = .next (s.done t (((s.found t).faultPart p 5 false).settleDsq p)) :=
  exec_of_engineDo (c := .clusterHbmError t p) rfl ht rfl hup
    (if_neg (by simpa [Instr.time, Option.isSome_iff_ne_none] using hp))

theorem exec_partitionReady (p : Nat) :
    exec (.partitionReady t p) s = .next (s.done t ((s.found t).partReady p)) :=
  exec_of_engineDo (c := .partitionReady t p) rfl ht rfl hup rfl

/-- A void notice reaches the Lead. -/
theorem exec_voidNotice (msg : Bytes) (hlead : (s.found t).isLead = true) :
    exec (.voidNotice t msg) s = .next (s.done t ((s.found t).leadVoid msg)) :=
  exec_of_engineDo (c := .voidNotice t msg) rfl ht rfl hup (if_pos hlead)

theorem exec_abortMsg (msg : Bytes) : exec (.abortMsg t msg) s = .next (s.done t ((s.found t).takeAbort msg)) :=
  exec_of_engineDo (c := .abortMsg t msg) rfl ht rfl hup rfl

theorem exec_tensorDumpDone (n : Nat) : exec (.tensorDumpDone t n) s = .next (s.done t ((s.found t).dumpDone n)) :=
  exec_of_engineDo (c := .tensorDumpDone t n) rfl ht rfl hup rfl

/-- Link credits come back to a partition that the image gives. -/
theorem exec_linkCreditReturn {p : Nat} (n : Nat) (hp : (Tab.get? (s.found t).img.partitions p).isSome = true) :
    exec (.linkCreditReturn t p n) s = .next (s.done t ((s.found t).creditsBack p n)) :=
  exec_of_engineDo (c := .linkCreditReturn t p n) rfl ht rfl hup
    (if_neg (by simpa [Instr.time, Option.isSome_iff_ne_none] using hp))

end

/-! ## Writes of the registers that act at once -/

/-- No immediate register has an action of its own beside its RWL fields, and none is one of TEL's (Table 13-15). -/
theorem immediate_apart {off : Nat} (h : immediate off = true) :
    off ≠ Reg.GLB_LOCK ∧ off ≠ Reg.TWM_SNAP_CTRL ∧ off ≠ Reg.TEL_MARK ∧ off ≠ Reg.DBG_PEEK_ARG ∧
      (off < Reg.TEL_SETA_SEL 0 ∨ Reg.TEL_SETB_SEL 7 < off) ∧ (off < Reg.TEL_RING_PROD 0 ∨ Reg.TEL_TRACE_CTRL ≤ off) := by
  simp only [immediate, Bool.or_eq_true, beq_iff_eq, decide_eq_true_eq] at h
  simp only [Reg.IML_WR_CTRL, Reg.IML_WR_ADDR, Reg.IML_WR_BUF, Reg.IML_RESET, Reg.DSQ_STEP, Reg.DBG_CTRL,
    Reg.DBG_TEST_REQ] at h
  simp only [Reg.GLB_LOCK, Reg.TWM_SNAP_CTRL, Reg.TEL_MARK, Reg.DBG_PEEK_ARG, Reg.TEL_SETA_SEL, Reg.TEL_SETB_SEL,
    Reg.TEL_RING_PROD, Reg.TEL_TRACE_CTRL]
  omega

/-- The holder's write of an immediate register whose other fields are read-only acts at once (R371). -/
theorem Eng.hostWrite_immediate {e : Eng} {off req : Nat} {r : RegRow} (v : Word) (hreg : e.hostReg off = some r)
    (himm : immediate off = true) (hw1c : accMask r .w1c = 0) (hrw : accMask r .rw = 0) (hrwl : accMask r .rwl ≠ 0)
    (hholds : e.holds req = true) : e.hostWrite off v req = e.writeNow off v req := by
  obtain ⟨hlock, hsnap, hmark, hpeek, hsel, hring⟩ := immediate_apart himm
  have hnosel : ¬ (Reg.TEL_SETA_SEL 0 ≤ off ∧ off ≤ Reg.TEL_SETB_SEL 7) := by omega
  have hnocons : ¬ (Reg.TEL_RING_PROD 0 ≤ off ∧ off < Reg.TEL_TRACE_CTRL ∧ off % 0x20 = 4) := by omega
  have hnoring : ¬ (Reg.TEL_RING_PROD 0 ≤ off ∧ off < Reg.TEL_TRACE_CTRL) := by omega
  have haction : e.writeAction off v req = e := by
    simp only [Eng.writeAction, if_neg hlock, if_neg hsnap, if_neg hmark, if_neg hpeek, if_neg hnoring]
  simp only [Eng.hostWrite, hreg, if_neg hnosel, if_neg hnocons, if_pos hw1c, if_pos hrw, haction, if_neg hrwl,
    Eng.writeRwl, if_pos hholds, if_pos himm]

/-- The holder's write of RYV_DBG_CTRL with GO also releases one held descriptor (R377). -/
theorem Eng.hostWrite_dbgCtrl_go {e : Eng} {v : Word} {req : Nat} (ha : e.aonUp = true) (hholds : e.holds req = true)
    (hgo : bit v.toNat 29 = true) : e.hostWrite Reg.DBG_CTRL v req = (e.writeDebug v).releaseDesc := by
  have hreg := e.hostReg_tel (off := Reg.DBG_CTRL) (by decide) (by decide) rfl ha
  rw [Eng.hostWrite_immediate v hreg rfl (by decide) (by decide) (by decide) hholds]
  simp (decide := true) [Eng.writeNow, hgo]

/-- The holder's write of RYV_DSQ_STEP (06 R155). -/
theorem Eng.hostWrite_dsqStep {e : Eng} (v : Word) {req : Nat} (hup : e.up = true) (hholds : e.holds req = true) :
    e.hostWrite Reg.DSQ_STEP v req = e.writeStep v.toNat := by
  have hreg := e.hostReg_eq Reg.DSQ_STEP _ (by decide) (by decide) hup rfl rfl
  rw [Eng.hostWrite_immediate v hreg rfl (by decide) (by decide) (by decide) hholds]
  simp (decide := true) [Eng.writeNow]

/-! ## Debug control and the tests -/

/-- A lane test gives the lane back where a stream has waited 10 µs for it (R381). -/
theorem Eng.abortLaneTest_of_waiting {e : Eng} (hstate : e.dbg.test.state = 2) (hkind : e.dbg.test.kind = 1)
    (hwait : ∃ r ∈ e.smp.waiting, r.since + 10000 ≤ e.now ∧ e.streamReady r = true) :
    e.abortLaneTest = Eng.assignLanes 64 (((e.setTest { e.dbg.test with state := 5 }).noteTest 3 []).setLane e.dbg.test.index
      { ((e.setTest { e.dbg.test with state := 5 }).noteTest 3 []).lane e.dbg.test.index with mode := 0 }) := by
  have hany : (e.smp.waiting.any fun r => decide (r.since + 10000 ≤ e.now) && e.streamReady r) = true := by
    simpa using hwait
  exact if_pos ⟨hstate, hkind, hany⟩

theorem bit_without_go (v : Word) : bit (v &&& 0xDFFFFFFF#32).toNat 29 = false := by
  simp (decide := true) [bit]

theorem bit_with_go (v : Word) : bit (v ||| 0x20000000#32).toNat 29 = true := by
  simp (decide := true) [bit]

/-! ## The commands of debug control -/

/-- A well-formed command of the islands that leave reset first that makes `d` of the engine it meets completes with `d` and
what follows. -/
theorem exec_of_aonDo {c : Instr} {s : State} {name : String} {f : Eng → Eng} {d : Eng}
    (h : exec c s = s.run c name (Eng.aonDo f)) (ht : c.time < 2 ^ 64) (hu : c.unitOk = true)
    (ha : s.eng.aonUp = true) (hd : f (s.found c.time) = d) : exec c s = .next (s.done c.time d) := by
  rw [exec_of_run h ht hu, State.aonDo_up s _ f ha, hd]

@[simp] theorem State.found_aonUp (s : State) (t : Nat) : (s.found t).aonUp = s.eng.aonUp :=
  Eng.catchUp_aonUp _

section
variable (s : State) {t : Nat} (ht : t < 2 ^ 64)

include ht

theorem exec_peekArg (val : Word) :
    exec (.peekArg t val) s = .next (s.done t ((s.found t).hostWrite Reg.DBG_PEEK_ARG val 0)) :=
  exec_of_hostDo (c := .peekArg t val) rfl ht rfl rfl

theorem exec_testRequest (val : Word) (req : Nat) : exec (.testRequest t val req) s =
    .next (s.done t ((s.found t).hostWrite Reg.DBG_TEST_REQ ((val ||| 0x80000000#32) &&& 0xBFFFFFFF#32) req)) :=
  exec_of_hostDo (c := .testRequest t val req) rfl ht rfl rfl

theorem exec_testCancel (req : Nat) : exec (.testCancel t req) s = .next (s.done t
    ((s.found t).hostWrite Reg.DBG_TEST_REQ ((s.found t).reg Reg.DBG_TEST_REQ ||| 0x40000000#32) req)) :=
  exec_of_hostDo (c := .testCancel t req) rfl ht rfl rfl

/-- GO of command stepping, at an engine that is up (06 R155). -/
theorem exec_dsqStepGo (val : Word) {req : Nat} (hholds : (s.found t).holds req = true) (hup : (s.found t).up = true) :
    exec (.dsqStepGo t req val) s = .next (s.done t ((s.found t).writeStep (val ||| 0x80000000#32).toNat)) :=
  exec_of_hostDo (c := .dsqStepGo t req val) rfl ht rfl (Eng.hostWrite_dsqStep _ hup hholds)

variable (ha : s.eng.aonUp = true)

include ha

/-- DEBUG, INSTAR_STEP and BREAK_EN are written, and GO is not (R376 to R378). -/
theorem exec_dbgCtrlWrite (val : Word) {req : Nat} (hholds : (s.found t).holds req = true) :
    exec (.dbgCtrlWrite t val req) s = .next (s.done t ((s.found t).writeDebug (val &&& 0xDFFFFFFF#32))) :=
  exec_of_hostDo (c := .dbgCtrlWrite t val req) rfl ht rfl
    (Eng.hostWrite_dbgCtrl _ _ _ ((s.found_aonUp t).trans ha) hholds (bit_without_go val))

/-- GO of instar stepping (R377). -/
theorem exec_instarGo (val : Word) {req : Nat} (hholds : (s.found t).holds req = true) :
    exec (.instarGo t val req) s = .next (s.done t ((s.found t).writeDebug (val ||| 0x20000000#32)).releaseDesc) :=
  exec_of_hostDo (c := .instarGo t val req) rfl ht rfl
    (Eng.hostWrite_dbgCtrl_go ((s.found_aonUp t).trans ha) hholds (bit_with_go val))

theorem exec_peekCopyDone : exec (.peekCopyDone t) s = .next (s.done t (s.found t).endPeek) :=
  exec_of_aonDo (c := .peekCopyDone t) rfl ht rfl ha rfl

theorem exec_testStart : exec (.testStart t) s = .next (s.done t (s.found t).startTest) :=
  exec_of_aonDo (c := .testStart t) rfl ht rfl ha rfl

theorem exec_testEnd (pass : Bool) (addr syn : Nat) :
    exec (.testEnd t pass addr syn) s = .next (s.done t ((s.found t).endTest pass addr syn)) :=
  exec_of_aonDo (c := .testEnd t pass addr syn) rfl ht rfl ha rfl

theorem exec_laneTestAbort : exec (.laneTestAbort t) s = .next (s.done t (s.found t).abortLaneTest) :=
  exec_of_aonDo (c := .laneTestAbort t) rfl ht rfl ha rfl

end

end Sys2Proof.Machine

namespace Sys2Proof

open Machine

/-- Settles O46: every operation's command runs `Eng.headCommand`, which carries out a command that the job takes. -/
theorem headCommandsComplete : Obligations.HeadCommandsComplete := by
  intro s t p id raw ht hup e
  have runs {c : Instr} {name : String} {op : Nat}
      (h : exec c s = s.run c name (Eng.engineDo fun e => e.headCommand op p id raw)) (htime : c.time = t)
      (hu : c.unitOk = true) (j : Job) := exec_of_headCommand (j := j) s ht hup h htime hu
  exact ⟨runs (c := .dsqKernel t p id raw) rfl rfl rfl, runs (c := .dsqAcquire t p id raw) rfl rfl rfl,
    runs (c := .dsqRelease t p id raw) rfl rfl rfl, runs (c := .dsqLinkGet t p id raw) rfl rfl rfl,
    runs (c := .dsqLinkPut t p id raw) rfl rfl rfl, runs (c := .dsqLayer t p id raw) rfl rfl rfl,
    runs (c := .dsqEnd t p id raw) rfl rfl rfl⟩

/-- Settles O47: one law per command, and one per operation that acts under a condition. -/
theorem dispatchCommandsComplete : Obligations.DispatchCommandsComplete := by
  intro s t p id g core n ok msg ht hg hcore hup e
  refine ⟨exec_kernelComplete s ht hup p id, exec_haltAck s ht hup p id, exec_groupSaveDone s ht hup hg ok,
    exec_groupRestoreDone s ht hup hg ok, exec_contextLoadDone s ht hup hg ok, exec_coreMachineCheck s ht hup hg hcore,
    fun j k hj hruns hk hlate => ?_, exec_clusterHbmError s ht hup, fun hmode => ?_, exec_voidNotice s ht hup msg,
    exec_abortMsg s ht hup msg, exec_tensorDumpDone s ht hup n, exec_linkCreditReturn s ht hup n⟩
  · rw [exec_kernelWatchdog s ht hup, Eng.kernelLate_of_late hj hruns hk hlate]
  · rw [exec_partitionReady s ht hup, Eng.partReady_of_resetting hmode]

/-- Settles O41: one law per command; GO and the registers that act at once are in the laws of the writes. -/
theorem debugCommandsComplete : Obligations.DebugCommandsComplete := by
  intro s t req addr syn val pass ht ha e
  refine ⟨exec_peekArg s ht val, fun _ _ _ => exec_peekCopyDone s ht ha, exec_dbgCtrlWrite s ht ha val,
    exec_instarGo s ht ha val, exec_dsqStepGo s ht val, fun _ => exec_testRequest s ht val req,
    fun _ => exec_testCancel s ht req, fun _ _ => exec_testStart s ht ha, fun _ => exec_testEnd s ht ha pass addr syn,
    fun hstate hkind hwait => ?_⟩
  rw [exec_laneTestAbort s ht ha, Eng.abortLaneTest_of_waiting hstate hkind hwait]

end Sys2Proof

end

section
/-! Sampling (07, 08): the Lead's scale counts (R166), the commands of the Tail's lanes and of the messages between Tails and
Lead, and the statements about them. -/

namespace Sys2Proof

/-- Listing a value makes a table longer by one where its key was not listed. -/
theorem Tab.length_put {α : Type} (m : Tab α) (k : Nat) (v : α) :
    (Tab.put m k v).length = if (Tab.get? m k).isSome then m.length else m.length + 1 := by
  induction m with
  | nil => rfl
  | cons p m ih =>
    obtain ⟨j, w⟩ := p
    obtain hkj | rfl | hjk := lt_trichotomy k j
    · simp [Tab.put, Tab.get?, hkj, hkj.ne']
    · simp [Tab.put, Tab.get?]
    · simp only [Tab.put, Tab.get?, if_neg hjk.not_gt, if_neg hjk.ne, if_neg hjk.ne', List.length_cons, ih]
      split <;> rfl

namespace Machine

/-! ## Scale counts (R166) -/

section
variable {m : Tab Nat} {id : Nat}

/-- A listed token is counted up to 4,095, whether the table has room or not. -/
theorem scaleAdd_of_listed {c : Nat} (room : Bool) (h : Tab.get? m id = some c) :
    scaleAdd m id room = Tab.put m id (min (c + 1) 4095) := by
  simp only [scaleAdd, h]

/-- A token that is not listed enters with count 1 where the table has room. -/
theorem scaleAdd_of_absent (room : Bool) (h : Tab.get? m id = none) :
    scaleAdd m id room = if room then Tab.put m id 1 else m := by
  simp only [scaleAdd, h]

/-- Counting a token changes no count of another. -/
theorem get?_scaleAdd_other (room : Bool) {i : Nat} (hi : i ≠ id) :
    Tab.get? (scaleAdd m id room) i = Tab.get? m i := by
  unfold scaleAdd
  split
  · exact Tab.get?_put_other m id i _ hi
  · split
    · exact Tab.get?_put_other m id i _ hi
    · rfl

/-- Counting a token keeps the ids ascending. -/
theorem wf_scaleAdd (room : Bool) (h : Tab.wf m = true) : Tab.wf (scaleAdd m id room) = true := by
  unfold scaleAdd
  split
  · exact Tab.wf_put id _ h
  · split
    · exact Tab.wf_put id _ h
    · exact h

/-- A table that takes new tokens only below `n` entries never grows beyond `n`. -/
theorem length_scaleAdd_le (n : Nat) : (scaleAdd m id (decide (m.length < n))).length ≤ max m.length n := by
  cases h : Tab.get? m id with
  | some c => simp [scaleAdd_of_listed _ h, Tab.length_put, h]
  | none =>
    rw [scaleAdd_of_absent _ h]
    split
    next hroom =>
      have hlt : m.length < n := of_decide_eq_true hroom
      simpa [Tab.length_put, h] using hlt
    next => exact le_max_left _ _

end

/-- A committed token is counted in its session's table, with room for a new one below 4,096 entries; the event that a full
table raises leaves the tables alone. -/
theorem Eng.countToken_master (e : Eng) (tag id : Nat) :
    (e.countToken tag id).2.smp.master = Tab.put e.smp.master tag
      (scaleAdd (Tab.getD e.smp.master tag []) id (decide ((Tab.getD e.smp.master tag []).length < 4096))) := by
  unfold Eng.countToken
  extract_lets old room counted full
  split
  · rfl
  · split
    · rfl
    · rw [(Eng.onlyTel_raise _ _ _ _ _).smp]
      rfl

/-! ## The operations of sampling, where their condition holds -/

/-- A SELECT that checks is applied at a Tail (R167, R182). -/
theorem Eng.takeSelect_of_ok {e : Eng} {msg : Bytes} (htail : e.isTail = true) (hok : selectOk msg = true) :
    e.takeSelect msg = (e.recovered 1 e.leadRank 0 0 0).applySelect msg := by
  simp only [Eng.takeSelect, htail, hok, Bool.not_true, Bool.false_eq_true, if_false]

/-- A buffered position waits for a lane again, to be read from the logit buffer (R182). -/
theorem Eng.resweep_of_buffered {e : Eng} {tag pos : Nat} {r : Stream}
    (h : (e.smp.buffer.find? fun r => r.tag == tag && r.pos == pos) = some r) :
    e.resweep tag pos = Eng.assignLanes 64 { e with smp := { e.smp with
      waiting := e.smp.waiting ++ [{ r with raw := [], needRead := true, waited := false, since := e.now }] } } := by
  simp only [Eng.resweep, h]

/-- The first note of a Tail that checks joins its position (08 R190). -/
theorem Eng.takeNote_of_ok {e : Eng} {msg : Bytes} {m : Merged} (hm : e.positionAt (u32 msg 0) (u32 msg 4) = some m)
    (hnew : m.noted.contains (u8 msg 10) = false) (hok : noteOk msg = true) :
    e.takeNote msg = ((e.recovered 0 (u8 msg 10) m.instar (u32 msg 0) (u32 msg 4 + 2 ^ 32)).setMerged
      { m with noted := u8 msg 10 :: m.noted, notes := m.notes ++ noteEnts msg }).advanceTurn := by
  simp only [Eng.takeNote, hm, hnew, hok, Bool.not_true, Bool.false_eq_true, if_false]

/-! ## The commands of sampling -/

section
variable (s : State) {t : Nat} (ht : t < 2 ^ 64) (hup : s.eng.up = true)

include ht hup

theorem exec_logitStream (msg : Bytes) : exec (.logitStream t msg) s = .next (s.done t ((s.found t).takeStream msg)) :=
  exec_of_engineDo (c := .logitStream t msg) rfl ht rfl hup rfl

theorem exec_tailSweep {lane : Nat} (hlane : lane < 64) :
    exec (.tailSweep t lane) s = .next (s.done t ((s.found t).endSweep lane)) :=
  exec_of_engineDo (c := .tailSweep t lane) rfl ht (decide_eq_true hlane) hup rfl

theorem exec_logitBufferReadDone {lane : Nat} (hlane : lane < 64) (msg : Bytes) :
    exec (.logitBufferReadDone t lane msg) s =
      .next (s.done t (((s.found t).legIn (.lane lane)).bufferRead lane msg)) :=
  exec_of_engineDo (c := .logitBufferReadDone t lane msg) rfl ht (decide_eq_true hlane) hup rfl

theorem exec_smpLaneRetired {lane : Nat} (hlane : lane < 64) (cause : Nat) :
    exec (.smpLaneRetired t lane cause) s = .next (s.done t ((s.found t).retireLane lane cause)) :=
  exec_of_engineDo (c := .smpLaneRetired t lane cause) rfl ht (decide_eq_true hlane) hup rfl

theorem exec_select (msg : Bytes) : exec (.select t msg) s = .next (s.done t ((s.found t).takeSelect msg)) :=
  exec_of_engineDo (c := .select t msg) rfl ht rfl hup rfl

theorem exec_draft (msg : Bytes) : exec (.draft t msg) s = .next (s.done t ((s.found t).takeDraft msg)) :=
  exec_of_engineDo (c := .draft t msg) rfl ht rfl hup rfl

theorem exec_draftEdgeReadDone (tag : Nat) :
    exec (.draftEdgeReadDone t tag) s = .next (s.done t ((s.found t).edgesRead tag)) :=
  exec_of_engineDo (c := .draftEdgeReadDone t tag) rfl ht rfl hup rfl

theorem exec_refineRequest (msg : Bytes) :
    exec (.refineRequest t msg) s = .next (s.done t ((s.found t).takeRequest msg)) :=
  exec_of_engineDo (c := .refineRequest t msg) rfl ht rfl hup rfl

theorem exec_summaryRerequest (tag pos : Nat) :
    exec (.summaryRerequest t tag pos) s = .next (s.done t ((s.found t).resweep tag pos)) :=
  exec_of_engineDo (c := .summaryRerequest t tag pos) rfl ht rfl hup rfl

theorem exec_grammarReadError (tag rank : Nat) (again : Bool) :
    exec (.grammarReadError t tag rank again) s = .next (s.done t ((s.found t).grammarFault tag rank again)) :=
  exec_of_engineDo (c := .grammarReadError t tag rank again) rfl ht rfl hup rfl

variable (hlead : s.eng.isLead = true)

include hlead

theorem exec_refineReply (msg note : Bytes) : exec (.refineReply t msg note) s =
    .next (s.done t (((s.found t).legIn (.round (u32 msg 0) (u32 msg 4) (u8 msg 9))).takeReply msg note)) :=
  exec_of_leadDo (c := .refineReply t msg note) rfl ht rfl hup hlead rfl

theorem exec_grammarNote (msg : Bytes) : exec (.grammarNote t msg) s = .next (s.done t ((s.found t).takeNote msg)) :=
  exec_of_leadDo (c := .grammarNote t msg) rfl ht rfl hup hlead rfl

end

end Machine

open Machine

/-- Settles O29: the new table is `scaleAdd` of the old one, with room below 4,096 entries. -/
theorem scaleCountsSaturate : Obligations.ScaleCountsSaturate := by
  intro e tag id hwf old new
  have hnew : new = scaleAdd old id (decide (old.length < 4096)) := by
    simp only [new, old, Eng.countToken_master, Tab.getD_put_self]
  rw [hnew]
  refine ⟨fun c hc => ?_, fun habsent hroom => ?_, fun habsent hfull => ?_, fun i hi => get?_scaleAdd_other _ hi,
    wf_scaleAdd _ hwf, length_scaleAdd_le 4096⟩
  · rw [scaleAdd_of_listed _ hc, Tab.get?_put_self]
  · rw [scaleAdd_of_absent _ habsent, if_pos (decide_eq_true hroom), Tab.get?_put_self]
  · rw [scaleAdd_of_absent _ habsent, if_neg (by simpa using hfull)]

/-- Settles O48: one law per command, and one per operation that acts under a condition. -/
theorem samplingCommandsComplete : Obligations.SamplingCommandsComplete := by
  intro s t lane tag pos cause rank msg note again ht hlane hup e
  refine ⟨exec_logitStream s ht hup msg, exec_tailSweep s ht hup hlane, exec_logitBufferReadDone s ht hup hlane msg,
    exec_smpLaneRetired s ht hup hlane cause, fun htail hok => ?_, exec_draft s ht hup msg,
    fun _ => exec_draftEdgeReadDone s ht hup tag, exec_refineRequest s ht hup msg, fun r hr => ?_,
    exec_grammarReadError s ht hup tag rank again,
    fun hlead => ⟨exec_refineReply s ht hup hlead msg note, fun m hm hnoted hok => ?_⟩⟩
  · rw [exec_select s ht hup, Eng.takeSelect_of_ok htail hok]
  · rw [exec_summaryRerequest s ht hup, Eng.resweep_of_buffered hr]
  · rw [exec_grammarNote s ht hup hlead, Eng.takeNote_of_ok hm hnoted hok]

end Sys2Proof

end

section
/-! Local tools (08 R200 to R205): the commands of orders, cancels and results, and the statement about them. -/

namespace Sys2Proof.Machine

variable (s : State) {t : Nat} (ht : t < 2 ^ 64) (hup : s.eng.up = true)

include ht hup

/-! ## Orders and cancels: every chip hands them down the tree and carries them out itself (R201, R205) -/

theorem exec_toolOrder (msg : Bytes) :
    exec (.toolOrder t msg) s = .next (s.done t (((s.found t).down 0x07 msg).takeToolOrder msg)) :=
  exec_of_engineDo (c := .toolOrder t msg) rfl ht rfl hup rfl

theorem exec_toolCancel (msg : Bytes) :
    exec (.toolCancel t msg) s =
      .next (s.done t (((s.found t).down 0x08 msg).abortTool (u48 msg 0) (u32 msg 8))) :=
  exec_of_engineDo (c := .toolCancel t msg) rfl ht rfl hup rfl

/-! ## Results: the Lead alone collects the parts, and asks again for those that are late (R202, R204) -/

variable (hlead : s.eng.isLead = true)

include hlead

theorem exec_toolPart (msg : Bytes) (labels : List (List Nat)) :
    exec (.toolPart t msg labels) s = .next (s.done t ((s.found t).takePart msg labels)) :=
  exec_of_leadDo (c := .toolPart t msg labels) rfl ht rfl hup hlead rfl

theorem exec_toolPartTimeout (instar tag : Nat) (labels : List (List Nat)) :
    exec (.toolPartTimeout t instar tag labels) s = .next (s.done t ((s.found t).partTimeout instar tag labels)) :=
  exec_of_leadDo (c := .toolPartTimeout t instar tag labels) rfl ht rfl hup hlead rfl

end Sys2Proof.Machine

namespace Sys2Proof

open Machine

/-- Settles O49: one law per command; those of results need the Lead. -/
theorem toolCommandsComplete : Obligations.ToolCommandsComplete := by
  intro s t n tag msg labels ht hup e
  exact ⟨exec_toolOrder s ht hup msg, exec_toolCancel s ht hup msg, fun hlead =>
    ⟨exec_toolPart s ht hup hlead msg labels, exec_toolPartTimeout s ht hup hlead n tag labels⟩⟩

end Sys2Proof

end

section
/-! Placement and the movement of pages (09): the halving of wait records (R222), the lapse of pins (R230), the commands of
placement orders, of placement's timers and of page moves, and the statements about them. -/

namespace Sys2Proof

/-! ## Tables of counts, halved -/

theorem Tab.get?_mapVals {α β : Type} (m : Tab α) (f : Nat → α → β) (k : Nat) :
    Tab.get? (Tab.mapVals m f) k = (Tab.get? m k).map (f k) := by
  induction m with
  | nil => rfl
  | cons p m ih =>
    obtain ⟨j, v⟩ := p
    simp only [Tab.mapVals] at ih
    simp only [Tab.mapVals, List.map_cons, Tab.get?, ih]
    obtain hkj | rfl | hjk := lt_trichotomy k j
    · simp [hkj, hkj.ne']
    · simp
    · simp [hjk.not_gt, hjk.ne]

theorem Tab.risingFrom_mapVals {α β : Type} (m : Tab α) (f : Nat → α → β) (lo : Option Nat) :
    Tab.risingFrom lo (Tab.mapVals m f) = Tab.risingFrom lo m := by
  induction m generalizing lo with
  | nil => cases lo <;> rfl
  | cons p m ih =>
    cases lo with
    | none => exact ih _
    | some a => exact congrArg (decide (a < p.1) && ·) (ih _)

/-- Values may change without touching the order of the keys. -/
theorem Tab.wf_mapVals {α β : Type} (m : Tab α) (f : Nat → α → β) : Tab.wf (Tab.mapVals m f) = Tab.wf m :=
  Tab.risingFrom_mapVals m f none

/-- What is listed after some entries were taken out: the value of a key whose entry stays. -/
theorem Tab.get?_filter {α : Type} {m : Tab α} (f : Nat × α → Bool) (k : Nat) (h : Tab.wf m = true) :
    Tab.get? (m.filter f) k = (Tab.get? m k).filter fun v => f (k, v) := by
  induction m with
  | nil => rfl
  | cons p m ih =>
    obtain ⟨j, v⟩ := p
    rw [Tab.wf_cons] at h
    -- The rest lists only keys above `j`, so a key up to `j` is not found there, filtered or not.
    have hrest {l : Nat} (hl : l ≤ j) : Tab.get? (m.filter f) l = none :=
      Tab.get?_risingFrom (Tab.risingFrom_filter f h) hl
    have hih := ih (Tab.risingFrom_wf h)
    obtain hkj | rfl | hjk := lt_trichotomy k j
    · cases hf : f (j, v) <;> simp [hf, Tab.get?, hkj, hkj.ne', hrest hkj.le]
    · cases hf : f (k, v) <;> simp [hf, Tab.get?, hrest le_rfl, Option.filter_some]
    · cases hf : f (j, v) <;> simp [hf, Tab.get?, hjk.not_gt, hjk.ne, hih]

/-- Every count halved, rounding down; a count that comes to 0 is not listed. -/
def Tab.halved (m : Tab Nat) : Tab Nat := (Tab.mapVals m fun _ c => c / 2).filter fun p => decide (p.2 ≠ 0)

theorem Tab.getD_halved {m : Tab Nat} (k : Nat) (h : Tab.wf m = true) :
    Tab.getD (Tab.halved m) k 0 = Tab.getD m k 0 / 2 := by
  rw [Tab.getD, Tab.halved, Tab.get?_filter _ _ ((Tab.wf_mapVals _ _).trans h), Tab.get?_mapVals, Tab.getD]
  cases Tab.get? m k with
  | none => rfl
  | some c => by_cases hc : c / 2 = 0 <;> simp [Option.filter_some, hc]

namespace Machine

/-! ## Wait records (R222) and the prefix sketch (R232) -/

theorem Eng.decay_of_below {e : Eng} {k : Nat} {r : WaitRec} (hr : e.waitRec k = some r) (hn : r.n < e.param 0x0802) :
    e.decay k = e := by
  simp only [Eng.decay, hr, if_pos hn]

/-- The record with every bin halved and its count taken again. -/
def WaitRec.halved (r : WaitRec) : WaitRec :=
  { r with bins := Tab.halved r.bins, n := sumN (Tab.vals (Tab.halved r.bins)) }

theorem Eng.decay_of_full {e : Eng} {k : Nat} {r : WaitRec} (hr : e.waitRec k = some r) (hn : e.param 0x0802 ≤ r.n) :
    e.decay k = { e with pln := { e.pln with waits := Tab.put e.pln.waits k r.halved } } := by
  simp only [Eng.decay, hr, if_neg hn.not_gt]
  rfl

/-- After 2^20 first placements the sketch is halved. -/
theorem Eng.halveSketch_of_full {e : Eng} (h : 2 ^ 20 ≤ e.pln.firsts) :
    e.halveSketch = { e with pln := { e.pln with firsts := 0, sketch := Tab.halved e.pln.sketch } } :=
  if_neg h.not_gt

/-! ## Entries and chrysalis descriptors -/

theorem Eng.find_some {e : Eng} {tag : Nat} {x : Entry} (h : e.find tag = some x) : x.tag = tag ∧ x.state ≠ .free := by
  unfold Eng.find at h
  split at h
  · obtain ⟨hx, hsome⟩ := Option.ite_none_right_eq_some.mp h
    cases hsome
    simpa using hx
  · cases h

/-- The entry that a tag names is read from the entries alone. -/
theorem Eng.find_of_entries {d e : Eng} {tag : Nat}
    (h : Tab.get? d.dir.entries (tagIndex tag) = Tab.get? e.dir.entries (tagIndex tag)) : d.find tag = e.find tag := by
  simp only [Eng.find, h]

/-- All that caching a line can change: the cache, and the count of sticky lines evicted. -/
theorem Eng.cacheIn_eq (e : Eng) (tag : Nat) :
    ∃ cache regs, e.cacheIn tag = { e with dir := { e.dir with cache := cache }, regs := regs } := by
  unfold Eng.cacheIn
  split
  · exact ⟨e.dir.cache, e.regs, rfl⟩
  · extract_lets line same rest ways
    split
    · exact ⟨_, e.regs, rfl⟩
    · split
      · exact ⟨_, e.regs, rfl⟩
      · extract_lets d
        split
        · exact ⟨_, _, rfl⟩
        · exact ⟨_, e.regs, rfl⟩

/-- All that writing an entry can change: the entry, the cache, and the count of sticky lines evicted. -/
theorem Eng.putEntry_eq (e : Eng) (x : Entry) : ∃ cache regs, e.putEntry x =
    { e with dir := { e.dir with entries := Tab.put e.dir.entries (tagIndex x.tag) x, cache := cache }, regs := regs } := by
  obtain ⟨cache, regs, h⟩ :=
    Eng.cacheIn_eq { e with dir := { e.dir with entries := Tab.put e.dir.entries (tagIndex x.tag) x } } x.tag
  exact ⟨cache, regs, h⟩

@[simp] theorem Eng.putEntry_entries (e : Eng) (x : Entry) :
    (e.putEntry x).dir.entries = Tab.put e.dir.entries (tagIndex x.tag) x := by
  obtain ⟨cache, regs, h⟩ := e.putEntry_eq x
  rw [h]

@[simp] theorem Eng.putEntry_tel (e : Eng) (x : Entry) : (e.putEntry x).tel = e.tel := by
  obtain ⟨cache, regs, h⟩ := e.putEntry_eq x
  rw [h]

@[simp] theorem Eng.putEntry_out (e : Eng) (x : Entry) : (e.putEntry x).out = e.out := by
  obtain ⟨cache, regs, h⟩ := e.putEntry_eq x
  rw [h]

theorem Eng.find_putEntry_self (e : Eng) {x : Entry} (h : x.state ≠ .free) : (e.putEntry x).find x.tag = some x := by
  simp [Eng.find, h]

theorem Eng.find_putEntry_other (e : Eng) {x : Entry} {o : Nat} (h : tagIndex o ≠ tagIndex x.tag) :
    (e.putEntry x).find o = e.find o :=
  Eng.find_of_entries (by rw [Eng.putEntry_entries, Tab.get?_put_other _ _ _ _ h])

/-- All that a change of a session's chrysalis descriptor can change: the descriptors. -/
theorem Eng.modChr_eq (e : Eng) (tag : Nat) (f : Chrys → Chrys) :
    ∃ chrys, e.modChr tag f = { e with pln := { e.pln with chrys := chrys } } := by
  unfold Eng.modChr
  split
  · exact ⟨_, rfl⟩
  · exact ⟨e.pln.chrys, rfl⟩

@[simp] theorem Eng.modChr_dir (e : Eng) (tag : Nat) (f : Chrys → Chrys) : (e.modChr tag f).dir = e.dir := by
  obtain ⟨chrys, h⟩ := e.modChr_eq tag f
  rw [h]

@[simp] theorem Eng.modChr_tel (e : Eng) (tag : Nat) (f : Chrys → Chrys) : (e.modChr tag f).tel = e.tel := by
  obtain ⟨chrys, h⟩ := e.modChr_eq tag f
  rw [h]

@[simp] theorem Eng.modChr_out (e : Eng) (tag : Nat) (f : Chrys → Chrys) : (e.modChr tag f).out = e.out := by
  obtain ⟨chrys, h⟩ := e.modChr_eq tag f
  rw [h]

@[simp] theorem Eng.find_modChr (e : Eng) (tag o : Nat) (f : Chrys → Chrys) : (e.modChr tag f).find o = e.find o :=
  Eng.find_of_entries (by rw [Eng.modChr_dir])

/-- A session without a descriptor reads the one that nothing was entered in. -/
theorem Eng.chr_modChr_self (e : Eng) (tag : Nat) (f : Chrys → Chrys) :
    (e.modChr tag f).chr tag = if (Tab.get? e.pln.chrys tag).isSome then f (e.chr tag) else { tag := tag } := by
  unfold Eng.modChr
  split
  · simp [Eng.chr]
  · next h => simp [Eng.chr, Option.not_isSome_iff_eq_none.mp h]

/-! ## Pins (R230) -/

/-- Ending a pin writes the session's entry without it, and takes the tier and the time out of its descriptor. -/
theorem Eng.unpin_of_find {e : Eng} {tag : Nat} {x : Entry} (hx : e.find tag = some x) :
    e.unpin tag = (e.putEntry { x with pin := false }).modChr tag fun c => { c with pinTier := none, pinExp := 0 } := by
  simp only [Eng.unpin, Eng.modEntry, hx]

theorem Eng.find_unpin_self {e : Eng} {tag : Nat} {x : Entry} (hx : e.find tag = some x) :
    (e.unpin tag).find tag = some { x with pin := false } := by
  obtain ⟨rfl, hlive⟩ := Eng.find_some hx
  rw [Eng.unpin_of_find hx, Eng.find_modChr]
  exact e.find_putEntry_self (x := { x with pin := false }) hlive

theorem Eng.find_unpin_other {e : Eng} {tag o : Nat} {x : Entry} (hx : e.find tag = some x)
    (ho : tagIndex o ≠ tagIndex tag) : (e.unpin tag).find o = e.find o := by
  obtain ⟨rfl, -⟩ := Eng.find_some hx
  rw [Eng.unpin_of_find hx, Eng.find_modChr]
  exact e.find_putEntry_other (x := { x with pin := false }) ho

theorem Eng.pinTier_unpin (e : Eng) (tag : Nat) : ((e.unpin tag).chr tag).pinTier = none := by
  rw [Eng.unpin, Eng.chr_modChr_self]
  split <;> rfl

theorem Eng.pinExpired_of_lapsed {e : Eng} {tag : Nat} {x : Entry} (hx : e.find tag = some x) (hpin : x.pin = true)
    (hexp : (e.chr tag).pinExp ≤ e.now) : e.pinExpired tag = e.unpin tag := by
  simp [Eng.pinExpired, hx, hpin, hexp]

/-! ## The other operations of placement, where their condition holds -/

/-- An order of the kind that its row gives is handed on and accepted (R227). -/
theorem Eng.orderIn_of_parse {e : Eng} {k : Nat} {msg : Bytes} {o : Order} (ho : Order.parse msg = some o)
    (hkind : o.kind = k) : e.orderIn k msg = (e.down 0x20 msg).acceptOrder o := by
  simp only [Eng.orderIn, ho, if_pos hkind]

theorem Eng.loadCalendar_of_room {e : Eng} (hheld : e.pln.onDie < e.pln.held.length) (hroom : e.pln.onDie < 4096) :
    e.loadCalendar = { e with pln := { e.pln with onDie := e.pln.onDie + 1 } } :=
  if_pos ⟨hheld, hroom⟩

/-- A session that is not in DECODE on this chip has no copies in T0 to drop (R215). -/
theorem Eng.t0Expired_of_no_decode {e : Eng} {tag : Nat} (h : (e.chipRec tag).dec = none) : e.t0Expired tag = e := by
  simp [Eng.t0Expired, h]

/-- An IDLE session that no move holds takes a demotion step at its TTL_EXP (R214). -/
theorem Eng.ttlExpired_of_idle {e : Eng} {tag : Nat} {x : Entry} (hlead : e.isLead = true) (hx : e.find tag = some x)
    (hidle : x.state = .idle) (hmove : x.moving = false) (hset : x.ttlExp ≠ 0) (hexp : x.ttlExp ≤ actTime e.now)
    (hdec : (e.chipRec tag).dec = none) : e.ttlExpired tag = e.demoteStep x := by
  simp [Eng.ttlExpired, Eng.t0Expired_of_no_decode hdec, hlead, hx, hidle, hmove, hset, hexp]

/-! ## The commands of placement -/

@[simp] theorem State.found_isLead (s : State) (t : Nat) : (s.found t).isLead = s.eng.isLead :=
  Eng.catchUp_isLead _

section
variable (s : State) {t : Nat} (ht : t < 2 ^ 64) (hup : s.eng.up = true)

include ht hup

/-- A command that brings an order of its row's kind hands it on and accepts it. -/
theorem exec_of_orderIn {c : Instr} {name : String} {k : Nat} {msg : Bytes} {o : Order}
    (h : exec c s = s.run c name (Eng.engineDo fun e => e.orderIn k msg)) (htime : c.time = t) (hu : c.unitOk = true)
    (ho : Order.parse msg = some o) (hkind : o.kind = k) :
    exec c s = .next (s.done t (((s.found t).down 0x20 msg).acceptOrder o)) := by
  subst htime
  exact exec_of_engineDo h ht hu hup (Eng.orderIn_of_parse ho hkind)

theorem exec_orderTimeDue (tag : Nat) :
    exec (.orderTimeDue t tag) s = .next (s.done t ((s.found t).orderDue tag)) :=
  exec_of_engineDo (c := .orderTimeDue t tag) rfl ht rfl hup rfl

theorem exec_ttlExpiry (tag : Nat) : exec (.ttlExpiry t tag) s = .next (s.done t ((s.found t).ttlExpired tag)) :=
  exec_of_engineDo (c := .ttlExpiry t tag) rfl ht rfl hup rfl

theorem exec_calendarLoad : exec (.calendarLoad t) s = .next (s.done t (s.found t).loadCalendar) :=
  exec_of_engineDo (c := .calendarLoad t) rfl ht rfl hup rfl

variable (hlead : s.eng.isLead = true)

include hlead

theorem exec_pinExpiry (tag : Nat) : exec (.pinExpiry t tag) s = .next (s.done t ((s.found t).pinExpired tag)) :=
  exec_of_leadDo (c := .pinExpiry t tag) rfl ht rfl hup hlead rfl

theorem exec_waitRecordFill (tenant tool : Nat) : exec (.waitRecordFill t tenant tool) s =
    .next (s.done t ((s.found t).waitFilled (waitKey tenant tool))) :=
  exec_of_leadDo (c := .waitRecordFill t tenant tool) rfl ht rfl hup hlead rfl

theorem exec_waitRecordDecay (tenant tool : Nat) : exec (.waitRecordDecay t tenant tool) s =
    .next (s.done t ((s.found t).decay (waitKey tenant tool))) :=
  exec_of_leadDo (c := .waitRecordDecay t tenant tool) rfl ht rfl hup hlead rfl

theorem exec_prefixSketchHalve : exec (.prefixSketchHalve t) s = .next (s.done t (s.found t).halveSketch) :=
  exec_of_leadDo (c := .prefixSketchHalve t) rfl ht rfl hup hlead rfl

end

/-! ## The commands of page moves -/

section
variable (s : State) {t : Nat} (ht : t < 2 ^ 64) (hup : s.eng.up = true)

include ht hup

theorem exec_pageLegDone {channel : Nat} (hchannel : channel < 64) (ok : Bool) (crc : Nat) (chk : MovCheck) :
    exec (.pageLegDone t channel ok crc chk) s = .next (s.done t ((s.found t).legDone channel ok crc chk)) :=
  exec_of_engineDo (c := .pageLegDone t channel ok crc chk) rfl ht (decide_eq_true hchannel) hup rfl

/-- The Lead takes the report of a move's end, and every other chip hands it up the tree (R228). -/
theorem exec_moveEndReport (msg : Bytes) : exec (.moveEndReport t msg) s = .next (s.done t
    (if (s.found t).isLead then (s.found t).takeReport msg else (s.found t).upward 0x21 msg)) :=
  exec_of_engineDo (c := .moveEndReport t msg) rfl ht rfl hup rfl

theorem exec_nicConnectionLost (target : Nat) : exec (.nicConnectionLost t target) s =
    .next (s.done t (((s.found t).failTarget target 1).restartMoves target)) :=
  exec_of_engineDo (c := .nicConnectionLost t target) rfl ht rfl hup rfl

theorem exec_nvmeNamespaceFailed (target : Nat) : exec (.nvmeNamespaceFailed t target) s =
    .next (s.done t (((s.found t).failTarget target 2).restartMoves target)) :=
  exec_of_engineDo (c := .nvmeNamespaceFailed t target) rfl ht rfl hup rfl

theorem exec_hbmStackFailed {stack : Nat} (hstack : stack < 8) (lost : Bool) :
    exec (.hbmStackFailed t stack lost) s = .next (s.done t ((s.found t).stackFailed stack lost)) :=
  exec_of_engineDo (c := .hbmStackFailed t stack lost) rfl ht (decide_eq_true hstack) hup rfl

theorem exec_migReq (msg : Bytes) : exec (.migReq t msg) s = .next (s.done t ((s.found t).takeMigReq msg)) :=
  exec_of_engineDo (c := .migReq t msg) rfl ht rfl hup rfl

theorem exec_migData (msg : Bytes) : exec (.migData t msg) s = .next (s.done t ((s.found t).takeMigData msg)) :=
  exec_of_engineDo (c := .migData t msg) rfl ht rfl hup rfl

end

end Machine

open Machine

/-- Settles O30: the new record's bins are the old ones halved, by `Eng.decay_of_full`. -/
theorem waitRecordsHalve : Obligations.WaitRecordsHalve := by
  intro s t tenant tool r ht hup hlead e k hr
  have hexec : exec (.waitRecordDecay t tenant tool) s = .next (s.done t (e.decay k)) :=
    exec_waitRecordDecay s ht hup hlead tenant tool
  -- How the engine was found no longer matters.
  clear_value e
  refine ⟨fun hn => ?_, fun hn hwf => ⟨r.halved, Eng.decay_of_full hr hn ▸ hexec, ?_⟩⟩
  · rw [hexec, Eng.decay_of_below hr hn]
  · exact ⟨fun b => Tab.getD_halved b hwf, rfl, rfl⟩

/-- Settles O31: the lapse is `Eng.unpin`, which writes one entry and one descriptor. -/
theorem pinsLapse : Obligations.PinsLapse := by
  intro s t tag x ht hup hlead e hx hpin hexp
  have hexec : exec (.pinExpiry t tag) s = .next (s.done t (e.unpin tag)) := by
    rw [exec_pinExpiry s ht hup hlead, Eng.pinExpired_of_lapsed hx hpin hexp]
  -- How the engine was found no longer matters.
  clear_value e
  refine ⟨e.unpin tag, hexec, ⟨_, Eng.find_unpin_self hx, rfl, rfl⟩, e.pinTier_unpin tag, ?_, ?_,
    fun o ho => Eng.find_unpin_other hx ho⟩
  · rw [Eng.unpin_of_find hx, Eng.modChr_tel, Eng.putEntry_tel]
  · rw [Eng.unpin_of_find hx, Eng.modChr_out, Eng.putEntry_out]

/-- Settles O50: the orders of every kind are handed on and accepted alike. -/
theorem orderCommandsComplete : Obligations.OrderCommandsComplete := by
  intro s t msg o ht hup ho t'
  exact ⟨exec_of_orderIn (c := .pupate t msg) s ht hup rfl rfl rfl ho,
    exec_of_orderIn (c := .eclose t msg) s ht hup rfl rfl rfl ho,
    exec_of_orderIn (c := .demote t msg) s ht hup rfl rfl rfl ho,
    exec_of_orderIn (c := .spill t msg) s ht hup rfl rfl rfl ho,
    exec_of_orderIn (c := .refill t msg) s ht hup rfl rfl rfl ho,
    exec_of_orderIn (c := .free t msg) s ht hup rfl rfl rfl ho,
    exec_of_orderIn (c := .cancel t msg) s ht hup rfl rfl rfl ho,
    exec_of_orderIn (c := .reserve t msg) s ht hup rfl rfl rfl ho,
    exec_of_orderIn (c := .prefixCopy t msg) s ht hup rfl rfl rfl ho,
    exec_of_orderIn (c := .migrate t msg) s ht hup rfl rfl rfl ho⟩

/-- Settles O51: one law per command, and one per operation that acts under a condition. -/
theorem placementTimersComplete : Obligations.PlacementTimersComplete := by
  intro s t tag tenant tool ht hup e k
  refine ⟨exec_orderTimeDue s ht hup tag, exec_ttlExpiry s ht hup tag, fun hheld hroom => ?_, fun hlead =>
    ⟨fun x hx hidle hmove hset hexp hdec => ?_, fun x hx hpin hexp => ?_, exec_waitRecordFill s ht hup hlead tenant tool,
      exec_waitRecordDecay s ht hup hlead tenant tool, fun hfirsts => ?_⟩⟩
  · rw [exec_calendarLoad s ht hup, Eng.loadCalendar_of_room hheld hroom]
  · rw [exec_ttlExpiry s ht hup,
      Eng.ttlExpired_of_idle ((s.found_isLead t).trans hlead) hx hidle hmove hset hexp hdec]
  · rw [exec_pinExpiry s ht hup hlead, Eng.pinExpired_of_lapsed hx hpin hexp]
  · rw [exec_prefixSketchHalve s ht hup hlead, Eng.halveSketch_of_full hfirsts]
    rfl

/-- Settles O52: one law per command; a report's way depends on who receives it. -/
theorem moveCommandsComplete : Obligations.MoveCommandsComplete := by
  intro s t n crc stack ok lost chk msg ht hn hstack hup e
  refine ⟨exec_pageLegDone s ht hup hn ok crc chk, fun hlead => ?_, fun hother => ?_, exec_nicConnectionLost s ht hup n,
    exec_nvmeNamespaceFailed s ht hup n, exec_hbmStackFailed s ht hup hstack lost, exec_migReq s ht hup msg,
    exec_migData s ht hup msg⟩
  · rw [exec_moveEndReport s ht hup, if_pos hlead]
  · rw [exec_moveEndReport s ht hup, hother, if_neg Bool.false_ne_true]

end Sys2Proof

end

section
/-! Wings and guarantees (10): acknowledgements (R261), what leaves service with a lease (R267, R268, R270), the commands of
journaling, of snapshots and of the wings, and the statements about them. -/

namespace Sys2Proof.Machine

/-! ## Acknowledgements (R261) -/

/-- How many positions an ACKED covers. -/
def ackedCount : Option Nat → Nat
  | some q => q + 1
  | none => 0

/-- All that an acknowledgement can do: it is ignored and counted, or the session named, whose tenant the label fits, takes it;
then ACKED is not lower, and the summary, the note that it is to be sent, and the emission state are all that changes. -/
theorem Eng.consumerAck_cases (e : Eng) (tag pos : Nat) (terminal : Bool) (src : Nat) :
    OnlyTel e (e.consumerAck tag pos terminal src) ∨
    ∃ x sum dirty emits, e.find tag = some x ∧ e.labelFits src x.tenant = true ∧
      ackedCount (e.sum tag).acked ≤ ackedCount sum.acked ∧
      e.consumerAck tag pos terminal src = { e with twm := { e.twm with
        sums := Tab.put e.twm.sums tag sum, ackDirty := dirty, emits := emits } } := by
  generalize hd : e.consumerAck tag pos terminal src = d
  unfold Eng.consumerAck at hd
  extract_lets +onlyGivenNames ignored at hd
  split at hd
  · exact .inl (hd ▸ OnlyTel.bump e _ _ _ _)
  · next x hx =>
    extract_lets +onlyGivenNames em s up p1 last term raises sets s' at hd
    split at hd
    · exact .inl (hd ▸ OnlyTel.bump e _ _ _ _)
    · next htaken =>
      have hfits : e.labelFits src x.tenant = true := by
        by_contra hmiss
        simp [hmiss] at htaken
      have hrise : ackedCount s.acked ≤ ackedCount s'.acked := by
        by_cases hraises : raises = true
        · have hnew : s'.acked = some pos := if_pos hraises
          have hup : ackedCount s.acked = up s.acked := by cases s.acked <;> rfl
          have hlow : up s.acked < p1 := of_decide_eq_true hraises
          rw [hnew, hup]
          exact hlow.le.trans (Nat.mod_le _ _)
        · have hold : s'.acked = s.acked := if_neg hraises
          rw [hold]
      exact .inr ⟨x, s', _, _, hx, hfits, hrise, hd.symm⟩

/-! ## Leaving service (R268, R270) -/

/-- A fold of steps that change nothing outside ING. -/
theorem Eng.foldl_eq_with_ing {α : Type} {f : Eng → α → Eng} (hf : ∀ e a, ∃ ing, f e a = { e with ing := ing })
    (l : List α) (e : Eng) : ∃ ing, l.foldl f e = { e with ing := ing } := by
  induction l generalizing e with
  | nil => exact ⟨e.ing, rfl⟩
  | cons a l ih =>
    obtain ⟨ing, ha⟩ := hf e a
    obtain ⟨ing', hl⟩ := ih (f e a)
    exact ⟨ing', by rw [List.foldl_cons, hl, ha]⟩

/-- TWM without what is not durable, with the summaries given (R270). -/
def Twm.durableOnly (t : Twm) (sums : Tab Summary) : Twm :=
  { t with
    batches := [], admits := [], answers := t.answers.filter fun a => decide (a.index ≤ t.durable)
    journal := t.journal.filter fun r => decide (r.2.1 ≤ t.durable)
    heads := t.heads.filter fun h => decide (h.1 ≤ t.durable)
    commits := t.commits.filter fun c => decide (c.index ≤ t.durable)
    sums := sums, logs := t.durLogs, endOnClose := [], givenAt := none }

theorem Twm.journal_durableOnly_le (t : Twm) (sums : Tab Summary) :
    ∀ r ∈ (t.durableOnly sums).journal, r.2.1 ≤ t.durable :=
  fun _ h => of_decide_eq_true (List.mem_filter.mp h).2

/-- The engine without what is not durable: blocks withheld for a grant are free again. -/
def Eng.durableOnly (e : Eng) (ing : Ing) (sums : Tab Summary) : Eng :=
  { e.unwithhold with ing := ing, twm := e.twm.durableOnly sums }

theorem Eng.discardUndurable_eq (e : Eng) : ∃ ing sums, e.discardUndurable = e.durableOnly ing sums := by
  unfold Eng.discardUndurable
  extract_lets +onlyGivenNames t keep lost d
  obtain ⟨ing, hd⟩ : ∃ ing, d = { e with ing := ing } :=
    Eng.foldl_eq_with_ing (fun e a => ⟨_, rfl⟩) lost e
  rw [hd]
  exact ⟨_, _, rfl⟩

/-- The engine whose wing has left service: it holds no lease, asks for none, and feeds no partner (R268). -/
def Eng.outOfService (e : Eng) : Eng :=
  { e with twm := { e.twm with wing := .fenced, lease := none, wanted := none, feed := false, catchUp := none
                               snap := none, snapForTwin := false, reading := 0, retryAt := e.now } }

/-- A wing that is not FENCED yet becomes so; only a failed T3 journal target makes it release its lease (R268). -/
theorem Eng.fence_of_not_fenced {e : Eng} {cause : Nat} (seen : Nat) (hwing : e.twm.wing ≠ .fenced) (hcause : cause ≠ 3) :
    e.fence cause seen =
      e.discardUndurable.dropFlights.outOfService.raise 0xC8 2 0 [(16, 1, cause), (20, 4, seen)] := by
  simp [Eng.fence, hwing, hcause, Eng.outOfService]

/-- A lease that has ended is reported, and the wing is FENCED (R267). -/
theorem Eng.leaseOver_of_ended {e : Eng} {x : Nat} (hlease : e.twm.lease = some x) (hend : x ≤ e.now) :
    e.leaseOver = (e.raise 0xC1 2 0 [(16, 1, 2), (17, 1, e.img.wing), (20, 4, e.twm.term)]).fence 2 e.twm.term := by
  simp only [Eng.leaseOver, hlease, if_neg hend.not_gt]

/-- All that the end of a lease does to a SOLO wing, registers and TEL apart: what is not durable and what is in flight is gone,
and the wing is out of service (R267, R268, R270). -/
theorem Eng.leaseOver_of_solo {e : Eng} {x : Nat} (hlease : e.twm.lease = some x) (hend : x ≤ e.now)
    (hsolo : e.twm.wing = .solo) :
    ∃ ing sums, OnlyTel (e.durableOnly ing sums).dropFlights.outOfService e.leaseOver := by
  rw [Eng.leaseOver_of_ended hlease hend, Eng.fence_of_not_fenced _ (by simp [hsolo]) (by decide)]
  have hraise := e.onlyTel_raise 0xC1 2 0 [(16, 1, 2), (17, 1, e.img.wing), (20, 4, e.twm.term)]
  generalize e.raise 0xC1 2 0 [(16, 1, 2), (17, 1, e.img.wing), (20, 4, e.twm.term)] = d at hraise ⊢
  obtain ⟨ing, sums, hdiscard⟩ := d.discardUndurable_eq
  rw [hdiscard]
  have hfenced : OnlyTel (e.durableOnly ing sums).dropFlights.outOfService (d.durableOnly ing sums).dropFlights.outOfService :=
    congrArg (fun y : Eng => (y.durableOnly ing sums).dropFlights.outOfService) hraise
  exact ⟨ing, sums, hfenced.trans (Eng.onlyTel_raise _ _ _ _ _)⟩

/-! ## The other operations of wings and journaling, where their condition holds -/

/-- A snapshot that is due is asked for by the Lead, and every other chip cuts its shard (R279; log entry 127). -/
theorem Eng.snapTick_of_due {e : Eng} (h : e.twm.lastSnap + e.param 0x0C05 * 1000000000 ≤ e.now) :
    e.snapTick = if e.isLead then e.requestSnap else e.cutShard :=
  if_neg h.not_gt

theorem Eng.renewLease_of_due {e : Eng} (hwing : e.twm.wing = .solo) (hlease : e.twm.lease.isSome = true)
    (hdue : e.twm.retryAt + 500000000 ≤ e.now) :
    e.renewLease = Eng.askWitness { e with twm := { e.twm with retryAt := e.now } } 0 e.img.wing true :=
  if_pos (by simp [hwing, hlease, hdue])

theorem Eng.askFenced_of_due {e : Eng} (hwing : e.twm.wing = .fenced) (hdual : e.twm.dual = false)
    (hdue : e.twm.retryAt + 500000000 ≤ e.now) :
    e.askFenced = Eng.askWitness { e with twm := { e.twm with retryAt := e.now } } 3 e.img.wing false :=
  if_pos (by simp [hwing, hdual, hdue])

theorem Eng.emitAgainDue_of_due {e : Eng} {tag : Nat} (hwing : e.twm.wing = .paired) (hdual : e.twm.dual = false)
    (hmatch : e.ing.mismatch = false) (hlive : (e.find tag).isSome = true)
    (hdue : (e.emitOf tag).lastSent + e.param 0x0C01 * 1000 ≤ e.now) : e.emitAgainDue tag = e.emitAgainNow tag :=
  if_pos (by simp [hwing, hdual, hmatch, hlive, hdue])

/-- The Lead's write of RYV_TWM_SNAP_CTRL with START asks for a snapshot (R279). -/
theorem Eng.hostWrite_snapCtrl {e : Eng} {v : Word} (req : Nat) (hup : e.up = true) (hlead : e.isLead = true)
    (hstart : bit v.toNat 31 = true) : e.hostWrite Reg.TWM_SNAP_CTRL v req = e.requestSnap := by
  have hreg := e.hostReg_eq Reg.TWM_SNAP_CTRL _ (by decide) (by decide) hup
    (by simp [Eng.keeps, Reg.TWM_SNAP_CTRL, hlead]) rfl
  simp only [Eng.hostWrite, hreg]
  simp (decide := true) [Eng.writeAction, hstart]

/-! ## The commands of journaling and snapshots -/

section
variable (s : State) {t : Nat} (ht : t < 2 ^ 64)

include ht

theorem exec_snapStart (val : Word) :
    exec (.snapStart t val) s = .next (s.done t ((s.found t).hostWrite Reg.TWM_SNAP_CTRL val 0)) :=
  exec_of_hostDo (c := .snapStart t val) rfl ht rfl rfl

variable (hup : s.eng.up = true)

include hup

theorem exec_journalBatch (msg : Bytes) (stored : Nat) :
    exec (.journalBatch t msg stored) s = .next (s.done t ((s.found t).takeBatch msg stored)) :=
  exec_of_engineDo (c := .journalBatch t msg stored) rfl ht rfl hup rfl

theorem exec_ack {msg : Bytes} (hkind : u8 msg 0 = 0x10) :
    exec (.ack t msg) s = .next (s.done t ((s.found t).takeAck msg)) :=
  exec_of_engineDo (c := .ack t msg) rfl ht rfl hup (if_pos hkind)

theorem exec_nak {msg : Bytes} (hkind : u8 msg 0 = 0x11) :
    exec (.nak t msg) s = .next (s.done t ((s.found t).takeNak msg)) :=
  exec_of_engineDo (c := .nak t msg) rfl ht rfl hup (if_pos hkind)

theorem exec_batchAckTimeout (first : Nat) :
    exec (.batchAckTimeout t first) s = .next (s.done t ((s.found t).ackLate first)) :=
  exec_of_engineDo (c := .batchAckTimeout t first) rfl ht rfl hup rfl

/-- A twin of which nothing has been heard for 10 ms after its handshake is lost (14 R397). -/
theorem exec_twinLinkDown (hshake : (s.found t).twm.handshake = true)
    (hsilent : (s.found t).twm.lastRx + 10000000 ≤ (s.found t).now) :
    exec (.twinLinkDown t) s = .next (s.done t ((s.found t).loseTwin 0)) :=
  exec_of_engineDo (c := .twinLinkDown t) rfl ht rfl hup
    (if_pos (Bool.and_eq_true_iff.mpr ⟨hshake, decide_eq_true hsilent⟩))

theorem exec_hello (msg : Bytes) : exec (.hello t msg) s = .next (s.done t ((s.found t).takeHello msg)) :=
  exec_of_engineDo (c := .hello t msg) rfl ht rfl hup rfl

theorem exec_helloTimer :
    exec (.helloTimer t) s = .next (s.done t ((s.found t).send (.twin (s.found t).helloBytes))) :=
  exec_of_engineDo (c := .helloTimer t) rfl ht rfl hup rfl

theorem exec_t3WriteDone (first : Nat) (ok : Bool) :
    exec (.t3WriteDone t first ok) s = .next (s.done t ((s.found t).t3Written first ok)) :=
  exec_of_engineDo (c := .t3WriteDone t first ok) rfl ht rfl hup rfl

theorem exec_snapData (msg : Bytes) :
    exec (.snapData t msg) s = .next (s.done t ((s.found t).takeSnapData msg)) :=
  exec_of_engineDo (c := .snapData t msg) rfl ht rfl hup rfl

theorem exec_t3ReadDone (recs : Bytes) (manifestOk : Bool) :
    exec (.t3ReadDone t recs manifestOk) s = .next (s.done t ((s.found t).t3Read recs manifestOk)) :=
  exec_of_engineDo (c := .t3ReadDone t recs manifestOk) rfl ht rfl hup rfl

/-- Outside a hold-up a write of the trail is done (12 R342). -/
theorem exec_trailWriteDone (hruns : (s.found t).stopping = false) :
    exec (.trailWriteDone t) s = .next (s.done t (s.found t).flushWritten) :=
  exec_of_engineDo (c := .trailWriteDone t) rfl ht rfl hup (if_neg (by simp [Instr.time, hruns]))

theorem exec_snapshotTimer : exec (.snapshotTimer t) s = .next (s.done t (s.found t).snapTick) :=
  exec_of_engineDo (c := .snapshotTimer t) rfl ht rfl hup rfl

variable (hlead : s.eng.isLead = true)

include hlead

theorem exec_controlBatchTimer : exec (.controlBatchTimer t) s = .next (s.done t (s.found t).sendAcks) :=
  exec_of_leadDo (c := .controlBatchTimer t) rfl ht rfl hup hlead rfl

theorem exec_snapshotWriteDone (rank : Nat) (rep : Option Bytes) :
    exec (.snapshotWriteDone t rank rep) s = .next (s.done t ((s.found t).snapWritten rank rep)) :=
  exec_of_leadDo (c := .snapshotWriteDone t rank rep) rfl ht rfl hup hlead rfl

end

/-! ## The commands of the wings, the witness and acknowledgements -/

section
variable (s : State) {t : Nat} (ht : t < 2 ^ 64) (hup : s.eng.up = true)

include ht hup

theorem exec_handover (msg : Bytes) :
    exec (.handover t msg) s = .next (s.done t ((s.found t).takeHandover msg)) :=
  exec_of_engineDo (c := .handover t msg) rfl ht rfl hup rfl

theorem exec_grant (msg : Datagram) : exec (.grant t msg) s = .next (s.done t ((s.found t).takeGrant msg)) :=
  exec_of_engineDo (c := .grant t msg) rfl ht rfl hup rfl

theorem exec_deny (msg : Datagram) : exec (.deny t msg) s = .next (s.done t ((s.found t).takeDeny msg)) :=
  exec_of_engineDo (c := .deny t msg) rfl ht rfl hup rfl

variable (hlead : s.eng.isLead = true)

include hlead

theorem exec_witnessRetry : exec (.witnessRetry t) s = .next (s.done t (s.found t).retryWitness) :=
  exec_of_leadDo (c := .witnessRetry t) rfl ht rfl hup hlead rfl

theorem exec_leaseRenew : exec (.leaseRenew t) s = .next (s.done t (s.found t).renewLease) :=
  exec_of_leadDo (c := .leaseRenew t) rfl ht rfl hup hlead rfl

theorem exec_leaseEnd : exec (.leaseEnd t) s = .next (s.done t (s.found t).leaseOver) :=
  exec_of_leadDo (c := .leaseEnd t) rfl ht rfl hup hlead rfl

theorem exec_seekingPause : exec (.seekingPause t) s = .next (s.done t (s.found t).pauseSeeking) :=
  exec_of_leadDo (c := .seekingPause t) rfl ht rfl hup hlead rfl

theorem exec_fencedRetry : exec (.fencedRetry t) s = .next (s.done t (s.found t).askFenced) :=
  exec_of_leadDo (c := .fencedRetry t) rfl ht rfl hup hlead rfl

theorem exec_consumerAck {msg : Bytes} (hlen : msg.length = 16) (src : Nat) : exec (.consumerAck t msg src) s =
    .next (s.done t ((s.found t).consumerAck (u32 msg 0) (u32 msg 4) (bit (u8 msg 8) 0) src)) :=
  exec_of_leadDo (c := .consumerAck t msg src) rfl ht rfl hup hlead (if_pos hlen)

theorem exec_emitAgain (tag : Nat) :
    exec (.emitAgain t tag) s = .next (s.done t ((s.found t).emitAgainDue tag)) :=
  exec_of_leadDo (c := .emitAgain t tag) rfl ht rfl hup hlead rfl

end

end Sys2Proof.Machine

namespace Sys2Proof

open Machine

/-- Settles O32, by the two cases of `Eng.consumerAck_cases`. -/
theorem acknowledgementsNeverFallBack : Obligations.AcknowledgementsNeverFallBack := by
  intro s t src msg ht hup hlead hlen e tag up
  have hexec : exec (.consumerAck t msg src) s =
      .next (s.done t (e.consumerAck tag (u32 msg 4) (bit (u8 msg 8) 0) src)) := exec_consumerAck s ht hup hlead hlen src
  rcases e.consumerAck_cases tag (u32 msg 4) (bit (u8 msg 8) 0) src with
    hignored | ⟨x, sum, dirty, emits, hx, hfits, hrise, htaken⟩
  · refine ⟨_, hexec, fun _ _ _ => hignored.twm, fun _ => hignored.twm, ?_, ?_, hignored.dir, hignored.out⟩
    · rw [Eng.sum, Eng.sum, hignored.twm]
    · rw [hignored.twm]
      exact fun _ _ => rfl
  · rw [htaken] at hexec
    refine ⟨_, hexec, fun y hy hmiss => ?_, fun hnone => ?_, ?_, fun o ho => Tab.get?_put_other _ _ _ _ ho, rfl, rfl⟩
    · cases hx.symm.trans hy
      exact absurd hfits (by simp [hmiss])
    · cases hx.symm.trans hnone
    · change ackedCount _ ≤ ackedCount (Tab.getD (Tab.put e.twm.sums tag sum) tag _).acked
      rw [Tab.getD_put_self]
      exact hrise

/-- Settles O33: FENCED is what is left after the discard, and the discard keeps the last index and what is durable. -/
theorem leaseEndFencesTheWing : Obligations.LeaseEndFencesTheWing := by
  intro s t x ht hup hlead e hlease hend hsolo
  have hexec : exec (.leaseEnd t) s = .next (s.done t e.leaseOver) := exec_leaseEnd s ht hup hlead
  -- How the engine was found no longer matters.
  clear_value e
  obtain ⟨ing, sums, hfenced⟩ := Eng.leaseOver_of_solo hlease hend hsolo
  refine ⟨_, hexec, ?_⟩
  rw [hfenced.twm, hfenced.cmp, hfenced.smp, hfenced.dir, hfenced.pln, hfenced.dsq]
  exact ⟨rfl, rfl, rfl, rfl, e.twm.journal_durableOnly_le sums, rfl, rfl, rfl, rfl, rfl, rfl, rfl⟩

/-- Settles O53: one law per command, and one per operation that acts under a condition. -/
theorem journalCommandsComplete : Obligations.JournalCommandsComplete := by
  intro s t first stored rank ok msg shard ht hup e
  refine ⟨exec_journalBatch s ht hup msg stored, exec_ack s ht hup, exec_nak s ht hup, exec_batchAckTimeout s ht hup first,
    exec_twinLinkDown s ht hup, exec_hello s ht hup msg, exec_helloTimer s ht hup, exec_t3WriteDone s ht hup first ok,
    exec_snapData s ht hup msg, exec_t3ReadDone s ht hup msg ok, exec_trailWriteDone s ht hup, fun hdue => ?_,
    fun hlead => ⟨exec_controlBatchTimer s ht hup hlead, exec_snapshotWriteDone s ht hup hlead rank shard⟩,
    fun v hstart hlead hup' => ?_⟩
  · rw [exec_snapshotTimer s ht hup, Eng.snapTick_of_due hdue]
  · rw [exec_snapStart s ht, Eng.hostWrite_snapCtrl 0 hup' hlead hstart]

/-- Settles O54: one law per command, and one per operation that acts under a condition. -/
theorem wingCommandsComplete : Obligations.WingCommandsComplete := by
  intro s t tag src msg answer ht hup e
  refine ⟨fun _ => exec_handover s ht hup msg, exec_grant s ht hup answer, exec_deny s ht hup answer, fun hlead =>
    ⟨exec_witnessRetry s ht hup hlead, fun hwing hlease hdue => ?_, fun x hlease hend => ?_,
      fun _ _ _ => exec_seekingPause s ht hup hlead, fun hwing hdual hdue => ?_,
      fun hlen => exec_consumerAck s ht hup hlead hlen src, fun hwing hdual hmatch hlive hdue => ?_⟩⟩
  · rw [exec_leaseRenew s ht hup hlead, Eng.renewLease_of_due hwing hlease hdue]
  · rw [exec_leaseEnd s ht hup hlead, Eng.leaseOver_of_ended hlease hend]
  · rw [exec_fencedRetry s ht hup hlead, Eng.askFenced_of_due hwing hdual hdue]
  · rw [exec_emitAgain s ht hup hlead, Eng.emitAgainDue_of_due hwing hdual hmatch hlive hdue]

end Sys2Proof

end

section
/-! The queue and the time (13 R349): what a completed command is, what a step and any number of steps do, and the statements
about them. -/

namespace Sys2Proof.Machine

/-! ## A command -/

/-- A well-formed command has one effect, which meets every engine at the command's timestamp with nothing sent. -/
theorem exec_effect {c : Instr} (h : c.wf = true) :
    ∃ f : Eng → Eng, ∀ s, exec c s = .next (s.left c.time (f (s.stamp c.time))) := by
  obtain ⟨name, f, hrun⟩ := exec_run c
  exact ⟨f, fun s => (hrun s).trans (s.run_wf c name f h)⟩

/-- An ill-formed command is refused by name. -/
theorem exec_illFormed {c : Instr} (s : State) (h : c.wf = false) : ∃ name, exec c s = .refused (.illFormed name) := by
  obtain ⟨name, f, hrun⟩ := exec_run c
  exact ⟨name, (hrun s).trans (s.run_illFormed c name f h)⟩

/-- A command that completes is well formed. -/
theorem wf_of_exec_next {c : Instr} {s t : State} (h : exec c s = .next t) : c.wf = true := by
  by_contra hwf
  obtain ⟨name, hrefused⟩ := exec_illFormed s (Bool.eq_false_iff.mpr hwf)
  cases hrefused.symm.trans h

/-- Neither the queue nor the outputs show at the engine that an effect meets. -/
theorem State.stamp_of_queue_and_out (s : State) (t : Nat) (q : List Instr) (o : List Out) :
    State.stamp { eng := { s.eng with out := o }, pending := q } t = s.stamp t := rfl

/-! ## A step -/

/-- With no command waiting a step leaves the block as it is (log entry 1). -/
theorem step_of_idle {s : State} (h : s.pending = []) : step s = .next s := by
  simp only [step, h]

/-- A block that was well is well once the front command is taken and has made the timestamp its own. -/
theorem State.Ok.tail {s t : State} {c : Instr} {q : List Instr} (hs : s.Ok) (hpending : s.pending = c :: q)
    (hq : t.pending = q) (hnow : t.eng.now = max s.eng.now c.time) : t.Ok := by
  obtain ⟨hlt, hwf⟩ := hs
  rw [hpending] at hwf
  obtain ⟨hc, hrest⟩ := List.forall_mem_cons.mp hwf
  exact ⟨hnow ▸ max_lt hlt (Laws.Timed.of_wf c hc), hq ▸ hrest⟩

/-- Where the waiting commands are well formed a step completes: it takes the front command off the queue, does not turn the
time back, and adds to what has left the engine. -/
theorem State.Ok.step_completes {s : State} (hs : s.Ok) : ∃ t : State, step s = .next t ∧ t.pending = s.pending.drop 1 ∧
    s.eng.now ≤ t.eng.now ∧ t.Ok ∧ ∃ new, t.eng.out = new ++ s.eng.out := by
  cases hpending : s.pending with
  | nil => exact ⟨s, step_of_idle hpending, hpending, le_rfl, hs, [], rfl⟩
  | cons c q =>
    obtain ⟨f, hf⟩ := exec_effect (hs.2 c (hpending ▸ List.mem_cons_self))
    exact ⟨_, (step_of_pending hpending).trans (hf _), rfl, le_max_left _ _, hs.tail hpending rfl rfl, _, rfl⟩

/-- A run goes on from where its first step leads. -/
theorem run_succ {s t : State} (k : Nat) (h : step s = .next t) :
    Host.Core.run core (k + 1) s = Host.Core.run core k t := by
  simp only [Host.Core.run, core, h]

end Sys2Proof.Machine

namespace Sys2Proof

open Machine

/-- Settles O1, by what a step does at a queue with a front. -/
theorem stepRunsFrontCommand : Obligations.StepRunsFrontCommand := by
  intro c q s h
  exact step_of_pending h

/-- Settles O2: a command has its effect where it is well formed, and is refused by name where it is not. -/
theorem completesExactlyWhenWellFormed : Obligations.CompletesExactlyWhenWellFormed := by
  intro c s
  refine ⟨⟨fun ⟨_, h⟩ => wf_of_exec_next h, fun hwf => ?_⟩, exec_illFormed s⟩
  obtain ⟨f, hf⟩ := exec_effect hwf
  exact ⟨_, hf s⟩

/-- Settles O3: a command has one effect, and the engine that the effect meets shows neither the queue nor the outputs. -/
theorem queueAndOutputsAreNotRead : Obligations.QueueAndOutputsAreNotRead := by
  intro c s t h
  obtain ⟨f, hf⟩ := exec_effect (wf_of_exec_next h)
  obtain rfl : s.left c.time (f (s.stamp c.time)) = t := Host.Outcome.next.inj ((hf s).symm.trans h)
  refine ⟨rfl, rfl, (f (s.stamp c.time)).out, rfl, fun q o => ?_⟩
  rw [hf, State.stamp_of_queue_and_out]
  rfl

/-- Settles O6: a step of a block that is well completes, and what it leaves is well. -/
theorem stepKeepsStateOk : Obligations.StepKeepsStateOk := by
  intro s t hs h
  obtain ⟨u, hu, -, -, hok, -⟩ := hs.step_completes
  cases hu.symm.trans h
  exact hok

/-- Settles O7, by induction on the number of steps: the first takes the front command, the others what then waits. -/
theorem runTakesTheQueueInOrder : Obligations.RunTakesTheQueueInOrder := by
  intro s k hs
  induction k generalizing s with
  | zero => exact ⟨s, rfl, rfl, le_rfl, hs, [], rfl⟩
  | succ k ih =>
    obtain ⟨u, hstep, hq, hnow, hu, new, hout⟩ := hs.step_completes
    obtain ⟨t, hrun, hq', hnow', ht, new', hout'⟩ := ih u hu
    refine ⟨t, (run_succ k hstep).trans hrun, ?_, hnow.trans hnow', ht, new' ++ new, ?_⟩
    · rw [hq', hq, List.drop_drop, Nat.add_comm]
    · rw [hout', hout, List.append_assoc]

end Sys2Proof

end

section
/-! The power governor (11): C is no matter of the operating point, its operations where their condition holds, its commands,
and the statements about them. -/

namespace Sys2Proof.Machine

/-! ## What C depends on (R305, R312) -/

/-- The image, the cap and the coolant's cap stand in `d` as in `e`: all that C depends on. -/
def KeepsCap (e d : Eng) : Prop := d.img = e.img ∧ d.pgv.cap = e.pgv.cap ∧ d.pgv.coolCap = e.pgv.coolCap

section
variable {a b c e d : Eng}

theorem KeepsCap.refl (e : Eng) : KeepsCap e e := ⟨rfl, rfl, rfl⟩

theorem KeepsCap.trans (h : KeepsCap a b) (k : KeepsCap b c) : KeepsCap a c := by
  obtain ⟨himg, hcap, hcool⟩ := h
  obtain ⟨himg', hcap', hcool'⟩ := k
  exact ⟨himg'.trans himg, hcap'.trans hcap, hcool'.trans hcool⟩

theorem KeepsCap.capEff (h : KeepsCap e d) : d.capEff = e.capEff := by
  obtain ⟨himg, hcap, hcool⟩ := h
  simp only [Eng.capEff, Eng.param, Eng.paramAt, himg, hcap, hcool]

theorem OnlyTel.keepsCap (h : OnlyTel e d) : KeepsCap e d := ⟨h.img, by rw [h.pgv], by rw [h.pgv]⟩

theorem KeepsCap.send (h : KeepsCap e d) (o : Out) : KeepsCap e (d.send o) := h

theorem KeepsCap.setSeq (h : KeepsCap e d) (f : SeqSt → SeqSt) : KeepsCap e (d.setSeq f) := h

end

theorem Eng.keepsCap_presentSkips (e : Eng) : KeepsCap e e.presentSkips := by
  unfold Eng.presentSkips
  extract_lets b i
  split
  · exact .refl e
  · exact ⟨rfl, rfl, rfl⟩

theorem Eng.keepsCap_limFall (e : Eng) : KeepsCap e e.limFall := by
  rw [Eng.limFall, Eng.setLim]
  split
  · exact .refl e
  · exact .trans (b := e.modPgv _) ⟨rfl, rfl, rfl⟩ (Eng.keepsCap_presentSkips _)

theorem Eng.keepsCap_writeRail (e : Eng) (r mv : Nat) : KeepsCap e (e.writeRail r mv) := by
  unfold Eng.writeRail
  split
  · exact (KeepsCap.refl e).setSeq _
  · exact ⟨rfl, rfl, rfl⟩

theorem Eng.keepsCap_beginOp (e : Eng) (t : Nat) : KeepsCap e (e.beginOp t) := by
  unfold Eng.beginOp
  extract_lets q o f
  split
  · exact (KeepsCap.refl e).setSeq _
  · split
    · have hf : KeepsCap e f := (KeepsCap.refl e).setSeq _
      split <;> exact hf.trans (f.keepsCap_writeRail _ _)
    · exact ((KeepsCap.refl e).setSeq _).send _

theorem Eng.keepsCap_newTarget (e : Eng) (t : Nat) : KeepsCap e (e.newTarget t) := by
  unfold Eng.newTarget
  extract_lets q
  split
  · exact .refl e
  · split
    · split
      · exact (KeepsCap.refl e).setSeq _
      · exact e.keepsCap_beginOp t
    · split
      · exact .refl e
      · exact (KeepsCap.refl e).setSeq _

theorem Eng.keepsCap_retarget (e : Eng) : KeepsCap e e.retarget := by
  unfold Eng.retarget
  split
  · exact e.keepsCap_newTarget _
  · exact .refl e

/-- A move of the ladder does not move C. -/
theorem Eng.keepsCap_noteLadder (e : Eng) : KeepsCap e e.noteLadder :=
  (((e.onlyTel_raise _ _ _ _).keepsCap).trans (Eng.keepsCap_limFall _)).trans (Eng.keepsCap_retarget _)

/-! ## Operations, where their condition holds -/

/-- A millisecond of deficit is over (R307). -/
theorem Eng.deficitMs_of_due {e : Eng} {x : Nat} (hsince : e.pgv.defSince = some x) (hdue : x + 1000000 ≤ e.now) :
    e.deficitMs = (e.modPgv fun g => { g with defSince := some e.now }).deficit := by
  simp only [Eng.deficitMs, hsince, if_neg hdue.not_gt]

/-- Ten milliseconds of surplus are over (R307). -/
theorem Eng.surplusMs_of_due {e : Eng} {x : Nat} (hsince : e.pgv.surSince = some x) (hdue : x + 10000000 ≤ e.now) :
    e.surplusMs = (e.modPgv fun g => { g with surSince := some e.now }).surplusStep := by
  simp only [Eng.surplusMs, hsince, if_neg hdue.not_gt]

/-- Power above C over the 50 ms since the entry to IDLE is unattainable: it is reported, and CAP_FAIL_N is driven (R308). -/
theorem Eng.unattainable_of_above {e : Eng} {meanW : Nat} (hidle : e.pgv.ladder = 4)
    (hdue : e.pgv.idleSince + 50000000 ≤ e.now) (habove : e.capEff < meanW) :
    e.unattainable meanW = (((e.modPgv fun g => { g with ladder := 5 }).noteLadder).raise 0xB1 3 0
      [(16, 2, e.capEff), (18, 2, meanW), (20, 1, 1)]).send (.capFail true) := by
  have hmoved : KeepsCap e (e.modPgv fun g => { g with ladder := 5 }) := ⟨rfl, rfl, rfl⟩
  rw [Eng.unattainable, if_neg (by omega)]
  dsimp only
  rw [(hmoved.trans (Eng.keepsCap_noteLadder _)).capEff]

/-- Power at most C leaves UNATTAINABLE: the report is withdrawn, and CAP_FAIL_N is released (R307, R308). -/
theorem Eng.attainable_of_below {e : Eng} {meanW : Nat} (hladder : e.pgv.ladder = 5) (hbelow : meanW ≤ e.capEff) :
    e.attainable meanW = (((e.modPgv fun g => { g with ladder := 4, idleSince := e.now }).noteLadder).raise 0xB1 3 0
      [(16, 2, e.capEff), (18, 2, meanW), (20, 1, 0)]).send (.capFail false) := by
  have hmoved : KeepsCap e (e.modPgv fun g => { g with ladder := 4, idleSince := e.now }) := ⟨rfl, rfl, rfl⟩
  rw [Eng.attainable, if_neg (by omega), Eng.leaveUnattainable, (hmoved.trans (Eng.keepsCap_noteLadder _)).capEff]

/-- Class 1 takes the actions of class 0 once flow has been lost for 2 s (R312). -/
theorem Eng.coolantEscalate_of_due {e : Eng} {x : Nat} (hlost : e.pgv.coolLost = some x) (hpolicy : e.policy = 1)
    (hdue : x + 2000000000 ≤ e.now) : e.coolantEscalate = e.coolActions := by
  simp only [Eng.coolantEscalate, hlost, hpolicy, hdue, decide_true, Bool.and_true, if_true]

theorem Eng.coolantHigh_of_lost {e : Eng} {x : Nat} (hlost : e.pgv.coolLost = some x) (hlow : e.pgv.coolHigh = none) :
    e.coolantHigh = e.modPgv fun g => { g with coolHigh := some e.now } :=
  if_pos (by simp [hlost, hlow])

/-! ## The commands of shedding, samples, polls and rail writes -/

section
variable (s : State) {t : Nat} (ht : t < 2 ^ 64)

include ht

/-- A Lead that is up sheds (R309). -/
theorem exec_shedOnCap (hup : s.eng.up = true) (hlead : s.eng.isLead = true) (misses : Nat) :
    exec (.shedOnCap t misses) s = .next (s.done t ((s.found t).shed misses)) :=
  exec_of_leadDo (c := .shedOnCap t misses) rfl ht rfl hup hlead rfl

variable (ha : s.eng.aonUp = true)

include ha

theorem exec_fastLoop (vc vs : List Int) (mvs : List Nat) (stretch hot sensor kMean : Nat) (pulses : List Nat)
    (tools : List (Nat × Nat)) : exec (.fastLoop t vc vs mvs stretch hot sensor kMean pulses tools) s =
    .next (s.done t ((s.found t).sampleUs vc vs mvs stretch hot sensor kMean pulses tools).endQuiet) :=
  exec_of_aonDo (c := .fastLoop t vc vs mvs stretch hot sensor kMean pulses tools) rfl ht rfl ha rfl

theorem exec_pmbusPoll : exec (.pmbusPoll t) s = .next (s.done t (s.found t).pollAll) :=
  exec_of_aonDo (c := .pmbusPoll t) rfl ht rfl ha rfl

theorem exec_pmbusDone {rail : Nat} (hrail : rail < 6) (pout status : Nat) (phases failed : List Nat) :
    exec (.pmbusDone t rail pout status phases failed) s = .next (s.done t ((s.found t).polled rail pout failed)) :=
  exec_of_aonDo (c := .pmbusDone t rail pout status phases failed) rfl ht (decide_eq_true hrail) ha rfl

theorem exec_vdone {rail : Nat} (hrail : rail < 2) (mv : Nat) :
    exec (.vdone t rail mv) s = .next (s.done t ((s.found t).railDone rail mv)) :=
  exec_of_aonDo (c := .vdone t rail mv) rfl ht (decide_eq_true hrail) ha rfl

theorem exec_clockAck : exec (.clockAck t) s = .next (s.done t (s.found t).clockDone) :=
  exec_of_aonDo (c := .clockAck t) rfl ht rfl ha rfl

theorem exec_slewTimeout {rail : Nat} (hrail : rail < 2) (mv : Nat) :
    exec (.slewTimeout t rail mv) s = .next (s.done t ((s.found t).slewLate rail mv)) :=
  exec_of_aonDo (c := .slewTimeout t rail mv) rfl ht (decide_eq_true hrail) ha rfl

theorem exec_excitationTest : exec (.excitationTest t) s = .next (s.done t (s.found t).exciteBoth) :=
  exec_of_aonDo (c := .excitationTest t) rfl ht rfl ha rfl

theorem exec_quietRequest : exec (.quietRequest t) s = .next (s.done t (s.found t).askQuiet) :=
  exec_of_aonDo (c := .quietRequest t) rfl ht rfl ha rfl

/-! ## The commands of the ladder -/

theorem exec_deficitMs : exec (.deficitMs t) s = .next (s.done t (s.found t).deficitMs) :=
  exec_of_aonDo (c := .deficitMs t) rfl ht rfl ha rfl

theorem exec_surplus : exec (.surplus t) s = .next (s.done t (s.found t).surplusMs) :=
  exec_of_aonDo (c := .surplus t) rfl ht rfl ha rfl

theorem exec_unattainableCheck (meanW : Nat) :
    exec (.unattainableCheck t meanW) s = .next (s.done t ((s.found t).unattainable meanW)) :=
  exec_of_aonDo (c := .unattainableCheck t meanW) rfl ht rfl ha rfl

theorem exec_unattainableExit (meanW : Nat) :
    exec (.unattainableExit t meanW) s = .next (s.done t ((s.found t).attainable meanW)) :=
  exec_of_aonDo (c := .unattainableExit t meanW) rfl ht rfl ha rfl

/-! ## The commands of alerts, coolant and temperature -/

theorem exec_regAlert {rail : Nat} (hrail : rail < 6) (addr status phase : Nat) :
    exec (.regAlert t rail addr status phase) s = .next (s.done t ((s.found t).alert rail addr status phase)) :=
  exec_of_aonDo (c := .regAlert t rail addr status phase) rfl ht (decide_eq_true hrail) ha rfl

theorem exec_regAlertClear : exec (.regAlertClear t) s = .next (s.done t (s.found t).alertClear) :=
  exec_of_aonDo (c := .regAlertClear t) rfl ht rfl ha rfl

theorem exec_regAlertTimeout : exec (.regAlertTimeout t) s = .next (s.done t (s.found t).alertLong) :=
  exec_of_aonDo (c := .regAlertTimeout t) rfl ht rfl ha rfl

theorem exec_alertHoldEnd : exec (.alertHoldEnd t) s = .next (s.done t (s.found t).alertHeld) :=
  exec_of_aonDo (c := .alertHoldEnd t) rfl ht rfl ha rfl

theorem exec_coolFlowLost : exec (.coolFlowLost t) s = .next (s.done t (s.found t).coolantLost) :=
  exec_of_aonDo (c := .coolFlowLost t) rfl ht rfl ha rfl

theorem exec_coolFlowEscalate : exec (.coolFlowEscalate t) s = .next (s.done t (s.found t).coolantEscalate) :=
  exec_of_aonDo (c := .coolFlowEscalate t) rfl ht rfl ha rfl

theorem exec_coolFlowRestored : exec (.coolFlowRestored t) s = .next (s.done t (s.found t).coolantBack) :=
  exec_of_aonDo (c := .coolFlowRestored t) rfl ht rfl ha rfl

theorem exec_coolFlowOkHigh : exec (.coolFlowOkHigh t) s = .next (s.done t (s.found t).coolantHigh) :=
  exec_of_aonDo (c := .coolFlowOkHigh t) rfl ht rfl ha rfl

theorem exec_thermalCrit (temp sensor : Nat) :
    exec (.thermalCrit t temp sensor) s = .next (s.done t ((s.found t).tooHot temp sensor)) :=
  exec_of_aonDo (c := .thermalCrit t temp sensor) rfl ht rfl ha rfl

theorem exec_thermalCritTimeout (temp : Nat) :
    exec (.thermalCritTimeout t temp) s = .next (s.done t ((s.found t).stillHot temp)) :=
  exec_of_aonDo (c := .thermalCritTimeout t temp) rfl ht rfl ha rfl

end

end Sys2Proof.Machine

namespace Sys2Proof

open Machine

/-- Settles O55: one law per command. -/
theorem powerSamplingCommandsComplete : Obligations.PowerSamplingCommandsComplete := by
  intro s t stretch hot sensor kMean rail pout status mv vc vs mvs pulses phases failed tools ht hrail ha
  exact ⟨exec_fastLoop s ht ha vc vs mvs stretch hot sensor kMean pulses tools, exec_pmbusPoll s ht ha,
    exec_pmbusDone s ht ha (hrail.trans (by decide)) pout status phases failed, exec_vdone s ht ha hrail mv,
    exec_clockAck s ht ha, exec_slewTimeout s ht ha hrail mv, exec_excitationTest s ht ha, exec_quietRequest s ht ha⟩

/-- Settles O56: one law per command, and one per operation that acts under a condition; C is the same before and after a move
of the ladder. -/
theorem ladderCommandsComplete : Obligations.LadderCommandsComplete := by
  intro s t meanW misses ht ha e
  refine ⟨fun x hsince hdue => ?_, fun x hsince hdue => ?_, fun hidle hdue habove => ?_, fun hladder hbelow => ?_,
    fun hup hlead => exec_shedOnCap s ht hup hlead misses⟩
  · rw [exec_deficitMs s ht ha, Eng.deficitMs_of_due hsince hdue]
  · rw [exec_surplus s ht ha, Eng.surplusMs_of_due hsince hdue]
  · rw [exec_unattainableCheck s ht ha, Eng.unattainable_of_above hidle hdue habove]
  · rw [exec_unattainableExit s ht ha, Eng.attainable_of_below hladder hbelow]

/-- Settles O57: one law per command, and one per operation that acts under a condition. -/
theorem alarmCommandsComplete : Obligations.AlarmCommandsComplete := by
  intro s t rail addr status phase temp sensor ht hrail ha e
  refine ⟨exec_regAlert s ht ha hrail addr status phase, exec_regAlertClear s ht ha, exec_regAlertTimeout s ht ha,
    exec_alertHoldEnd s ht ha, exec_coolFlowLost s ht ha, fun x hlost hpolicy hdue => ?_, exec_coolFlowRestored s ht ha,
    fun x hlost hlow => ?_, fun _ _ => exec_thermalCrit s ht ha temp sensor, exec_thermalCritTimeout s ht ha temp⟩
  · rw [exec_coolFlowEscalate s ht ha, Eng.coolantEscalate_of_due hlost hpolicy hdue]
  · rw [exec_coolFlowOkHigh s ht ha, Eng.coolantHigh_of_lost hlost hlow]

end Sys2Proof

end

section
/-! The locked sequence (13 R370 to R373): its operations where their condition holds, its commands, and the statements about
them. -/

namespace Sys2Proof.Machine

/-! ## Lock actions, where their condition holds -/

/-- DBG_LOCK finds room in the event queue. -/
theorem Eng.noteLock_of_room {e : Eng} (code holder staged : Nat) (hroom : e.tel.queue.length < 64) :
    e.noteLock code holder staged = { e with tel := { e.tel with queue := e.tel.queue ++
      [e.notice 0xE0 1 0 (evData [(16, 1, code), (18, 2, holder), (20, 4, staged)])] } } :=
  e.raise_room _ _ _ _ hroom

theorem Eng.holds_iff {e : Eng} {req : Nat} : e.holds req = true ↔ e.dbg.lock.held = true ∧ e.dbg.lock.holder = req := by
  simp only [Eng.holds, Bool.and_eq_true, beq_iff_eq]

/-- A free lock is granted, and DBG_LOCK finds room (R370). -/
theorem Eng.acquireLock_of_free {e : Eng} {req : Nat} (hfree : e.dbg.lock.held = false) (hreq : req < 65536)
    (hroom : e.tel.queue.length < 64) :
    e.acquireLock req = { e with
      dbg := { e.dbg with lock :=
        { held := true, holder := req, leaseEnd := e.now + e.leaseNs, lastBreak := e.dbg.lock.lastBreak } }
      tel := { e.tel with queue := e.tel.queue ++
        [e.notice 0xE0 1 0 (evData [(16, 1, 0), (18, 2, req), (20, 4, 0)])] } } := by
  simp only [Eng.acquireLock, hfree, Bool.false_eq_true, if_false, Nat.mod_eq_of_lt hreq]
  exact Eng.noteLock_of_room _ _ _ hroom

/-- The holder renews its lease (R370). -/
theorem Eng.renewLock_of_holds {e : Eng} {req : Nat} (hholds : e.holds req = true) :
    e.renewLock req = e.setLock { e.dbg.lock with leaseEnd := e.now + e.leaseNs } :=
  if_pos hholds

/-- The holder's release without a commit, or of a list that overflowed, applies nothing (R372). -/
theorem Eng.releaseLock_of_discard {e : Eng} {req : Nat} {commit : Bool} (hholds : e.holds req = true)
    (hdiscard : (commit && !e.dbg.lock.overflow) = false) : e.releaseLock req commit =
      (e.freeLock none).noteLock 2 e.dbg.lock.holder e.dbg.lock.staged.length := by
  simp [Eng.releaseLock, hholds, hdiscard]

/-- The holder's release with a commit applies the list (R372). -/
theorem Eng.releaseLock_of_commit {e : Eng} {req : Nat} (hholds : e.holds req = true)
    (hfits : e.dbg.lock.overflow = false) : e.releaseLock req true =
      ((e.dbg.lock.staged.foldl Eng.commitWrite e).freeLock none).noteLock 1 e.dbg.lock.holder e.dbg.lock.staged.length := by
  simp [Eng.releaseLock, hholds, hfits]

/-- The lease of a lock that is held breaks (R373). -/
theorem Eng.breakLock_of_held {e : Eng} (brk code : Nat) (hheld : e.dbg.lock.held = true) : e.breakLock brk code =
    (e.freeLock (some brk)).noteLock code e.dbg.lock.holder e.dbg.lock.staged.length := by
  simp [Eng.breakLock, hheld]

/-- The lock is free, its list is gone, and DBG_LOCK is presented with the holder and the list's length of `l`. -/
def Eng.freed (e : Eng) (l : Lock) (brk code : Nat) : Eng :=
  { e with
    dbg := { e.dbg with lock := { lastBreak := brk }, haltPending := false }
    tel := { e.tel with queue := e.tel.queue ++
      [e.notice 0xE0 1 0 (evData [(16, 1, code), (18, 2, l.holder), (20, 4, l.staged.length)])] } }

/-- A lock that is freed is told of where the event queue has room. -/
theorem Eng.noteLock_freeLock {e : Eng} (l : Lock) (brk : Option Nat) (code : Nat) (hroom : e.tel.queue.length < 64) :
    (e.freeLock brk).noteLock code l.holder l.staged.length = e.freed l (brk.getD e.dbg.lock.lastBreak) code :=
  Eng.noteLock_of_room _ _ _ hroom

/-! ## Committing the staging list -/

/-- A commit changes registers and the lo halves that wait, and nothing else. -/
theorem Eng.commitWrite_eq (e : Eng) (w : Staged) :
    ∃ regs loStage, e.commitWrite w = { e with regs := regs, loStage := loStage } := by
  unfold Eng.commitWrite
  split
  · exact ⟨_, _, rfl⟩
  · extract_lets mask merge lo e'
    split
    · exact ⟨_, _, rfl⟩
    · exact ⟨_, _, rfl⟩
    · obtain ⟨regs, loStage, h⟩ : ∃ regs loStage, e' = { e with regs := regs, loStage := loStage } := by
        unfold e'
        split <;> exact ⟨_, _, rfl⟩
      rw [h]
      exact ⟨_, _, rfl⟩

theorem Eng.commitWrites_eq (l : List Staged) (e : Eng) :
    ∃ regs loStage, l.foldl Eng.commitWrite e = { e with regs := regs, loStage := loStage } := by
  induction l generalizing e with
  | nil => exact ⟨_, _, rfl⟩
  | cons w l ih =>
    obtain ⟨_, _, hw⟩ := e.commitWrite_eq w
    obtain ⟨regs, loStage, hl⟩ := ih (e.commitWrite w)
    exact ⟨regs, loStage, by rw [List.foldl_cons, hl, hw]⟩

@[simp] theorem Eng.commitWrites_tel (l : List Staged) (e : Eng) : (l.foldl Eng.commitWrite e).tel = e.tel := by
  obtain ⟨_, _, h⟩ := Eng.commitWrites_eq l e
  rw [h]

@[simp] theorem Eng.commitWrites_dbg (l : List Staged) (e : Eng) : (l.foldl Eng.commitWrite e).dbg = e.dbg := by
  obtain ⟨_, _, h⟩ := Eng.commitWrites_eq l e
  rw [h]

/-- A staged write of a register that is no half of a pair replaces its RWL fields. -/
theorem Eng.commitWrite_of_one (e : Eng) {o : Nat} (v : Word) {r : RegRow} (hr : regAt o = some r) (hone : r.half = .one) :
    e.commitWrite { off := o, val := v } = e.setReg o ((e.reg o &&& ~~~accMask r .rwl) ||| (v &&& accMask r .rwl)) := by
  simp only [Eng.commitWrite, hr, hone, accMask]

/-! ## Writes of staged registers (R371) -/

/-- A row has no bits of a code that none of its fields has. -/
theorem accMask_of_none {r : RegRow} {a : Acc} (h : ∀ f ∈ r.fields, f.acc ≠ a) : accMask r a = 0 := by
  have hsum : (r.fields.map fun f => if f.acc = a then 2 ^ (f.hi + 1) - 2 ^ f.lo else 0).sum = 0 :=
    List.sum_eq_zero (List.forall_mem_map.mpr fun f hf => if_neg (h f hf))
  rw [accMask, sumN, ← List.sum_eq_foldl, hsum]
  rfl

/-- The registers whose writes have an action of their own, beside those of RWL fields. -/
def actingOffsets : List Nat :=
  [Reg.GLB_LOCK, Reg.TWM_SNAP_CTRL, Reg.TEL_MARK, Reg.DBG_PEEK_ARG] ++
    (List.range 16).map (Reg.TEL_SETA_SEL 0 + 4 * ·) ++ (List.range 64).map (Reg.TEL_RING_PROD 0 + 4 * ·)

/-- Each of them has a field that is not RWL, or none at all. -/
theorem regAt_acting : ∀ off ∈ actingOffsets,
    (regAt off).all (fun r => r.fields.isEmpty || r.fields.any fun f => f.acc != .rwl) = true := by decide

/-- A register of RWL fields alone has no action of its own. -/
theorem not_acting_of_rwl {off : Nat} {r : RegRow} (hr : regAt off = some r) (hne : r.fields ≠ [])
    (hrwl : ∀ f ∈ r.fields, f.acc = .rwl) : off ∉ actingOffsets := by
  intro hmem
  have hother := regAt_acting off hmem
  simp only [hr, Option.all_some, Bool.or_eq_true, List.isEmpty_iff, hne, false_or, List.any_eq_true] at hother
  obtain ⟨f, hf, hacc⟩ := hother
  simp [hrwl f hf] at hacc

/-- A register without an action of its own is none of those that `Eng.hostWrite` and `Eng.writeAction` single out. -/
theorem apart_of_not_acting {off : Nat} (haligned : off % 4 = 0) (h : off ∉ actingOffsets) :
    off ≠ Reg.GLB_LOCK ∧ off ≠ Reg.TWM_SNAP_CTRL ∧ off ≠ Reg.TEL_MARK ∧ off ≠ Reg.DBG_PEEK_ARG ∧
      ¬ (Reg.TEL_SETA_SEL 0 ≤ off ∧ off ≤ Reg.TEL_SETB_SEL 7) ∧
      ¬ (Reg.TEL_RING_PROD 0 ≤ off ∧ off < Reg.TEL_TRACE_CTRL) := by
  simp only [actingOffsets, List.mem_append, List.mem_cons, List.not_mem_nil, or_false, not_or, List.mem_map,
    List.mem_range, not_exists, not_and] at h
  obtain ⟨⟨⟨hlock, hsnap, hmark, hpeek⟩, hsel⟩, hring⟩ := h
  refine ⟨hlock, hsnap, hmark, hpeek, fun hin => ?_, fun hin => ?_⟩
  · have := hsel ((off - Reg.TEL_SETA_SEL 0) / 4)
    simp only [Reg.TEL_SETA_SEL, Reg.TEL_SETB_SEL] at this hin
    omega
  · have := hring ((off - Reg.TEL_RING_PROD 0) / 4)
    simp only [Reg.TEL_RING_PROD, Reg.TEL_TRACE_CTRL] at this hin
    omega

theorem Eng.regAt_of_hostReg {e : Eng} {off : Nat} {r : RegRow} (h : e.hostReg off = some r) : regAt off = some r := by
  unfold Eng.hostReg at h
  split at h
  · cases h
  · exact h

/-- The holder's write of a register of RWL fields alone that does not act at once is staged (R371). -/
theorem Eng.hostWrite_staged {e : Eng} {off req : Nat} {r : RegRow} (v : Word) (hreg : e.hostReg off = some r)
    (hne : r.fields ≠ []) (hrwl : ∀ f ∈ r.fields, f.acc = .rwl) (hmask : accMask r .rwl ≠ 0)
    (himm : immediate off = false) (hholds : e.holds req = true) : e.hostWrite off v req = e.stageWrite off v := by
  have hrow := Eng.regAt_of_hostReg hreg
  obtain ⟨hlock, hsnap, hmark, hpeek, hsel, hring⟩ :=
    apart_of_not_acting (regAt_aligned hrow) (not_acting_of_rwl hrow hne hrwl)
  have hnocons : ¬ (Reg.TEL_RING_PROD 0 ≤ off ∧ off < Reg.TEL_TRACE_CTRL ∧ off % 0x20 = 4) := fun h => hring ⟨h.1, h.2.1⟩
  have hw1c : accMask r .w1c = 0 := accMask_of_none fun f hf => by simp [hrwl f hf]
  have hrw : accMask r .rw = 0 := accMask_of_none fun f hf => by simp [hrwl f hf]
  have haction : e.writeAction off v req = e := by
    simp only [Eng.writeAction, if_neg hlock, if_neg hsnap, if_neg hmark, if_neg hpeek, if_neg hring]
  simp only [Eng.hostWrite, hreg, if_neg hsel, if_neg hnocons, if_pos hw1c, if_pos hrw, haction, if_neg hmask,
    Eng.writeRwl, if_pos hholds, himm, Bool.false_eq_true, if_false]

/-! ## The commands of the lock -/

section
variable (s : State) {t : Nat} (ht : t < 2 ^ 64)

include ht

theorem exec_lockAcquire (req : Nat) :
    exec (.lockAcquire t req) s = .next (s.done t ((s.found t).acquireLock req)) :=
  exec_of_hostDo (c := .lockAcquire t req) rfl ht rfl ((Eng.hostWrite_lock _ _ _).trans rfl)

theorem exec_lockRenew (req : Nat) : exec (.lockRenew t req) s = .next (s.done t ((s.found t).renewLock req)) :=
  exec_of_hostDo (c := .lockRenew t req) rfl ht rfl ((Eng.hostWrite_lock _ _ _).trans rfl)

theorem exec_lockRelease (req : Nat) :
    exec (.lockRelease t req) s = .next (s.done t ((s.found t).releaseLock req false)) :=
  exec_of_hostDo (c := .lockRelease t req) rfl ht rfl ((Eng.hostWrite_lock _ _ _).trans rfl)

theorem exec_lockReleaseCommit (req : Nat) :
    exec (.lockReleaseCommit t req) s = .next (s.done t ((s.found t).releaseLock req true)) :=
  exec_of_hostDo (c := .lockReleaseCommit t req) rfl ht rfl ((Eng.hostWrite_lock _ _ _).trans rfl)

/-- The lease ends once its time has passed (R373). -/
theorem exec_lockLeaseEnd (hheld : (s.found t).dbg.lock.held = true)
    (hend : (s.found t).dbg.lock.leaseEnd ≤ (s.found t).now) :
    exec (.lockLeaseEnd t) s = .next (s.done t ((s.found t).breakLock 1 3)) :=
  exec_of_hostDo (c := .lockLeaseEnd t) rfl ht rfl (if_pos (Bool.and_eq_true_iff.mpr ⟨hheld, decide_eq_true hend⟩))

/-- A reset of the service port breaks the lease under its own cause (R373). -/
theorem exec_servicePortReset {cause : Nat} (hcause : cause = 2 ∨ cause = 3) :
    exec (.servicePortReset t cause) s = .next (s.done t ((s.found t).breakLock cause 4)) := by
  refine exec_of_hostDo (c := .servicePortReset t cause) rfl ht rfl ?_
  obtain rfl | rfl := hcause <;> rfl

theorem exec_stagedWrite {off req : Nat} {r : RegRow} (val : Word) (hreg : (s.found t).hostReg off = some r)
    (hne : r.fields ≠ []) (hrwl : ∀ f ∈ r.fields, f.acc = .rwl) (hmask : accMask r .rwl ≠ 0)
    (himm : immediate off = false) (hholds : (s.found t).holds req = true) :
    exec (.stagedWrite t off val req) s = .next (s.done t ((s.found t).stageWrite off val)) := by
  have hacc : ((s.found t).hasAcc off .rwl && !immediate off) = true := by
    obtain ⟨f, hf⟩ := List.exists_mem_of_ne_nil _ hne
    simp only [Eng.hasAcc, hreg, himm, Bool.not_false, Bool.and_true, List.any_eq_true, beq_iff_eq]
    exact ⟨f, hf, hrwl f hf⟩
  exact exec_of_hostDo (c := .stagedWrite t off val req) rfl ht rfl
    ((if_pos hacc).trans (Eng.hostWrite_staged val hreg hne hrwl hmask himm hholds))

end

end Sys2Proof.Machine

namespace Sys2Proof

open Machine

/-- Settles O40: one law per command. -/
theorem lockCommandsComplete : Obligations.LockCommandsComplete := by
  intro s t req cause ht e
  exact ⟨fun _ => exec_lockAcquire s ht req, fun _ => exec_lockRenew s ht req, fun _ => exec_lockRelease s ht req,
    fun _ => exec_lockReleaseCommit s ht req, exec_lockLeaseEnd s ht, fun _ => exec_servicePortReset s ht⟩

/-- Settles O15: what a grant and a renewal do, and DBG_LOCK finds room. -/
theorem lockIsGrantedAndRenewed : Obligations.LockIsGrantedAndRenewed := by
  intro s t req ht hreq e lease
  refine ⟨fun hfree hroom => ?_, fun hheld hholder => ?_⟩
  · rw [exec_lockAcquire s ht, Eng.acquireLock_of_free hfree hreq hroom]
    rfl
  · rw [exec_lockRenew s ht, Eng.renewLock_of_holds (Eng.holds_iff.mpr ⟨hheld, hholder⟩)]
    rfl

/-- Settles O17: the write is staged, by whether the list has room. -/
theorem stagedWritesWait : Obligations.StagedWritesWait := by
  intro s t off req val r ht e l hreg hne hrwl hmask himm hholds
  rw [exec_stagedWrite s ht val hreg hne hrwl hmask himm hholds]
  refine ⟨fun hroom => ?_, fun hfull => ?_⟩
  · rw [Eng.stageWrite, if_neg hroom.not_ge]
    rfl
  · rw [Eng.stageWrite, if_pos hfull]
    rfl

/-- Settles O18: a commit leaves the lock and the event queue as they are, so the release that follows finds them. -/
theorem releaseCommitsTheList : Obligations.ReleaseCommitsTheList := by
  intro s t req ht e l freed hholds hroom
  have hfreed (f : Eng) (hdbg : f.dbg = e.dbg) (htel : f.tel = e.tel) (code : Nat) :
      s.done t ((f.freeLock none).noteLock code l.holder l.staged.length) = freed f code := by
    rw [Eng.noteLock_freeLock l none code (htel ▸ hroom), hdbg]
    rfl
  have hcommit (hfits : l.overflow = false) :
      exec (.lockReleaseCommit t req) s = .next (freed (l.staged.foldl Eng.commitWrite e) 1) := by
    rw [exec_lockReleaseCommit s ht, Eng.releaseLock_of_commit hholds hfits,
      hfreed _ (Eng.commitWrites_dbg _ _) (Eng.commitWrites_tel _ _)]
  refine ⟨?_, fun hover => ?_, hcommit, fun o v r hfits hstaged hrow hone => ?_⟩
  · rw [exec_lockRelease s ht, Eng.releaseLock_of_discard hholds rfl, hfreed e rfl rfl]
  · rw [exec_lockReleaseCommit s ht, Eng.releaseLock_of_discard hholds (by simp [show e.dbg.lock.overflow = true from hover]),
      hfreed e rfl rfl]
  · rw [hcommit hfits, hstaged, List.foldl_cons, List.foldl_nil, Eng.commitWrite_of_one e v hrow hone]

/-- Settles O19: each of the three breaks the lease, and DBG_LOCK finds room. -/
theorem brokenLeaseDiscardsTheList : Obligations.BrokenLeaseDiscardsTheList := by
  intro s t ht e l freed hheld hroom
  have hfreed (brk code : Nat) : s.done t (e.breakLock brk code) = freed brk code := by
    rw [Eng.breakLock_of_held brk code hheld, Eng.noteLock_freeLock _ _ _ hroom]
    rfl
  refine ⟨fun hend => ?_, ?_, ?_⟩
  · rw [exec_lockLeaseEnd s ht hheld hend, hfreed]
  · rw [exec_servicePortReset s ht (.inl rfl), hfreed]
  · rw [exec_servicePortReset s ht (.inr rfl), hfreed]

end Sys2Proof

end

section
/-! Start-up, resets, the flash and the hold-up (12): the operations where their condition holds, the commands, and the
statements about where they complete. -/

namespace Sys2Proof.Machine

/-! ## Operations, where their condition holds -/

/-- The holder's write of RYV_IML_RESET resets the engine (R338). -/
theorem Eng.hostWrite_resetEngine {e : Eng} {req : Nat} (hholds : e.holds req = true) :
    e.hostWrite Reg.IML_RESET 0x80000000#32 req = e.askReset 1 false := by
  have hreg := e.hostReg_eq Reg.IML_RESET _ (by decide) (by decide) rfl rfl rfl
  rw [Eng.hostWrite_immediate _ hreg rfl (by decide) (by decide) (by decide) hholds]
  simp (decide := true) [Eng.writeNow]

/-- At a Lead that is up it resets the flutter (R338). -/
theorem Eng.hostWrite_resetFlutter {e : Eng} {req : Nat} (hholds : e.holds req = true) (hlead : e.isLead = true)
    (hup : e.up = true) : e.hostWrite Reg.IML_RESET 0x40000000#32 req = e.askReset 2 true := by
  have hreg := e.hostReg_eq Reg.IML_RESET _ (by decide) (by decide) rfl rfl rfl
  rw [Eng.hostWrite_immediate _ hreg rfl (by decide) (by decide) (by decide) hholds]
  simp (decide := true) [Eng.writeNow, hlead, hup]

/-- A warning outside a hold-up starts one (R340). -/
theorem Eng.warned_outside_holdup {e : Eng} (ha : e.aonUp = true) (hwarn : e.iml.warn = false) (hhold : e.iml.hold = 0) :
    e.warned = (e.modIml fun i => { i with warn := true }).startHoldup := by
  simp [Eng.warned, ha, hwarn, Eng.modIml, hhold]

/-- The rails go down once RIDE_MS have passed since the checkpoint (R340, R345). -/
theorem Eng.rideOut_of_due {e : Eng} (hhold : e.iml.hold = 3) (hdue : e.iml.since + e.param 0x0100 * 1000000 ≤ e.now) :
    e.rideOut = Eng.powerDown 6 ((e.setHold 4).limFall.noteHoldup 3) :=
  if_neg (by omega)

/-- A dwell that ends without a warning ends the hold-up (R340). -/
theorem Eng.endDwell_of_due {e : Eng} (hhold : e.iml.hold = 5) (hdue : e.iml.since + 100000000 ≤ e.now)
    (hwarn : e.iml.warn = false) : e.endDwell = e.setHold 0 := by
  rw [Eng.endDwell, if_neg (by omega), if_neg (by simp [hwarn])]

/-! ## The commands of start-up and resets -/

section
variable (s : State) {t : Nat} (ht : t < 2 ^ 64)

include ht

theorem exec_vaonGood (fuses : Bytes) : exec (.vaonGood t fuses) s = .next (s.done t ((s.found t).coldBoot fuses)) :=
  exec_of_hostDo (c := .vaonGood t fuses) rfl ht rfl rfl

theorem exec_resetEngine {req : Nat} (hholds : (s.found t).holds req = true) :
    exec (.resetEngine t req) s = .next (s.done t ((s.found t).askReset 1 false)) :=
  exec_of_hostDo (c := .resetEngine t req) rfl ht rfl (Eng.hostWrite_resetEngine hholds)

theorem exec_resetFlutter {req : Nat} (hholds : (s.found t).holds req = true) (hlead : (s.found t).isLead = true)
    (hup : (s.found t).up = true) :
    exec (.resetFlutter t req) s = .next (s.done t ((s.found t).askReset 2 true)) :=
  exec_of_hostDo (c := .resetFlutter t req) rfl ht rfl (Eng.hostWrite_resetFlutter hholds hlead hup)

theorem exec_flashErase (req addr : Nat) :
    exec (.flashErase t req addr) s = .next (s.done t ((s.found t).flashOp 0 req addr)) :=
  exec_of_hostDo (c := .flashErase t req addr) rfl ht rfl rfl

theorem exec_flashProgram (req addr : Nat) :
    exec (.flashProgram t req addr) s = .next (s.done t ((s.found t).flashOp 1 req addr)) :=
  exec_of_hostDo (c := .flashProgram t req addr) rfl ht rfl rfl

theorem exec_flashRead (req addr : Nat) :
    exec (.flashRead t req addr) s = .next (s.done t ((s.found t).flashOp 2 req addr)) :=
  exec_of_hostDo (c := .flashRead t req addr) rfl ht rfl rfl

theorem exec_flashValidate (req addr : Nat) :
    exec (.flashValidate t req addr) s = .next (s.done t ((s.found t).flashOp 3 req addr)) :=
  exec_of_hostDo (c := .flashValidate t req addr) rfl ht rfl rfl

variable (ha : s.eng.aonUp = true)

include ha

theorem exec_railPowerGood {rail : Nat} (hrail : rail < 6) :
    exec (.railPowerGood t rail) s = .next (s.done t ((s.found t).railGood rail)) :=
  exec_of_aonDo (c := .railPowerGood t rail) rfl ht (decide_eq_true hrail) ha rfl

theorem exec_flashStatusWriteDone (ok : Bool) :
    exec (.flashStatusWriteDone t ok) s = .next (s.done t ((s.found t).statusWritten ok)) :=
  exec_of_aonDo (c := .flashStatusWriteDone t ok) rfl ht rfl ha rfl

theorem exec_hbmReady {lanes : List Nat} {units : List BistUnit} (hlanes : ∀ n ∈ lanes, n < 64)
    (hunits : ∀ u ∈ units, u.ok = true) :
    exec (.hbmReady t lanes units) s = .next (s.done t ((s.found t).hbmIsReady (lanes, units))) :=
  exec_of_aonDo (c := .hbmReady t lanes units) rfl ht (by simpa [Instr.unitOk] using ⟨hlanes, hunits⟩) ha rfl

theorem exec_engResetInput : exec (.engResetInput t) s = .next (s.done t ((s.found t).askReset 4 false)) :=
  exec_of_aonDo (c := .engResetInput t) rfl ht rfl ha rfl

theorem exec_flutterReset (msg : Bytes) :
    exec (.flutterReset t msg) s = .next (s.done t (((s.found t).down 0x01 msg).askReset 2 false)) :=
  exec_of_aonDo (c := .flutterReset t msg) rfl ht rfl ha rfl

/-- The watchdog of an island that runs resets the engine (R339). -/
theorem exec_aonWatchdog {island : Nat} (hisland : island < 18) (hruns : (s.found t).islandRuns island = true) :
    exec (.aonWatchdog t island) s = .next (s.done t ((s.found t).askReset 3 false)) :=
  exec_of_aonDo (c := .aonWatchdog t island) rfl ht (decide_eq_true hisland) ha (if_pos hruns)

theorem exec_flashOpDone (result : Nat) :
    exec (.flashOpDone t result) s = .next (s.done t ((s.found t).endFlashOp result)) :=
  exec_of_aonDo (c := .flashOpDone t result) rfl ht rfl ha rfl

/-! ## The commands of the hold-up -/

theorem exec_pfWarn : exec (.pfWarn t) s = .next (s.done t (s.found t).warned) :=
  exec_of_aonDo (c := .pfWarn t) rfl ht rfl ha rfl

theorem exec_pfWarnClear : exec (.pfWarnClear t) s = .next (s.done t (s.found t).warnCleared) :=
  exec_of_aonDo (c := .pfWarnClear t) rfl ht rfl ha rfl

theorem exec_holdupInstarTimeout : exec (.holdupInstarTimeout t) s = .next (s.done t (s.found t).dropInFlight) :=
  exec_of_aonDo (c := .holdupInstarTimeout t) rfl ht rfl ha rfl

/-- The oldest write of the flush is done (R341). -/
theorem exec_flushWriteDone : exec (.flushWriteDone t) s = .next (s.done t (s.found t).flushWritten) :=
  exec_of_aonDo (c := .flushWriteDone t) rfl ht rfl ha rfl

theorem exec_rideTimeout : exec (.rideTimeout t) s = .next (s.done t (s.found t).rideOut) :=
  exec_of_aonDo (c := .rideTimeout t) rfl ht rfl ha rfl

theorem exec_dwellEnd : exec (.dwellEnd t) s = .next (s.done t (s.found t).endDwell) :=
  exec_of_aonDo (c := .dwellEnd t) rfl ht rfl ha rfl

theorem exec_railPowerFail {rail : Nat} (hrail : rail < 6) :
    exec (.railPowerFail t rail) s = .next (s.done t ((s.found t).railFell rail)) :=
  exec_of_aonDo (c := .railPowerFail t rail) rfl ht (decide_eq_true hrail) ha rfl

theorem exec_pdRailTimeout : exec (.pdRailTimeout t) s = .next (s.done t (s.found t).railLate) :=
  exec_of_aonDo (c := .pdRailTimeout t) rfl ht rfl ha rfl

end

end Sys2Proof.Machine

namespace Sys2Proof

open Machine

/-- Settles O58: one law per command. -/
theorem bootCommandsComplete : Obligations.BootCommandsComplete := by
  intro s t rail island req addr res fuses msg ok lanes units ht hrail hisland e
  exact ⟨fun _ => exec_vaonGood s ht fuses, fun ha => ⟨exec_railPowerGood s ht ha hrail,
    exec_flashStatusWriteDone s ht ha ok, exec_hbmReady s ht ha, exec_engResetInput s ht ha, exec_flutterReset s ht ha msg,
    exec_aonWatchdog s ht ha hisland, fun hholds => ⟨exec_resetEngine s ht hholds, exec_resetFlutter s ht hholds⟩,
    exec_flashErase s ht req addr, exec_flashProgram s ht req addr, exec_flashRead s ht req addr,
    exec_flashValidate s ht req addr, exec_flashOpDone s ht ha res⟩⟩

/-- Settles O59: one law per command, and one per operation that acts under a condition. -/
theorem holdupCommandsComplete : Obligations.HoldupCommandsComplete := by
  intro s t rail ht hrail ha e
  refine ⟨fun haon hwarn hhold => ?_, exec_pfWarnClear s ht ha, exec_holdupInstarTimeout s ht ha,
    exec_flushWriteDone s ht ha, fun hhold hdue => ?_, fun hhold hdue hwarn => ?_, exec_railPowerFail s ht ha hrail,
    exec_pdRailTimeout s ht ha⟩
  · rw [exec_pfWarn s ht ha, Eng.warned_outside_holdup haon hwarn hhold]
  · rw [exec_rideTimeout s ht ha, Eng.rideOut_of_due hhold hdue]
  · rw [exec_dwellEnd s ht ha, Eng.endDwell_of_due hhold hdue hwarn]

end Sys2Proof

end

section
/-! Telemetry (13): counters that wrap (R351), the bounds of the event queue, the trace FIFO and the list of open markers
(R361, R366, R368, R369), the commands of time, epochs, events and the trace port, and the statements about them. -/

namespace Sys2Proof.Machine

/-! ## Counters (R351) -/

/-- Counter `i` of the live set. -/
def Eng.counter (e : Eng) (i : Nat) : Nat := Tab.getD e.tel.live i 0

/-- A count that does not wrap changes its counter alone. -/
theorem Eng.count_of_fits {e : Eng} {i n : Nat} (h : e.counter i + n < 2 ^ 64) : e.count i n =
    { e with tel := { e.tel with live := Tab.write e.tel.live 0 i ((e.counter i + n) % 2 ^ 64) } } :=
  if_pos h

/-- A count that wraps sets its bit for the epoch and in TEL_WRAPPED. -/
theorem Eng.count_of_wraps {e : Eng} {i n : Nat} (h : 2 ^ 64 ≤ e.counter i + n) : e.count i n =
    Eng.setReg { e with tel := { e.tel with
        live := Tab.write e.tel.live 0 i ((e.counter i + n) % 2 ^ 64), wrapEpoch := e.tel.wrapEpoch ||| 2 ^ i } }
      Reg.TEL_WRAPPED (e.reg Reg.TEL_WRAPPED ||| BitVec.ofNat 32 (2 ^ i)) :=
  if_neg h.not_gt

/-- Whether it wraps or not, a count writes its sum to its counter. -/
theorem Eng.count_live (e : Eng) (i n : Nat) :
    (e.count i n).tel.live = Tab.write e.tel.live 0 i ((e.counter i + n) % 2 ^ 64) := by
  obtain h | h := lt_or_ge (e.counter i + n) (2 ^ 64)
  · rw [Eng.count_of_fits h]
  · rw [Eng.count_of_wraps h]
    rfl

theorem Eng.counter_count_self {e : Eng} (i n : Nat) (hwf : Tab.wf e.tel.live = true) :
    (e.count i n).counter i = (e.counter i + n) % 2 ^ 64 := by
  rw [Eng.counter, Eng.count_live, Tab.getD_write_self _ _ _ hwf]

theorem Eng.counter_count_other {e : Eng} {i j : Nat} (n : Nat) (hwf : Tab.wf e.tel.live = true) (hj : j ≠ i) :
    (e.count i n).counter j = e.counter j := by
  rw [Eng.counter, Eng.count_live, Tab.getD_write_other _ _ _ _ _ hwf hj, Eng.counter]

/-- Setting bit `i` of a word adds that bit to those it has. -/
theorem getLsbD_or_twoPow (w : Word) {i j : Nat} (hj : j < 32) :
    (w ||| BitVec.ofNat 32 (2 ^ i)).getLsbD j = true ↔ w.getLsbD j = true ∨ j = i := by
  rw [BitVec.getLsbD_or, Bool.or_eq_true, BitVec.getLsbD_ofNat, decide_eq_true hj, Bool.true_and, Nat.testBit_two_pow,
    decide_eq_true_eq, eq_comm (a := i)]

/-- A count sets the bit of its counter in TEL_WRAPPED where it wraps, and clears no bit. -/
theorem Eng.wrapped_count {e : Eng} {i n j : Nat} (hwf : Tab.wf e.regs = true) (hj : j < 32) :
    ((e.count i n).reg Reg.TEL_WRAPPED).getLsbD j = true ↔
      (e.reg Reg.TEL_WRAPPED).getLsbD j = true ∨ (j = i ∧ 2 ^ 64 ≤ e.counter i + n) := by
  obtain h | h := lt_or_ge (e.counter i + n) (2 ^ 64)
  · rw [Eng.count_of_fits h, iff_false_intro h.not_ge, and_false, or_false]
    rfl
  · have hreg : (e.count i n).reg Reg.TEL_WRAPPED = e.reg Reg.TEL_WRAPPED ||| BitVec.ofNat 32 (2 ^ i) := by
      rw [Eng.count_of_wraps h]
      exact Eng.reg_setReg_self _ _ _ hwf
    rw [hreg, getLsbD_or_twoPow _ hj, iff_true_intro h, and_true]

/-! ## The bounds of TEL's buffers -/

/-- The event queue, the trace FIFO and the list of open markers are within their sizes. -/
def Tel.Bounded (t : Tel) : Prop := t.queue.length ≤ 64 ∧ t.fifo.length ≤ 512 ∧ t.marks.length ≤ 16

/-- `d` holds the events, trace records and markers that `e` holds. -/
def SameBuffers (e d : Eng) : Prop :=
  d.tel.queue = e.tel.queue ∧ d.tel.fifo = e.tel.fifo ∧ d.tel.marks = e.tel.marks

theorem SameBuffers.bounded {e d : Eng} (h : SameBuffers e d) (hb : e.tel.Bounded) : d.tel.Bounded := by
  obtain ⟨hqueue, hfifo, hmarks⟩ := h
  rwa [Tel.Bounded, hqueue, hfifo, hmarks]

theorem Eng.sameBuffers_count (e : Eng) (i n : Nat) : SameBuffers e (e.count i n) := by
  obtain h | h := lt_or_ge (e.counter i + n) (2 ^ 64)
  · rw [Eng.count_of_fits h]
    exact ⟨rfl, rfl, rfl⟩
  · rw [Eng.count_of_wraps h]
    exact ⟨rfl, rfl, rfl⟩

theorem Eng.bounded_count {e : Eng} (i n : Nat) (hb : e.tel.Bounded) : (e.count i n).tel.Bounded :=
  (e.sameBuffers_count i n).bounded hb

/-- A notice finds room in the queue, or is counted as lost (R361). -/
theorem Eng.bounded_present {e : Eng} (n : Notice) (hb : e.tel.Bounded) : (e.present n).tel.Bounded := by
  unfold Eng.present
  split
  · next hroom =>
    obtain ⟨-, hfifo, hmarks⟩ := hb
    exact ⟨by simpa using hroom, hfifo, hmarks⟩
  · exact Eng.bounded_count 12 1 hb

theorem Eng.bounded_raise {e : Eng} (typ prio tag : Nat) (fs : List (Nat × Nat × Nat)) (hb : e.tel.Bounded) :
    (e.raise typ prio tag fs).tel.Bounded :=
  Eng.bounded_present _ hb

theorem Eng.bounded_raiseOnce {e : Eng} (key typ prio tag : Nat) (fs : List (Nat × Nat × Nat)) (hb : e.tel.Bounded) :
    (e.raiseOnce key typ prio tag fs).tel.Bounded := by
  unfold Eng.raiseOnce
  split
  · exact hb
  · exact Eng.bounded_raise (e := { e with tel := { e.tel with once := key :: e.tel.once } }) _ _ _ _ hb

/-- A record that is dropped is counted and told of (R368). -/
theorem Eng.bounded_dropTrace {e : Eng} (cause : Nat) (hb : e.tel.Bounded) : (e.dropTrace cause).tel.Bounded :=
  Eng.bounded_raiseOnce _ _ _ _ _ (Eng.bounded_count (e := { e with tel := _ }) 14 1 hb)

/-- A record enters the FIFO with the DROP record before it where both find room, or is dropped (R368). -/
theorem Eng.bounded_pushTrace {e : Eng} (slots : Nat) (r : Bytes) (hb : e.tel.Bounded) :
    (e.pushTrace slots r).tel.Bounded := by
  unfold Eng.pushTrace
  extract_lets drop
  split
  · exact Eng.bounded_dropTrace 0 hb
  · next hroom =>
    obtain ⟨hqueue, -, hmarks⟩ := hb
    refine ⟨hqueue, ?_, hmarks⟩
    simp only [List.length_append, List.length_singleton]
    omega

theorem Eng.bounded_traceAt {e : Eng} (kind island ts : Nat) (fs : List (Nat × Nat × Nat)) (hb : e.tel.Bounded) :
    (e.traceAt kind island ts fs).tel.Bounded := by
  unfold Eng.traceAt
  split
  · exact hb
  · split
    · exact Eng.bounded_dropTrace 1 hb
    · exact Eng.bounded_pushTrace _ _ hb

/-- A marker is opened where there is room for it, and a closed one leaves the list (R369). -/
theorem Eng.bounded_markRange {e : Eng} (v : Nat) (hb : e.tel.Bounded) : (e.markRange v).tel.Bounded := by
  obtain ⟨hqueue, hfifo, hmarks⟩ := hb
  unfold Eng.markRange
  extract_lets id opens m m' tel f g
  have hm' : m'.length ≤ 16 := by
    unfold m' m
    split
    · split
      · exact hmarks
      · next hroom =>
        simp only [Bool.or_eq_true, decide_eq_true_eq, not_or, not_le] at hroom
        simpa using hroom.2
    · exact (List.length_filter_le _ _).trans hmarks
  have hg : g.tel.Bounded := Eng.bounded_traceAt (e := f) _ _ _ _ ⟨hqueue, hfifo, hm'⟩
  split
  · exact Eng.bounded_raise _ _ _ _ hg
  · exact hg

/-- An epoch starts with its own trace record, which may use the slots that are kept for it (R351, R366). -/
theorem Eng.bounded_startEpoch {e : Eng} (hb : e.tel.Bounded) : e.startEpoch.tel.Bounded := by
  unfold Eng.startEpoch
  extract_lets t f due live sel known pages g looks tel dir smp pln h
  have hf : f.tel.Bounded := by
    unfold f
    split
    · exact hb
    · exact Eng.bounded_raise _ _ _ _ hb
  have hh : h.tel.Bounded := hf
  split
  · exact hh
  · exact Eng.bounded_pushTrace _ _ hh

/-! ## Time and the trace port, where their condition holds -/

/-- A record at the front of the FIFO leaves while the trace is enabled (R366). -/
theorem Eng.sendTrace_of_enabled {e : Eng} {b : Bytes} {l : List Bytes} (hfifo : e.tel.fifo = b :: l)
    (hon : e.fld Reg.TEL_TRACE_CTRL 31 31 ≠ 0) : e.sendTrace = (Eng.send { e with tel := { e.tel with
      fifo := l, valid := !l.isEmpty, sentEpoch := e.tel.sentEpoch + 16 } } (.trace b)).count 13 1 := by
  simp only [Eng.sendTrace, hfifo, if_neg hon]

theorem Eng.sendTrace_of_disabled {e : Eng} (hoff : e.fld Reg.TEL_TRACE_CTRL 31 31 = 0) : e.sendTrace = e := by
  unfold Eng.sendTrace
  split
  · rfl
  · exact if_pos hoff

theorem Eng.sendTrace_of_empty {e : Eng} (hfifo : e.tel.fifo = []) : e.sendTrace = e := by
  simp only [Eng.sendTrace, hfifo]

/-- A record that leaves the FIFO makes room in it. -/
theorem Eng.bounded_sendTrace {e : Eng} (hb : e.tel.Bounded) : e.sendTrace.tel.Bounded := by
  by_cases hon : e.fld Reg.TEL_TRACE_CTRL 31 31 = 0
  · rwa [Eng.sendTrace_of_disabled hon]
  · cases hfifo : e.tel.fifo with
    | nil => rwa [Eng.sendTrace_of_empty hfifo]
    | cons b l =>
      rw [Eng.sendTrace_of_enabled hfifo hon]
      obtain ⟨hqueue, hlen, hmarks⟩ := hb
      rw [hfifo, List.length_cons] at hlen
      exact Eng.bounded_count (e := Eng.send { e with tel := _ } _) 13 1 ⟨hqueue, Nat.le_of_succ_le hlen, hmarks⟩

/-- TEL writes the event at the front of its queue (R361). -/
theorem Eng.postEvent_of_queued {e : Eng} {n : Notice} {q : List Notice} (hqueue : e.tel.queue = n :: q) :
    e.postEvent = (Eng.postNotice { e with tel := { e.tel with queue := q } } n).tellLoss := by
  simp only [Eng.postEvent, hqueue]

/-- Two seconds without a measurement end the lock on the fabric's time (R350). -/
theorem Eng.holdTime_of_locked {e : Eng} (hstate : e.tel.timeState = 2) (hdue : e.tel.lastMeas + 2000000000 ≤ e.now) :
    e.holdTime = Eng.timeState { e with tel := { e.tel with inLock := 0 } } 3 :=
  if_pos ⟨.inr hstate, hdue⟩

/-! ## The commands of time, epochs, events and the trace port -/

section
variable (s : State) {t : Nat} (ht : t < 2 ^ 64) (ha : s.eng.aonUp = true)

include ht ha

theorem exec_snapshotEpoch : exec (.snapshotEpoch t) s = .next (s.done t (s.found t).startEpoch) :=
  exec_of_aonDo (c := .snapshotEpoch t) rfl ht rfl ha rfl

theorem exec_eventPost : exec (.eventPost t) s = .next (s.done t (s.found t).postEvent) :=
  exec_of_aonDo (c := .eventPost t) rfl ht rfl ha rfl

theorem exec_ptpMeasurement (offset : Int) (ptp : Nat) :
    exec (.ptpMeasurement t offset ptp) s = .next (s.done t ((s.found t).measureTime offset)) :=
  exec_of_aonDo (c := .ptpMeasurement t offset ptp) rfl ht rfl ha rfl

theorem exec_ptpHoldover : exec (.ptpHoldover t) s = .next (s.done t (s.found t).holdTime) :=
  exec_of_aonDo (c := .ptpHoldover t) rfl ht rfl ha rfl

theorem exec_ringHoldoffEnd {ring : Nat} (hring : ring < 4) :
    exec (.ringHoldoffEnd t ring) s = .next (s.done t ((s.found t).signalRing ring)) :=
  exec_of_aonDo (c := .ringHoldoffEnd t ring) rfl ht (decide_eq_true hring) ha rfl

theorem exec_traceSend : exec (.traceSend t) s = .next (s.done t (s.found t).sendTrace) :=
  exec_of_aonDo (c := .traceSend t) rfl ht rfl ha rfl

end

end Sys2Proof.Machine

namespace Sys2Proof

open Machine

/-- Settles O37: what a count writes, and which bit of TEL_WRAPPED it sets. -/
theorem countersWrap : Obligations.CountersWrap := by
  intro e i n _ hlive hregs d old
  exact ⟨Eng.counter_count_self i n hlive, fun j hj => Eng.counter_count_other n hlive hj,
    fun j hj => Eng.wrapped_count hregs hj⟩

/-- Settles O36: each of the operations keeps the buffers within their sizes. -/
theorem telemetryBuffersAreBounded : Obligations.TelemetryBuffersAreBounded := by
  intro e hqueue hfifo hmarks ok
  have hb : e.tel.Bounded := ⟨hqueue, hfifo, hmarks⟩
  exact ⟨fun typ prio tag fs => Eng.bounded_raise typ prio tag fs hb,
    fun kind island ts fs => Eng.bounded_traceAt kind island ts fs hb, fun v => Eng.bounded_markRange v hb,
    Eng.bounded_startEpoch hb, Eng.bounded_sendTrace hb, fun i n => Eng.bounded_count i n hb⟩

/-- Settles O60: one law per command, and one per operation that acts under a condition. -/
theorem telemetryCommandsComplete : Obligations.TelemetryCommandsComplete := by
  intro s t ring ptp offset ht hring ha e
  refine ⟨exec_snapshotEpoch s ht ha, fun n q hqueue => ?_, exec_ptpMeasurement s ht ha offset ptp,
    fun hstate hdue => ?_, exec_ringHoldoffEnd s ht ha hring, fun b l hfifo hon => ?_⟩
  · rw [exec_eventPost s ht ha, Eng.postEvent_of_queued hqueue]
  · rw [exec_ptpHoldover s ht ha, Eng.holdTime_of_locked hstate hdue]
  · rw [exec_traceSend s ht ha, Eng.sendTrace_of_enabled hfifo (hon.trans_ne (by decide))]

end Sys2Proof

end

section
/-! The flash (12 R336): what reads, programs and erases do to its bytes, what the end of a bank operation does, and the
statement about it. -/

namespace Sys2Proof

/-- Keys that rise from a bound are above it. -/
theorem Tab.lt_of_mem_risingFrom {α : Type} {a : Nat} {m : Tab α} (h : Tab.risingFrom (some a) m = true) {p : Nat × α}
    (hp : p ∈ m) : a < p.1 := by
  induction m generalizing a with
  | nil => cases hp
  | cons q m ih =>
    obtain ⟨j, w⟩ := q
    simp only [Tab.risingFrom, Bool.and_eq_true, decide_eq_true_eq] at h
    obtain ⟨haj, hm⟩ := h
    obtain rfl | hp := List.mem_cons.mp hp
    · exact haj
    · exact haj.trans (ih hm hp)

end Sys2Proof

namespace Sys2Proof.Machine

/-! ## Bytes of the flash -/

theorem flashByte_cons_self (a : Nat) (v : Byte) (m : Tab Byte) : flashByte ((a, v) :: m) a = v := by
  simp [flashByte, Tab.getD, Tab.get?]

theorem flashByte_cons_above {k b : Nat} (v : Byte) (m : Tab Byte) (h : k < b) : flashByte ((k, v) :: m) b = flashByte m b := by
  simp [flashByte, Tab.getD, Tab.get?, h.ne, h.not_gt]

/-- Below the first cell listed the flash is erased. -/
theorem flashByte_cons_below {k b : Nat} (v : Byte) (m : Tab Byte) (h : b < k) : flashByte ((k, v) :: m) b = 0xFF := by
  simp [flashByte, Tab.getD, Tab.get?, h, h.ne']

/-- A read of cells that are listed from `a` on gives the bytes from `a` on. -/
theorem readFrom_eq (n a : Nat) (m : Tab Byte) (hwf : Tab.wf m = true) (hge : ∀ p ∈ m, a ≤ p.1) :
    readFrom n a m = (List.range' a n).map (flashByte m) := by
  induction n generalizing a m with
  | zero => rfl
  | succ n ih =>
    rw [List.range'_succ, List.map_cons]
    match m with
    | [] => exact congrArg (0xFF :: ·) (ih (a + 1) [] rfl (by simp))
    | (k, v) :: m =>
      have hrising : Tab.risingFrom (some k) m = true := Tab.wf_cons k v m ▸ hwf
      have hrest : ∀ p ∈ m, k < p.1 := fun p hp => Tab.lt_of_mem_risingFrom hrising hp
      obtain rfl | hlt := (hge (k, v) List.mem_cons_self).eq_or_lt
      · have htail : (List.range' (a + 1) n).map (flashByte m) = (List.range' (a + 1) n).map (flashByte ((a, v) :: m)) :=
          List.map_congr_left fun b hb => (flashByte_cons_above v m (List.mem_range'_1.mp hb).1).symm
        rw [readFrom, if_pos rfl, ih (a + 1) m (Tab.risingFrom_wf hrising) hrest, htail, flashByte_cons_self]
      · have hge' : ∀ p ∈ (k, v) :: m, a + 1 ≤ p.1 := List.forall_mem_cons.mpr ⟨hlt, fun p hp => hlt.trans (hrest p hp)⟩
        rw [readFrom, if_neg hlt.ne', ih (a + 1) _ hwf hge', flashByte_cons_below v m hlt]

/-- What is left of the flash's list where some cells are taken out: a byte that stays, or an erased one. -/
theorem flashByte_filter {m : Tab Byte} (f : Nat → Bool) (b : Nat) (hwf : Tab.wf m = true) :
    flashByte (m.filter fun p => f p.1) b = if f b then flashByte m b else 0xFF := by
  simp only [flashByte, Tab.getD, Tab.get?_filter _ _ hwf]
  cases f b
  · simp
  · cases Tab.get? m b <;> simp [Option.filter_some]

/-- A read gives the bytes of its range. -/
theorem readCells_eq {m : Tab Byte} (a n : Nat) (hwf : Tab.wf m = true) :
    readCells m a n = (List.range' a n).map (flashByte m) := by
  have hge : ∀ p ∈ m.filter fun p => decide (a ≤ p.1), a ≤ p.1 := fun p hp => by simpa using (List.mem_filter.mp hp).2
  rw [readCells, readFrom_eq n a _ (Tab.wf_filter _ hwf) hge]
  refine List.map_congr_left fun b hb => ?_
  rw [flashByte_filter (fun c => decide (a ≤ c)) b hwf, if_pos (decide_eq_true (List.mem_range'_1.mp hb).1)]

theorem readCells_getElem {m : Tab Byte} (a : Nat) {n i : Nat} (hwf : Tab.wf m = true) (hi : i < (readCells m a n).length) :
    (readCells m a n)[i] = flashByte m (a + i) := by
  simp only [readCells_eq a n hwf, List.getElem_map, List.getElem_range', Nat.one_mul]

theorem flashByte_eraseCells_in {a n b : Nat} {m : Tab Byte} (hwf : Tab.wf m = true) (hlo : a ≤ b) (hhi : b < a + n) :
    flashByte (eraseCells a n m) b = 0xFF := by
  rw [eraseCells, flashByte_filter (fun c => decide (c < a ∨ a + n ≤ c)) b hwf, if_neg (by simp; omega)]

theorem flashByte_eraseCells_out {a n b : Nat} {m : Tab Byte} (hwf : Tab.wf m = true) (h : b < a ∨ a + n ≤ b) :
    flashByte (eraseCells a n m) b = flashByte m b := by
  rw [eraseCells, flashByte_filter (fun c => decide (c < a ∨ a + n ≤ c)) b hwf, if_pos (decide_eq_true h)]

/-! ## The end of a bank operation (R336) -/

@[simp] theorem Eng.wrBuf_length (e : Eng) : e.wrBuf.length = 4096 := by
  simp only [Eng.wrBuf, List.length_flatMap, leBytes_length, List.map_const', List.sum_replicate, List.length_range,
    smul_eq_mul]

/-- The page that a program leaves from `a` on: the bits of the buffer and those of the flash that stand in both. -/
def Eng.programmed (e : Eng) (a : Nat) : Bytes := List.zipWith (· &&& ·) (readCells e.iml.flash.cells a 4096) e.wrBuf

theorem Eng.programmed_length {e : Eng} (a : Nat) (hwf : Tab.wf e.iml.flash.cells = true) :
    (e.programmed a).length = 4096 := by
  rw [Eng.programmed, List.length_zipWith, readCells_eq a 4096 hwf, List.length_map, List.length_range', Eng.wrBuf_length,
    Nat.min_self]

theorem Eng.programmed_getElem {e : Eng} {a i : Nat} (hwf : Tab.wf e.iml.flash.cells = true)
    (hi : i < (e.programmed a).length) :
    (e.programmed a)[i] = flashByte e.iml.flash.cells (a + i) &&& e.wrBuf.getD i 0 := by
  have hbuf : i < e.wrBuf.length := by rwa [Eng.wrBuf_length, ← Eng.programmed_length a hwf]
  simp only [Eng.programmed, List.getElem_zipWith, readCells_getElem a hwf, List.getD_eq_getElem _ _ hbuf]

/-- The flash holds other cells. -/
def Eng.setCells (e : Eng) (m : Tab Byte) : Eng := e.modIml fun i => { i with flash := { i.flash with cells := m } }

/-- An operation that is over has released the flash's pins, and its outcome is in the status (R336, R400). -/
theorem Eng.tellOp_iml (e : Eng) (op addr code : Nat) : (e.tellOp op addr code).iml =
    { e.iml with pins := {}, opBusy := none, wrState := if code = 0 then 2 else 3, wrCode := code } := by
  unfold Eng.tellOp
  extract_lets f g
  have hg : g.iml = f.iml := by
    unfold g
    split <;> rfl
  rw [Eng.raise_iml, hg]
  rfl

/-- A program that completes in time leaves its page programmed; its code says whether it holds the buffer. -/
theorem Eng.endFlashOp_of_program {e : Eng} {addr : Nat} (hop : e.iml.opBusy = some (1, addr)) (hlate : e.opLate 1 = false) :
    ∃ code, e.endFlashOp 0 = (e.setCells (writeCells (e.flashAddr addr) (e.programmed (e.flashAddr addr))
      e.iml.flash.cells)).tellOp 1 addr code := by
  unfold Eng.endFlashOp
  simp only [hop, hlate]
  exact ⟨_, rfl⟩

/-- An erase that completes in time leaves its range erased. -/
theorem Eng.endFlashOp_of_erase {e : Eng} {addr : Nat} (hop : e.iml.opBusy = some (0, addr)) (hlate : e.opLate 0 = false) :
    ∃ code, e.endFlashOp 0 = (e.setCells (eraseCells (e.flashAddr addr) 65536 e.iml.flash.cells)).tellOp 0 addr code := by
  unfold Eng.endFlashOp
  simp only [hop, hlate]
  exact ⟨_, rfl⟩

/-- The bytes that an operation may change: the 64 KiB of an erase, the 4 KiB of a program. -/
def opBytes (op : Nat) : Nat := if op = 0 then 65536 else 4096

/-- A completion beyond twice the maximum fails with code 4 and leaves its range as it may. -/
theorem Eng.endFlashOp_of_late {e : Eng} {op addr : Nat} (result : Nat) (hop : e.iml.opBusy = some (op, addr))
    (hkind : op < 2) (hlate : e.opLate op = true) :
    e.endFlashOp result = (e.spoilFlash (e.flashAddr addr) (opBytes op)).tellOp op addr 4 := by
  unfold Eng.endFlashOp
  obtain rfl | rfl : op = 0 ∨ op = 1 := by omega
  · simp [hop, hlate, opBytes]
  · simp [hop, hlate, opBytes]

/-- What a failed operation may leave in its range leaves every other byte as it was. -/
theorem Eng.flashByte_spoilFlash {e : Eng} {a n b : Nat} (hwf : Tab.wfD 0xFF e.iml.flash.cells = true)
    (h : b < a ∨ a + n ≤ b) : flashByte (e.spoilFlash a n).iml.flash.cells b = flashByte e.iml.flash.cells b :=
  flashByte_writeCells_out a b _ _ hwf (by simpa using h)

end Sys2Proof.Machine

namespace Sys2Proof

open Machine

/-- Settles O34: what the end of an operation does, and what is then left of each byte. -/
theorem flashOperationsActOnTheirBytes : Obligations.FlashOperationsActOnTheirBytes := by
  intro s t addr ht ha e a byte hwfD
  have hwf := wf_of_wfD hwfD
  refine ⟨fun hop hlate => ?_, fun hop hlate => ?_, fun op result hop hkind hlate => ?_⟩
  · obtain ⟨code, hend⟩ := Eng.endFlashOp_of_program hop hlate
    refine ⟨_, (exec_flashOpDone s ht ha 0).trans (by rw [hend]), ?_⟩
    simp only [byte]
    rw [Eng.tellOp_iml]
    have hlen : (e.programmed a).length = 4096 := Eng.programmed_length a hwf
    refine ⟨fun b hlo hhi => ?_, fun b hb => flashByte_writeCells_out _ _ _ _ hwfD (by rwa [hlen]),
      writeCells_wfD _ _ _ hwfD, rfl, rfl⟩
    obtain ⟨i, rfl⟩ := Nat.exists_eq_add_of_le hlo
    have hi : i < (e.programmed a).length := by omega
    rw [Nat.add_sub_cancel_left]
    exact (flashByte_writeCells_in a i _ _ hwfD hi).trans (Eng.programmed_getElem hwf hi)
  · obtain ⟨code, hend⟩ := Eng.endFlashOp_of_erase hop hlate
    refine ⟨_, (exec_flashOpDone s ht ha 0).trans (by rw [hend]), ?_⟩
    simp only [byte]
    rw [Eng.tellOp_iml]
    exact ⟨fun b hlo hhi => flashByte_eraseCells_in hwf hlo hhi, fun b hb => flashByte_eraseCells_out hwf hb,
      eraseCells_wfD _ _ _ hwfD, rfl, rfl⟩
  · refine ⟨_, (exec_flashOpDone s ht ha result).trans (by rw [Eng.endFlashOp_of_late result hop hkind hlate]), ?_⟩
    simp only [byte]
    rw [Eng.tellOp_iml]
    exact ⟨rfl, rfl, rfl, fun b hb => Eng.flashByte_spoilFlash hwfD hb⟩

end Sys2Proof

end
